-- ==== Sys2Proof/Word.lean ====
section
/-!
DEFINITION. The word types of the SX96: the 20-bit data store word (R105), the byte, and the 40-bit instruction (R125).
-/
namespace Sys2Proof

/-- One byte. -/
abbrev Byte := BitVec 8

/-- One data store word: 20 bits, bit 0 least significant (00_scope.md, Table 0-3; R105). -/
abbrev Word := BitVec 20

/-- One instruction: two 20-bit syllables (R125). -/
abbrev Code := BitVec 40

/-- A sparse store: strictly rising keys, every unlisted key reads as the store's default. -/
abbrev SMap (α : Type) := List (Nat × α)

end Sys2Proof
end

