-- ==== Sys2Proof/Syntax.lean ====
section
/-!
DEFINITION. The commands of the SX96: one constructor of `Instr` per row of spec/opcode_table.json, and the operand
types they carry. An operand is what reaches the module from outside at that event (a frame, a measured value, the
verdict of a check that the manual leaves to hardware or to a published standard, the instant `t` in ns of the module's running time).
-/
namespace Sys2Proof

/-- Traffic class, highest precedence first (R155). -/
inductive TClass where
  | s | a | b | c
  deriving DecidableEq, Repr

/-- State of a tandem in a lane plan (R96). -/
inductive PlanState where
  | joined | split | idle
  deriving DecidableEq, Repr

/-- A place that runs partitions: 0–15 tandem, 16–47 solo number + 16 (0x2011:04, R124). -/
abbrev Place := Fin 48

/-- A bit operand (R126–R128): word, bit index, and the stride code when X is 1. -/
structure BitOperand where
  word   : Word
  bit    : Fin 20
  stride : Option (Fin 8) := none
  deriving DecidableEq, Repr

/-- A word operand (R128): stride codes 0 to 6 only. -/
structure WordOperand where
  word   : Word
  stride : Option (Fin 7) := none
  deriving DecidableEq, Repr

/-- The SELFTEST checks of Table 3-2 (R58). -/
inductive SelfCheck where
  | clocks | crossings | memories | lanes | hub | dram | seam | network | doors | localIo | slot | images
  deriving DecidableEq, Repr

/-- A partition of a program image (R92). `places` holds its place in each lane plan. -/
structure Partition where
  number : Nat
  name   : String
  cls    : TClass
  entry  : Nat
  last   : Nat
  places : List Nat
  deriving DecidableEq, Repr

/-- A function body (R139): a contiguous range of instruction addresses. -/
structure FnBody where
  first : Nat
  last  : Nat
  deriving DecidableEq, Repr

/-- Kinds of state map entries (Table 7-2). -/
inductive MapKind where
  | bit | word | block | timer | counter | edge
  deriving DecidableEq, Repr

/-- A state map entry (R183). `bit` is used by BIT and EDGE, `size` by BLOCK. -/
structure MapEntry where
  name    : String
  kind    : MapKind
  address : Nat
  bit     : Nat := 0
  size    : Nat := 1
  reinit  : Bool := false
  deriving DecidableEq, Repr

/-- A program image (R92, R96, R113, R150, R183). The manual fixes no byte format for it. -/
structure Image where
  identity   : BitVec 32
  isaRev     : Nat
  costRev    : Nat
  code       : SMap Code
  partitions : List Partition
  functions  : List FnBody
  plans      : List (List PlanState)
  constants  : SMap Word
  stateMap   : List MapEntry
  deriving DecidableEq, Repr, Inhabited

/-- The ARG field of a pair message (Table 8-3). -/
inductive PairArg where
  | none
  | heartbeat (generation image : BitVec 32)
  | fault (cause : BitVec 16)
  | boundary (length : BitVec 32) (abandoned : Bool)
  | formats (lowest highest : BitVec 16) (firmware : BitVec 32)
  | ack (received resend : BitVec 16)
  deriving DecidableEq, Repr

/-- A pair message (Table 8-3, R207). `send` is SEND_S and SEND_NS as one count of ns. -/
structure PairMsg where
  kind          : Nat
  mode          : Nat
  slot          : Nat
  sync          : Bool
  seamUp        : Bool
  networkUp     : Bool
  stopByCommand : Bool
  weftSuspended : Bool
  pairId        : BitVec 32
  jersey        : BitVec 32
  cycle         : BitVec 40
  seq           : BitVec 16
  send          : Nat
  arg           : PairArg
  deriving DecidableEq, Repr

/-- The two heartbeat paths (R208). -/
inductive PairPath where
  | seam | network
  deriving DecidableEq, Repr

/-- A seam block as it arrives (Table 8-1); its CRC verdict is an operand of the command. -/
structure SeamBlock where
  type    : Nat
  last    : Bool
  laneSeq : BitVec 16
  tag     : BitVec 16
  offset  : Nat
  payload : List Byte
  deriving DecidableEq, Repr

/-- A station frame (Table 15-1) with the ring and source address it came with. `time` is TIME_S and TIME_NS in ns. -/
structure StationFrame where
  ring    : Bool
  source  : BitVec 48
  kind    : Nat
  station : Nat
  seq     : BitVec 16
  session : BitVec 16
  jersey  : BitVec 32
  cycle   : BitVec 40
  state   : BitVec 2
  time    : Nat
  payload : List Byte
  deriving DecidableEq, Repr

/-- A CAN frame (R356). -/
structure CanFrame where
  ide    : Bool
  fdf    : Bool
  brs    : Bool
  remote : Bool
  id     : BitVec 29
  data   : List Byte
  deriving DecidableEq, Repr

/-- An Ethernet frame as a port receives it (R329, R331, R344). `mark` is the MAC mark in units of 0.1 ns. -/
structure EthFrame where
  source      : BitVec 48
  dest        : BitVec 48
  hsrSeq      : BitVec 16
  supervision : Bool
  priority    : Option (Fin 8)
  etherType   : BitVec 16
  length      : Nat
  payload     : List Byte
  mark        : Nat
  deriving DecidableEq, Repr

/-- Carrier and source of an NSP frame (R428, R433); `mac` is the Ethernet source of the datagram. -/
inductive Carrier where
  | network (ring : Bool) (address : BitVec 32) (port : BitVec 16) (mac : BitVec 48)
  | door (channel : Fin 8)
  | fs
  deriving DecidableEq, Repr

/-- An NSP request frame (Table 17-4) with its carrier; `frameLength` is the length of the whole frame on the carrier. -/
structure NspReq where
  carrier     : Carrier
  frameLength : Nat
  version     : Nat
  flags       : BitVec 8
  session     : Nat
  seq         : BitVec 16
  length      : Nat
  index       : BitVec 16
  sub         : BitVec 8
  status      : Nat
  offset      : Nat
  total       : Nat
  reserved    : Nat
  body        : List Byte
  cmacOk      : Bool
  deriving DecidableEq, Repr

/-- A hub master's request (R264, R290). `data` is what a write carries, byte 0 at `address`. -/
structure HubAccess where
  master  : Nat
  write   : Bool
  address : Nat
  size    : Nat
  data    : List Byte
  deriving DecidableEq, Repr

/-- A request registered at an arbiter port: its master, the lines or codewords that it asks for, and the tick (R266, R267). -/
structure PortRequest where
  port   : Fin 16
  master : Nat
  lines  : Nat
  tick   : Nat
  deriving DecidableEq, Repr

/-- What a service transfer of a resynchronisation, a commit, a change or an update carries (R181, R230, R305, R426, R458). -/
inductive Service where
  | configuration (generation : BitVec 32) (format : Nat) (nums : SMap Int) (blobs : SMap (List Byte))
  | banks (active shadow : Option Image)
  | changeState (state : Nat)
  | plan (number : Fin 4)
  | changeImage (image : Image)
  | changeResult (image : BitVec 32) (admitted : Bool)
  | ruleSet (regions : SMap (BitVec 32 × BitVec 32 × BitVec 32))
  | firmware (image : List Byte)
  | stagingResult (result : BitVec 8)
  | firmwareConfirm
  | resyncEnd
  deriving DecidableEq, Repr

/-- The commands: one constructor per row of spec/opcode_table.json, in the table's order. -/
inductive Instr where
  -- start
  | powerGood (straps : BitVec 7) (partnerLow : Bool) (t : Nat)
  | kickstandInForce (selfCheckOk : Bool)
  | islandRelease (copyOk fallbackOk : Bool) (eraseFailed : Option (Fin 7))
  | lampTestEnd
  | selftestCheckDone (check : SelfCheck) (pass : Bool) (capacitance : Nat)
  | selftestTimeout
  | loadStepsDone (imageIntact : Bool) (t : Nat)
  | linkWaitExpiry
  | loadTimeout
  | partnerSearchStart (t : Nat)
  | searchWindowEnd (t : Nat)
  -- supply and hot swap
  | supplySample (a b : Int) (loadPower : Nat)
  | supplyGoodQualified (input : Fin 2)
  | rideThroughEnd
  | bankCharged (millivolts : Nat)
  | bankExhausted
  | powerFailRestart
  | matedSenseDebounce
  | extractionWithoutRelease
  | extractionLeverOpen
  | extractionLeverClose
  | extractionReady
  | extractionRefusedEnd
  | slotStrapChange
  | trimCoverChange (opened : Bool)
  | trimKeyPress (plus : Bool)
  | trimKeyRepeat (plus : Bool)
  | trimTargetTimeout
  | identify (seconds : BitVec 8)
  | identifyEnd
  | lampTest
  -- mode commands
  | start
  | stop
  | handover
  | warmRestart
  | automaticRestart
  -- the cycle
  | minimumCycleWaitEnd (t : Nat)
  | cycleBoundary (t : Nat) (testsEnded : List (Fin 16 × Bool))
  | xchPhaseEnd
  | solvePhaseEnd (t : Nat)
  | cycleWatchdogExpiry
  | signatureWindowEnd (tandem : Fin 16) (disturbance : BitVec 32)
  | snapshotPairCompare (tandem : Fin 16) (upset : Bool) (lag : Nat)
  | snapshotStreamLost (tandem : Fin 16)
  | cycleRelease (t : Nat)
  | pathWatchdogExpiry (p : Place)
  | illegalEncodingFetch (p : Place)
  -- solver instructions
  | nop (p : Place)
  | ld (p : Place) (n : Bool) (o : BitOperand)
  | andB (p : Place) (n : Bool) (o : BitOperand)
  | orB (p : Place) (n : Bool) (o : BitOperand)
  | xorB (p : Place) (n : Bool) (o : BitOperand)
  | st (p : Place) (n : Bool) (o : BitOperand)
  | setB (p : Place) (o : BitOperand)
  | rstB (p : Place) (o : BitOperand)
  | notA (p : Place)
  | seta (p : Place)
  | clra (p : Place)
  | lsat (p : Place)
  | br (p : Place)
  | bca (p : Place) (n : Bool)
  | bco (p : Place) (n : Bool)
  | bcx (p : Place) (n : Bool)
  | brt (p : Place)
  | re (p : Place) (o : BitOperand)
  | fe (p : Place) (o : BitOperand)
  | ton (p : Place) (o : WordOperand)
  | tof (p : Place) (o : WordOperand)
  | tp (p : Place) (o : WordOperand)
  | ctu (p : Place) (o : WordOperand)
  | ctd (p : Place) (o : WordOperand)
  | cld (p : Place) (o : WordOperand)
  | crs (p : Place) (o : WordOperand)
  | lwa (p : Place) (o : WordOperand) (symbols : Nat)
  | lwb (p : Place) (o : WordOperand)
  | swa (p : Place) (o : WordOperand)
  | swb (p : Place) (o : WordOperand)
  | lia (p : Place) (v : Word)
  | lib (p : Place) (v : Word)
  | xab (p : Place)
  | lix (p : Place)
  | add (p : Place) (u : Bool)
  | sub (p : Place) (u : Bool)
  | mul (p : Place) (u : Bool)
  | div (p : Place) (u : Bool)
  | mod (p : Place) (u : Bool)
  | neg (p : Place) (u : Bool)
  | abs (p : Place) (u : Bool)
  | min (p : Place) (u : Bool)
  | max (p : Place) (u : Bool)
  | wand (p : Place)
  | wor (p : Place)
  | wxor (p : Place)
  | shl (p : Place) (count : Fin 20)
  | shr (p : Place) (u : Bool) (count : Fin 20)
  | scl (p : Place) (u : Bool) (clamp : Bool) (o : WordOperand)
  | ceq (p : Place) (u : Bool)
  | cne (p : Place) (u : Bool)
  | clt (p : Place) (u : Bool)
  | cle (p : Place) (u : Bool)
  | cgt (p : Place) (u : Bool)
  | cge (p : Place) (u : Bool)
  | qts (p : Place) (fn : Fin 4) (o : BitOperand)
  | endP (p : Place)
  | jmp (p : Place) (target : Word)
  | jc (p : Place) (target : Word)
  | jnc (p : Place) (target : Word)
  | loop (p : Place) (count : Word)
  | endl (p : Place)
  | call (p : Place) (target : Word)
  | ret (p : Place)
  | xchInput (p : Place) (o : WordOperand) (answered : Bool)
  | xchOutput (p : Place) (o : WordOperand)
  | fence (p : Place)
  | xchPostLatch (p : Place)
  -- lane plans, mirror, online change
  | planRequest (plan : BitVec 8)
  | rejoinTestDone (tandem : Fin 16) (pass : Bool)
  | mirrorRecordCommitted
  | mirrorBaseComplete
  | changeImageWrite (image : Image)
  | changeLoadDone
  | standbyChangeResult (image : BitVec 32) (admitted : Bool)
  | changeDiscard (value : BitVec 8)
  | confirmCommand
  | undoCommand
  | confirmationDeadline
  -- seam link and pair
  | seamBlockReceived (lane : Fin 2) (block : SeamBlock) (crcOk : Bool) (t : Nat)
  | ackReceived (lane : Fin 2) (received resend : BitVec 16)
  | ackTimer (lane : Fin 2)
  | retransmitTimeout (lane : Fin 2) (seq : BitVec 16)
  | blockLockLoss (lane : Fin 2)
  | laneRetrainDone (lane : Fin 2)
  | blockLockAchieved (lane : Fin 2) (roundTrip : Nat)
  | hello (lane : Fin 2) (m : PairMsg)
  | seamHeartbeatTimer (t : Nat)
  | networkHeartbeatTimer (t : Nat)
  | heartbeat (path : PairPath) (m : PairMsg) (cmacOk : Bool) (t : Nat)
  | fault (path : PairPath) (m : PairMsg) (cmacOk : Bool) (t : Nat)
  | faultDeclarationRepeat (t : Nat)
  | leaving (path : PairPath) (m : PairMsg) (cmacOk : Bool) (t : Nat)
  | pathLost (path : PairPath) (t : Nat)
  | boundary (m : PairMsg) (t : Nat)
  | weftCommitDone (t : Nat)
  | handoverConfirm (path : PairPath) (m : PairMsg) (cmacOk : Bool) (t : Nat)
  | handoverAbort (t : Nat)
  | resyncRequestTimer (t : Nat)
  | resyncRequest (m : PairMsg) (t : Nat)
  | serviceTransferReceived (item : Service) (intact : Bool)
  | resyncSlow
  -- clocks, supervisor, scrubbing
  | clockMonitorInterval (counts : List Nat)
  | clockDeviationCheck (ppm : List Int)
  | referenceCheck (edges : Nat) (rcCount : Nat) (deviation : Int)
  | maskRomRecheck (crcOk : Bool)
  | railSample (millivolts : List Nat)
  | junctionRead (celsius : List Int)
  | windowWatchdogExpiry
  | scrubStep (store : Fin 5) (symbolsInError : List Nat)
  | supervisorReadback (sdo : BitVec 4) (ao : List Nat)
  -- hub
  | dramTrainingLoss (channel : Fin 2)
  | hubRequest (a : HubAccess) (symbolsInError : Nat)
  | arbiterDecision (arbiter : Fin 4) (requests : List PortRequest) (ended : Bool) (tick : Nat)
  | fixed15Revoke (arbiter : Fin 4) (request : PortRequest) (tick : Nat)
  | arbiterWatchdogTrip (arbiter : Fin 4)
  | arbiterCommit (arbiter : Fin 4)
  | dmaChainStart (engine : Fin 12) (head : BitVec 36) (session : Option (Fin 16))
  | dmaDescriptorDone (engine : Fin 12) (uncorrectable : Bool)
  | writeBufferDrain (engine : Fin 12)
  | lockTry (master : Nat) (lock : Fin 256)
  | lockWait (master : Nat) (lock : Fin 256)
  | lockRelease (master : Nat) (lock : Fin 256)
  | lockWaitTimeout (master : Nat) (lock : Fin 256)
  | sessionLockAcquire (session : Fin 16) (value : BitVec 8)
  | sessionLockRelease (session : Fin 16) (value : BitVec 8)
  | registerWrite (master : Nat) (address : BitVec 36) (value : BitVec 32)
  -- protection and lifecycle
  | rw2Proposal (session : Fin 16) (index : BitVec 16) (sub : BitVec 8) (value : List Byte) (t : Nat)
  | proposalConfirm (session : Fin 16) (number : BitVec 16) (digest : BitVec 32) (erasedOk : Bool) (t : Nat)
  | proposalWithdraw (session : Fin 16) (number : BitVec 16)
  | proposalDeadline (number : BitVec 16)
  | ruleCommitPoint
  | drainEnd (ticks : Nat)
  | revertShadowSet (value : BitVec 8)
  | debugPortAccess (write : Bool) (address : Option Nat) (data : List Byte) (size : Nat)
  -- crossings and single-island resets
  | crossingOpen (crossing : Fin 18) (agreed : Bool)
  | crossingClose (crossing : Fin 18)
  | registerAccessTimeout (island : Fin 8)
  | islandReset (value : BitVec 8)
  | islandResetAssert
  | islandResetRelease
  | islandResetLoopbackDone (pass : Bool)
  -- plant network and time
  | linkChange (port : Fin 4) (state : Fin 4)
  | networkFrameReceived (port : Fin 4) (f : EthFrame) (fcsOk : Bool) (t : Nat)
  | discardEntryExpiry (ring : Bool) (source : BitVec 48) (seq : BitVec 16)
  | supervisionFrameTimer (ring : Bool) (t : Nat)
  | arpRequest (ring : Bool) (target : BitVec 32) (sender : BitVec 48)
  | icmpEcho (ring : Bool) (target : BitVec 32) (sender : BitVec 48) (data : List Byte)
  | gateEntryEnd (port : Fin 4) (t : Nat)
  | gateListChange (port : Fin 4) (t : Nat)
  | launchGuard (port : Fin 4) (t : Nat)
  | launchTime (t : Nat)
  | lateLaunchClear
  | syncReceived (domain : Fin 2) (grandmaster : BitVec 64) (offset : Int) (t : Nat)
  | peerDelayTimer (port : Fin 4) (delay : Nat)
  | syncReceiptTimeout (domain : Fin 2)
  | domainRevert
  | holdoverExpiry
  | timeStep (value : BitVec 8)
  -- stations, guests, event loom
  | announce (f : StationFrame) (cmacOk : Bool) (t : Nat)
  | input (f : StationFrame) (cmacOk : Bool) (t : Nat)
  | event (f : StationFrame) (cmacOk : Bool) (t : Nat)
  | stationLeaving (f : StationFrame) (cmacOk : Bool) (t : Nat)
  | stationInputTimeout (station : Fin 1024) (t : Nat)
  | stationResyncSlow (station : Fin 1024)
  | guestAnnounce (f : StationFrame) (cmacOk : Bool) (t : Nat)
  | guestInput (f : StationFrame) (cmacOk : Bool) (t : Nat)
  | guestTimeout (slot : Fin 64)
  | loomReport (t : Nat)
  | eventCoalesceExpiry (cls : TClass) (key : BitVec 32)
  | eventOpenLimit (cls : TClass) (key : BitVec 32)
  | eventRead (session : Fin 16)
  -- door buses
  | canFrameReceived (channel : Fin 8) (f : CanFrame) (cmacOk : Bool) (t : Nat)
  | doorLaunch (channel : Fin 8) (t : Nat)
  | doorMessageAcknowledged (channel : Fin 8) (t : Nat)
  | doorTransmitError (channel : Fin 8) (ackError : Bool) (t : Nat)
  | doorMessageExpiry (channel : Fin 8) (object : Fin 256) (t : Nat)
  | busOffRecovery (channel : Fin 8) (value : BitVec 8)
  | busOffRecoveryDone (channel : Fin 8)
  | referenceMessageSend (channel : Fin 8) (t : Nat)
  | referenceMessage (channel : Fin 8) (priority : Fin 8) (cycleCount : Fin 64) (t : Nat)
  | columnMark (channel : Fin 8) (column : Fin 32) (t : Nat)
  | timeMasterLost (channel : Fin 8)
  | serviceSegment (channel : Fin 8) (data : List Byte) (t : Nat)
  | serviceReassemblyTimeout (channel : Fin 8)
  -- local field I/O
  | aiSample (raw : List Nat)
  | aiFailureDelay (input : Fin 8)
  | aoShortfall (output : Fin 8)
  | shortfallClear (output : Fin 8)
  | testPulse (source : Fin 2)
  | sdiSample (levels : BitVec 8) (pulse : Option (Fin 2)) (pulseEnd : Bool)
  | sdiFilterExpiry (input : Fin 8)
  | discrepancyTime (pair : Fin 4)
  | sdiFaultCauseGone (input : Fin 8)
  | sdoSupplyLow
  | sdoSupplyGood (millivolts : Nat)
  | darkTest (output : Fin 4) (staysEnergised : Bool)
  | trimTarget (value : BitVec 8)
  | trimAction (value : BitVec 8)
  | trimCorrectionWrite (span : Bool) (value : Int)
  -- object dictionary and NSP
  | nspRead (q : NspReq) (t : Nat)
  | nspWrite (q : NspReq) (t : Nat)
  | groupRead (q : NspReq) (t : Nat)
  | groupWrite (q : NspReq) (t : Nat)
  | describe (q : NspReq) (t : Nat)
  | dataRead (q : NspReq) (t : Nat)
  | dataWrite (q : NspReq) (t : Nat)
  | dataWriteMasked (q : NspReq) (t : Nat)
  | openS (q : NspReq) (nonce : BitVec 128) (t : Nat)
  | prove (q : NspReq) (t : Nat)
  | close (q : NspReq) (t : Nat)
  | keepalive (q : NspReq) (t : Nat)
  | abort (q : NspReq) (t : Nat)
  | proveTimeout (session : Fin 16)
  | sessionTimeout (session : Fin 16)
  | openBarExpiry (party : Fin 9)
  | domainSnapshotExpiry (session : Fin 16)
  | domainWriteTimeout (session : Fin 16)
  | revertShadow (value : BitVec 8)
  -- firmware update
  | firmwareImageWrite (session : Fin 16) (offset total : Nat) (data : List Byte) (last : Bool)
  | stagingCheckDone (signatureOk hashOk flashOk : Bool)
  | discardStaged (value : BitVec 8)
  | firmwareConfirm (value : BitVec 8)
  | pairUpdateStateTimeout
  -- the quilt event recorder
  | operatingSecond
  | quiltBufferWrite (oldestWaited : Bool)
  | quiltFlush
  | quiltFlushEnd (duration : Nat)
  | counterRecordWrite
  | quiltRead (session : Fin 16)
  -- later rows
  | partnerPresentChange (low : Bool)
  | fsAttachment (attached : Bool)
  | trimKeyRelease (plus : Bool)
  | grandmasterSyncTimer (domain : Fin 2) (t : Nat)
  | frameTransmitted (port : Fin 4) (t : Nat)
  | seamBlockTransmitted (lane : Fin 2) (t : Nat)
  | canReceiveError (channel : Fin 8)
  | canIntegration (channel : Fin 8)
  | doorBusWarningClear (channel : Fin 8)
  | doorReceiveChecksClear (channel : Fin 8)
  | outputWordLatch
  | restartReset (selfCheckOk : Bool) (t : Nat)
  | partnerStagingResult (result : Fin 12)
  deriving DecidableEq, Repr

end Sys2Proof
end

