-- ==== Sys2Proof/Decode.lean ====
section
/-!
DEFINITION. The command that a word spells by the bits of spec/opcode_table.json. No row of the table gives bits: a
command is an event with operands, not a word.
-/
namespace Sys2Proof

/-- The command a table word spells: none, since no row of the table has bits. -/
def decodeTableWord (_nbits _w : Nat) : Option Instr := none

end Sys2Proof
end

