-- ==== Sys2Proof/Machine/Flags.lean ====
section
/-!
DEFINITION. Word formats and saturation (R90, Table 4-2, 04_logic_solver.md): how an exact result becomes a word, and
when SAT is set. The SX96 has one flag of this kind, SAT.
-/
namespace Sys2Proof.Machine

/-- Value of a word in the format that U selects: U20, or S20 in two's complement (R90). -/
def wordVal (u : Bool) (w : Word) : Int := if u then Int.ofNat w.toNat else w.toInt

/-- Largest value of a format (R90). -/
def formatMax (u : Bool) : Int := if u then 1048575 else 524287

/-- Smallest value of a format (R90). -/
def formatMin (u : Bool) : Int := if u then 0 else -524288

/-- An exact result brought into the format, and whether that sets SAT (Table 4-2). -/
def narrow (u : Bool) (v : Int) : Word × Bool :=
  if formatMax u < v then (BitVec.ofInt 20 (formatMax u), true)
  else if v < formatMin u then (BitVec.ofInt 20 (formatMin u), true)
  else (BitVec.ofInt 20 v, false)

/-- Result of a division by zero for its dividend; SAT is set (Table 4-2). -/
def divideByZero (u : Bool) (dividend : Int) : Int :=
  if 0 < dividend then formatMax u else if dividend < 0 then formatMin u else 0

/-- Division truncated toward zero and brought into the format (R90). -/
def divide (u : Bool) (a b : Int) : Word × Bool :=
  if b = 0 then (BitVec.ofInt 20 (divideByZero u a), true) else narrow u (a.tdiv b)

end Sys2Proof.Machine
end

