-- ==== Sys2Proof/Machine/Bits.lean ====
section
/-!
DEFINITION. Helpers that every family uses: sparse stores, saturating counters, little-endian bytes, bit strings and
the two CRCs of the manual.
-/
namespace Sys2Proof.Machine

/-- Value of key `k`; an unlisted key reads as the default `d`. -/
def mapVal {α : Type} (d : α) (k : Nat) : SMap α → α
  | [] => d
  | (j, v) :: r => if j = k then v else mapVal d k r

/-- Key `k` set to `v`: keys stay strictly rising, and a value equal to the default is not listed. -/
def mapPut {α : Type} [DecidableEq α] (d : α) (k : Nat) (v : α) : SMap α → SMap α
  | [] => if v = d then [] else [(k, v)]
  | (j, w) :: r =>
    if k < j then (if v = d then (j, w) :: r else (k, v) :: (j, w) :: r)
    else if j = k then (if v = d then r else (k, v) :: r)
    else (j, w) :: mapPut d k v r

/-- Key `k` changed by `f`. -/
def mapMod {α : Type} [DecidableEq α] (d : α) (k : Nat) (f : α → α) (m : SMap α) : SMap α :=
  mapPut d k (f (mapVal d k m)) m

/-- Every listed key below `k` away from it, strictly rising, no value equal to the default: the canonical form. -/
def mapWfFrom {α : Type} [DecidableEq α] (d : α) (lo : Nat) : SMap α → Bool
  | [] => true
  | (j, v) :: r => decide (lo ≤ j) && decide (v ≠ d) && mapWfFrom d (j + 1) r

/-- The canonical form of a sparse store. -/
def mapWf {α : Type} [DecidableEq α] (d : α) (m : SMap α) : Bool := mapWfFrom d 0 m

/-- Every listed value changed by `f`; values that become the default leave the list. -/
def mapAll {α : Type} [DecidableEq α] (d : α) (f : Nat → α → α) (m : SMap α) : SMap α :=
  (m.map fun p => (p.1, f p.1 p.2)).filter fun p => decide (p.2 ≠ d)

/-- Insert a number in a strictly rising list. -/
def insertNat (k : Nat) : List Nat → List Nat
  | [] => [k]
  | j :: r => if k < j then k :: j :: r else if j = k then j :: r else j :: insertNat k r

/-- Insert by a key that rises along the list; an equal key goes behind. -/
def insertBy {α : Type} (key : α → Nat) (x : α) : List α → List α
  | [] => [x]
  | y :: r => if key x < key y then x :: y :: r else y :: insertBy key x r

/-- A list in rising order of a key, stable. -/
def sortBy {α : Type} (key : α → Nat) (l : List α) : List α := l.foldl (fun a x => insertBy key x a) []

/-- The numbers `lo, lo+1, …`, `n` of them. -/
def rangeFrom (lo n : Nat) : List Nat := (List.range n).map (lo + ·)

/-- Counter saturated at 0xFFFF_FFFF (U32 entries that "saturate"). -/
def satU32 (n : Nat) : Nat := min n 0xFFFFFFFF

/-- Counter saturated at 0xFFFF (U16 entries that "saturate"). -/
def satU16 (n : Nat) : Nat := min n 0xFFFF

/-- Little-endian bytes of `v`, `n` of them. -/
def leBytes : Nat → Nat → List Byte
  | 0, _ => []
  | n + 1, v => BitVec.ofNat 8 v :: leBytes n (v / 256)

/-- Number that little-endian bytes spell. -/
def ofLe : List Byte → Nat
  | [] => 0
  | b :: r => b.toNat + 256 * ofLe r

/-- Bytes `o` to `o + n - 1` of a frame; bytes past its end are absent. -/
def slice (o n : Nat) (l : List Byte) : List Byte := (l.drop o).take n

/-- Little-endian number at byte `o`, `n` bytes long. -/
def fieldLe (o n : Nat) (l : List Byte) : Nat := ofLe (slice o n l)

/-- Byte `o` of a list; zero past its end. -/
def byteAt (o : Nat) (l : List Byte) : Byte := (l.drop o).headD 0

/-- Bit `i` of a bit string packed least significant bit first. -/
def bitAt (i : Nat) (l : List Byte) : Bool := (byteAt (i / 8) l).getLsbD (i % 8)

/-- Bits packed least significant bit first, padded to whole bytes; structural on the number of bytes. -/
def packBytes : Nat → List Bool → List Byte
  | 0, _ => []
  | n + 1, bs =>
    (List.range 8).foldl (fun (b : Byte) i => if (bs.getD i false) then b ||| (1#8 <<< i) else b) 0
      :: packBytes n (bs.drop 8)

/-- A bit string padded to a whole byte. -/
def packBits (bs : List Bool) : List Byte := packBytes ((bs.length + 7) / 8) bs

/-- One byte of a CRC-32 whose bits go least significant first; `poly` is the reflected polynomial. -/
def crcByteLsb (poly : BitVec 32) (c : BitVec 32) (b : Byte) : BitVec 32 :=
  (List.range 8).foldl (fun c _ => if c.getLsbD 0 then (c >>> 1) ^^^ poly else c >>> 1) (c ^^^ b.setWidth 32)

/-- Reflected form of polynomial 0x1EDC6F41 (R236). -/
def polySignature : BitVec 32 := 0x82F63B78

/-- Reflected form of polynomial 0x04C11DB7 (R201). -/
def polyIeee : BitVec 32 := 0xEDB88320

/-- CRC-32 of bytes with the polynomial of R201, initial value and final inversion all ones (08_redundant_pair.md). -/
def crc32 (l : List Byte) : BitVec 32 := (l.foldl (crcByteLsb polyIeee) 0xFFFFFFFF) ^^^ 0xFFFFFFFF

/-- Bits `lo + n - 1` to `lo` of a number. -/
def bitsOf (v lo n : Nat) : Nat := (v / 2 ^ lo) % 2 ^ n

end Sys2Proof.Machine
end

