-- ==== Sys2Proof/Machine/Cmac.lean ====
section
/-!
DEFINITION. AES-128 and AES-CMAC, truncated to 64 bits, as the messages of the pair, the station frames and the door bus frames
carry it (08_redundant_pair.md R207; 14_door_buses.md R365; 15_stations_and_io_exchange.md R382). The manual names the two
algorithms; their steps are those of the published standards. PRESUMED (assumption log 8).
-/
namespace Sys2Proof.Machine

/-- Multiplication by x in the field of AES. -/
def aesTimes2 (b : Byte) : Byte := (b <<< 1) ^^^ (if b.msb then 0x1B else 0)

/-- Product in the field of AES, over the bits of `b` from bit 0 up. -/
def aesMul (a b : Byte) : Byte :=
  ((List.range 8).foldl (fun (p : Byte × Byte) i => (aesTimes2 p.1, if b.getLsbD i then p.2 ^^^ p.1 else p.2)) (a, 0)).2

/-- Inverse in the field of AES, the 254th power; 0 for 0. -/
def aesInverse (a : Byte) : Byte :=
  ((List.range 7).foldl (fun (p : Byte × Byte) _ => (aesMul p.1 p.1, aesMul p.2 (aesMul p.1 p.1))) (a, 1)).2

/-- The S-box of AES. -/
def aesSub (a : Byte) : Byte :=
  let i := aesInverse a
  i ^^^ i.rotateLeft 1 ^^^ i.rotateLeft 2 ^^^ i.rotateLeft 3 ^^^ i.rotateLeft 4 ^^^ 0x63

/-- Byte `i` of a list, 0 beyond its end. -/
def aesByte (l : List Byte) (i : Nat) : Byte := l.getD i 0

/-- Bytewise exclusive or, as long as the first list. -/
def xorBytes (a b : List Byte) : List Byte := (List.range a.length).map fun i => aesByte a i ^^^ aesByte b i

/-- The round key after `k`, with its round constant. -/
def aesNextKey (k : List Byte) (rcon : Byte) : List Byte :=
  let w (i : Nat) : List Byte := (k.drop (4 * i)).take 4
  let t := xorBytes [aesSub (aesByte k 13), aesSub (aesByte k 14), aesSub (aesByte k 15), aesSub (aesByte k 12)] [rcon]
  let w0 := xorBytes (w 0) t
  let w1 := xorBytes (w 1) w0
  let w2 := xorBytes (w 2) w1
  w0 ++ w1 ++ w2 ++ xorBytes (w 3) w2

/-- SubBytes and ShiftRows: byte `i` holds row `i mod 4` of column `i / 4`. -/
def aesShift (l : List Byte) : List Byte := (List.range 16).map fun i => aesSub (aesByte l ((i + 4 * (i % 4)) % 16))

/-- MixColumns. -/
def aesMix (l : List Byte) : List Byte :=
  (List.range 16).map fun i =>
    let c (j : Nat) : Byte := aesByte l (4 * (i / 4) + (i + j) % 4)
    aesTimes2 (c 0) ^^^ (aesTimes2 (c 1) ^^^ c 1) ^^^ c 2 ^^^ c 3

/-- One of rounds 1 to 9: state, round key and round constant go on. -/
def aesRound (p : List Byte × List Byte × Byte) : List Byte × List Byte × Byte :=
  let k := aesNextKey p.2.1 p.2.2
  (xorBytes (aesMix (aesShift p.1)) k, k, aesTimes2 p.2.2)

/-- AES-128 of a block of 16 bytes. -/
def aesEncrypt (key block : List Byte) : List Byte :=
  let p := (List.range 9).foldl (fun p _ => aesRound p) (xorBytes block key, key, 1)
  xorBytes (aesShift p.1) (aesNextKey p.2.1 p.2.2)

/-- Doubling of a block in the field of CMAC. -/
def cmacDouble (l : List Byte) : List Byte :=
  (List.range 16).map fun i =>
    (aesByte l i <<< 1) ^^^ (if (aesByte l (i + 1)).msb ∧ i < 15 then 1 else 0) ^^^
      (if i = 15 ∧ (aesByte l 0).msb then 0x87 else 0)

/-- The last block of a message, masked with the subkey of a whole or of a padded block. -/
def cmacLast (key rest : List Byte) : List Byte :=
  let k1 := cmacDouble (aesEncrypt key (List.replicate 16 0))
  if rest.length = 16 then xorBytes rest k1
  else xorBytes (rest ++ 0x80 :: List.replicate (15 - rest.length) 0) (cmacDouble k1)

/-- AES-CMAC of a message under a key of 16 bytes. -/
def cmacWhole (key msg : List Byte) : List Byte :=
  let n := (msg.length - 1) / 16
  let x := (List.range n).foldl (fun x i => aesEncrypt key (xorBytes ((msg.drop (16 * i)).take 16) x)) (List.replicate 16 0)
  aesEncrypt key (xorBytes (cmacLast key (msg.drop (16 * n))) x)

/-- AES-CMAC truncated to its first 64 bits. -/
def cmac (key msg : List Byte) : List Byte := (cmacWhole key msg).take 8

end Sys2Proof.Machine
end

