-- ==== Sys2Proof/Machine/State/Diag.lean ====
section
/-!
DEFINITION. State of diagnostics (09_diagnostics_and_safe_state.md) and of clock islands and crossings
(12_clock_islands.md). [DC1] marks a reset value the spec does not give (assumption log 1).
-/
namespace Sys2Proof.Machine

/-- A snapshot pair on a tandem's stream (R237, R238, 09_diagnostics_and_safe_state.md). -/
structure Snapshot where
  /-- Leading lane's snapshot. -/
  lead : BitVec 32
  /-- Trailing lane's snapshot. -/
  trail : BitVec 32
  /-- The pair was produced in a solve phase (R239). -/
  inSolve : Bool := false
  deriving DecidableEq, Repr

/-- One scrubber (R248, 09_diagnostics_and_safe_state.md). -/
structure Scrubber where
  /-- Next line. [DC1] -/
  next : Nat := 0
  /-- The scrubber has made a step since the start. -/
  started : Bool := false
  /-- Instant of the start of the pass, ns. [DC1] -/
  passStart : Nat := 0
  /-- Time of the last full pass, ns (0xA002). [DC1] -/
  passTime : Nat := 0
  /-- Lines corrected on consecutive passes: line and count (R247). -/
  corrected : SMap Nat := []
  /-- Lines corrected in the present pass (R247). -/
  thisPass : List Nat := []
  /-- Lines queued for a corrected rewrite (R245). -/
  rewrites : List Nat := []
  deriving DecidableEq, Repr

/-- One internal rail (R242, 09_diagnostics_and_safe_state.md). -/
structure Rail where
  /-- Last sample, mV (0xA003:02). [DC1] -/
  millivolts : Nat := 0
  /-- Consecutive samples below the band. -/
  low : Nat := 0
  /-- Consecutive samples above the band. -/
  high : Nat := 0
  deriving DecidableEq, Repr

/-- Diagnostics and safe state (09_diagnostics_and_safe_state.md). -/
structure Diag where
  /-- Safe-state latch; set by the loss of power-good (R240, 0xA000:05). -/
  latch : Bool := true
  /-- The window watchdog holds islands 1, 4, 5 and 7 in reset (R494). -/
  watchdogHeld : Bool := false
  /-- Fault detail (Table 9-8, 0xA000:01). -/
  detail : Nat := 0
  /-- Fault cycle (0xA000:02). -/
  cycle : BitVec 40 := 0
  /-- Fault operating hours, s (0xA000:03). -/
  hours : Nat := 0
  /-- Secondary faults, saturating U16 (R253, 0xA000:04). -/
  secondary : Nat := 0
  /-- Snapshot streams by tandem, oldest first, at most 64 pairs (R238). -/
  streams : SMap (List Snapshot) := []
  /-- Tandem comparator verdicts still to be held against the backstop, per stream (R238). -/
  verdicts : SMap (List Bool) := []
  /-- The backstop has found a disagreement or a missing stream in this cycle (R239). -/
  disagreed : Bool := false
  /-- Windows compared, since the last start (0xA004:01). -/
  windows : Nat := 0
  /-- Backstop lag peak, ns (0xA004:02). -/
  lagPeak : Nat := 0
  /-- Stored lines with symbols in error, by 2^28 × store + line: their number; an unlisted line has none (R245). -/
  upsets : SMap Nat := []
  /-- Data store corrections, saturating U32 (R245, 0xA001:01). -/
  dataCorrections : Nat := 0
  /-- Program store corrections (0xA001:02). -/
  programCorrections : Nat := 0
  /-- SRAM corrections (0xA001:03). -/
  sramCorrections : Nat := 0
  /-- DRAM corrections, both channels (0xA001:04). -/
  dramCorrections : Nat := 0
  /-- DRAM uncorrectable codewords (R246, 0xA001:05). -/
  dramUncorrectable : Nat := 0
  /-- Output frames lost to DRAM (Table 9-3, 0xA001:06). -/
  framesLost : Nat := 0
  /-- Persistent correction store (R247, 0xA001:07). -/
  persistentStore : Nat := 0
  /-- Persistent correction line (R247, 0xA001:08). -/
  persistentLine : Nat := 0
  /-- Uncorrectable codewords per channel within one operating hour: operating seconds of each (R246). -/
  hourErrors : SMap (List Nat) := []
  /-- Uncorrectable codewords per channel within 1 s: instants in ns (R261). -/
  secondErrors : SMap (List Nat) := []
  /-- Scrubbers: data store. -/
  scrubData : Scrubber := {}
  /-- Scrubbers: program store. -/
  scrubProgram : Scrubber := {}
  /-- Scrubbers: on-chip SRAM. -/
  scrubSram : Scrubber := {}
  /-- Scrubbers: DRAM channel 0. -/
  scrubDram0 : Scrubber := {}
  /-- Scrubbers: DRAM channel 1. -/
  scrubDram1 : Scrubber := {}
  /-- Scrub overruns, saturating U32 (R248, 0xA002:05). -/
  overruns : Nat := 0
  /-- Internal rails 1 to 6 (R242). -/
  rails : SMap Rail := []
  /-- Junction temperatures of islands 1 to 4, °C (R243). [DC1] -/
  junctions : SMap Int := []
  /-- Consecutive readings at 125 °C or above per island (R243). -/
  hot : SMap Nat := []
  /-- Peak junction temperature since the last start (0xA003:04). [DC1] -/
  peak : Option Int := none
  /-- Readback mismatches, saturating U32 (R250, 0xA005:01). -/
  mismatches : Nat := 0
  deriving DecidableEq, Repr

/-- One clock island (R312, Table 12-2, 12_clock_islands.md). -/
structure Island where
  /-- STATE: 0 held in reset, 1 released, 2 running, 3 stopped and held in reset (0xC000:02). -/
  state : Nat := 0
  /-- COUNT: edges in the last monitor interval (0xC000:03). -/
  count : Nat := 0
  /-- STOPPED. -/
  stopped : Bool := false
  /-- OUT_OF_BAND. -/
  outOfBand : Bool := false
  /-- LOCKED. -/
  locked : Bool := false
  /-- SOURCE of island 7: 0 local reference, 1 lane 0, 2 lane 1 (R315). -/
  source : Nat := 0
  /-- Frequency deviation over the last 1 s, ppm (0xC000:06). [DC1] -/
  deviation : Int := 0
  /-- Consecutive 1 s measurements within the limit while the alarm stands (R313). -/
  withinLimit : Nat := 0
  /-- Lock losses and source changes since the last start (0xC000:08). -/
  changes : Nat := 0
  /-- Single-island resets since the last start (0xC000:09). -/
  resets : Nat := 0
  deriving DecidableEq, Repr

/-- One crossing (R319, R320, Table 12-4, 12_clock_islands.md). -/
structure Crossing where
  /-- 0 closed, 1 opening, 2 open (0xC001:02). -/
  state : Nat := 0
  /-- Items discarded at close (0xC001:03). -/
  discarded : Nat := 0
  /-- Writes while closed (0xC001:04). -/
  closedWrites : Nat := 0
  /-- Value replacements (0xC001:05). -/
  replacements : Nat := 0
  /-- Instant until which the holding register of a value crossing waits for its acknowledge, ns (R316). -/
  busyUntil : Nat := 0
  /-- A value waits in the pending register of a value crossing (R316). -/
  waits : Bool := false
  /-- Agreement retries (0xC001:06). -/
  retries : Nat := 0
  /-- Register accesses failed (0xC001:07). -/
  accessesFailed : Nat := 0
  /-- Openings since the last start (0xC001:08). -/
  openings : Nat := 0
  deriving DecidableEq, Repr

/-- Stages of a single-island reset (R324). -/
inductive ResetStage where
  | scheduled | asserted | loopback
  deriving DecidableEq, Repr

/-- Islands and crossings (12_clock_islands.md). -/
structure Islands where
  /-- Islands 1 to 9 (Table 12-1). -/
  islands : SMap Island := []
  /-- Crossings 1 to 18 (Table 12-4). -/
  crossings : SMap Crossing := []
  /-- Single-island reset in progress: island and stage (R324). -/
  reset : Option (Nat × ResetStage) := none
  /-- Island reset result (0xC002:02). -/
  resetResult : Nat := 0
  deriving DecidableEq, Repr

end Sys2Proof.Machine
end

