-- ==== Sys2Proof/Machine/State/Door.lean ====
section
/-!
DEFINITION. State of the door buses (14_door_buses.md). [DC1] marks a reset value the spec does not give
(assumption log 1).
-/
namespace Sys2Proof.Machine

/-- A queued door message (R367, R369, 14_door_buses.md). -/
structure DoorMsg where
  /-- Home channel. -/
  home : Nat
  /-- Object. -/
  object : Nat
  /-- This copy is on the twin of the home channel (FLAGS bit 0, R377). -/
  twin : Bool
  /-- SEQ. -/
  seq : BitVec 16
  /-- Frame bytes before the CMAC (R365), or the user data without an envelope. -/
  data : List Byte
  /-- Identifier (Table 14-6). -/
  id : BitVec 29
  /-- Launch time in ns of the time base (R368). -/
  launch : Option Nat
  /-- Expiry in ns of the time base; none without LIFETIME (R369). -/
  expiry : Option Nat
  /-- Cycle that queued it (R239). -/
  cycle : BitVec 40
  deriving DecidableEq, Repr

/-- A complete received door message (R364, R366, 14_door_buses.md). -/
structure DoorRx where
  /-- User data. -/
  data : List Byte
  /-- SEQ. -/
  seq : BitVec 16
  /-- Receive timestamp, ns of the time base. -/
  stamp : Nat
  /-- It came on the twin channel. -/
  twin : Bool
  deriving DecidableEq, Repr

/-- Message object state (R364–R369, 14_door_buses.md). -/
structure DoorObject where
  /-- Receive: the latest complete message. -/
  latest : Option DoorRx := none
  /-- Receive: the message frozen for this cycle (R16). -/
  frozen : Option DoorRx := none
  /-- Receive: last accepted SEQ (R366). Transmit: SEQ of the last message queued (R367). -/
  seq : BitVec 16 := 0
  /-- Receive: a SEQ has been accepted since the last start or takeover (R366). -/
  seqValid : Bool := false
  /-- Receive: SEQ of the data of the previous XCH phase (Table 14-8 NEW). -/
  previousSeq : Option (BitVec 16) := none
  /-- Receive: consecutive cycles without a fresh message (R364, R390). -/
  missed : Nat := 0
  /-- Transmit: due time, ns of the time base (R367). -/
  due : Nat := 0
  /-- Transmit: words of the last queued message (R367). -/
  lastWords : List Word := []
  /-- Transmit: instant of the last queued message (R367). -/
  queuedAt : Nat := 0
  /-- Transmit: RESULT (Table 14-9). -/
  result : Nat := 0
  /-- Transmit: SEQ of the last message acknowledged on either channel (R369, R377). -/
  acked : Option (BitVec 16) := none
  /-- Transmit: SUPERSEDED since the previous XCH phase (Table 14-9). -/
  superseded : Bool := false
  /-- Transmit: one message is still to be queued as the first cycle's (R367). -/
  firstDone : Bool := false
  deriving DecidableEq, Repr

/-- Time master and schedule matrix of a channel (R370–R374, 14_door_buses.md). -/
structure DoorTime where
  /-- Current master: none heard, this module, or another (Table 14-7 MASTER). -/
  master : Nat := 0
  /-- Current master priority; none 0xFF (0x7020:07). -/
  priority : Option Nat := none
  /-- Master changes, saturating U32 (0x7020:08). -/
  changes : Nat := 0
  /-- Cycle count of the present basic cycle (R370). -/
  cycleCount : Nat := 0
  /-- Instant of the last reference mark, ns (R371). -/
  refAt : Nat := 0
  /-- Data of the last reference message this module sent (Table 14-11). -/
  sentData : List Byte := []
  /-- Present column of the matrix (R373). -/
  column : Nat := 0
  /-- The exclusive receive window open: object, and whether it has completed (R374). -/
  window : Option (Nat × Bool) := none
  deriving DecidableEq, Repr

/-- A service request being reassembled (R378, 14_door_buses.md). -/
structure ServiceRx where
  /-- Bytes so far. -/
  data : List Byte
  /-- Next segment counter. -/
  next : Nat
  deriving DecidableEq, Repr

/-- One door bus channel (14_door_buses.md). -/
structure Channel where
  /-- STATE: 0 off bus, 1 error-active, 2 error-passive, 3 recovering, 4 held (Table 14-7). -/
  state : Nat := 0
  /-- TEC (Table 14-7). -/
  tecCount : Nat := 0
  /-- REC (Table 14-7). -/
  recCount : Nat := 0
  /-- ALONE (R376). -/
  alone : Bool := false
  /-- Consecutive transmission attempts ended with an acknowledgement error, up to 16 (R376). -/
  ackErrors : Nat := 0
  /-- Home messages pending (R367). -/
  queue : List DoorMsg := []
  /-- Twin queue: copies carried for the twin channel, at most 64 (R377). -/
  twinQueue : List DoorMsg := []
  /-- The message on the bus. -/
  sending : Option DoorMsg := none
  /-- Objects 0 to 255. -/
  objects : SMap DoorObject := []
  /-- Bus-off entries, saturating U32 (0x7001:04). -/
  busOffEntries : Nat := 0
  /-- Messages sent (0x7001:07). -/
  sent : Nat := 0
  /-- Frames received (0x7001:08). -/
  received : Nat := 0
  /-- Error frames (0x7001:09). -/
  errorFrames : Nat := 0
  /-- Frames rejected (0x7001:0A). -/
  rejected : Nat := 0
  /-- Duplicates (0x7001:0B). -/
  duplicates : Nat := 0
  /-- Messages expired (0x7001:0C). -/
  expired : Nat := 0
  /-- Messages superseded (0x7001:0D). -/
  superseded : Nat := 0
  /-- Twin copies sent (0x7001:0E). -/
  twinSent : Nat := 0
  /-- Twin copies not made (0x7001:0F). -/
  twinNotMade : Nat := 0
  /-- Unmatched frames (0x7001:11). -/
  unmatched : Nat := 0
  /-- Missed windows (0x7001:12). -/
  missedWindows : Nat := 0
  /-- Transmitter delay, mtq (0x7001:13). -/
  txDelay : Nat := 0
  /-- EXPIRED since the previous XCH phase (Table 14-7). -/
  expiredCycle : Nat := 0
  /-- REJECTED since the previous XCH phase (Table 14-7). -/
  rejectedCycle : Nat := 0
  /-- Instants of the rejections of the last 1 s (R380). -/
  rejectTimes : List Nat := []
  /-- Recovery result (0x7002:02). -/
  recovery : Nat := 0
  /-- Time master and matrix. -/
  time : DoorTime := {}
  /-- Partial service request (R378). -/
  service : Option ServiceRx := none
  deriving DecidableEq, Repr

/-- Door buses (14_door_buses.md). -/
structure Doors where
  /-- Channels 0 to 7. -/
  channels : SMap Channel := []
  /-- Highest jersey each door unit has reported (R366, 0x7030:03). -/
  unitJersey : SMap (BitVec 32) := []
  /-- Service frames, saturating U32 (0x7040:02). -/
  serviceFrames : Nat := 0
  /-- NSP requests reassembled and not yet taken: channel and frame bytes (R378). -/
  handed : List (Nat × List Byte) := []
  deriving DecidableEq, Repr

end Sys2Proof.Machine
end

