-- ==== Sys2Proof/Machine/State/Module.lean ====
section
/-!
DEFINITION. State of the module as a unit: supply and hold-up bank, front panel, start sequence, mode sequencer
(02_module_and_connectors.md, 03_start_and_modes.md), and the entry store (17_object_dictionary.md).
Every field's docstring names its rule; [DC1] marks a reset value the spec does not give (assumption log 1).
-/
namespace Sys2Proof.Machine

/-- Values of dictionary entries that hold a setting, keyed by entry and selection; an unlisted entry holds its
Default (R423, R425, 17_object_dictionary.md). `nums` holds numeric entries, `blobs` DOMAIN entries. -/
structure Entries where
  /-- Numeric settings that differ from their Default (R423). -/
  nums  : SMap Int := []
  /-- DOMAIN settings that differ from their Default (R423). -/
  blobs : SMap (List Byte) := []
  deriving DecidableEq, Repr

/-- The alarms of the manual, by the chapter that raises them. -/
inductive Alarm where
  | supplyInputLost | holdUpCapacitanceLow
  | portLinkDown | seamLinkDown
  | rejoinFailed | idleTandemFailed | partitionFaulted
  | seamCapacity | weftAbandoned
  | standbyChangeRefused
  | networkHeartbeatLost | seamLaneFailed | pairMismatch | weftFormatMismatch | takeoverNotPossible
  | resyncRefused | resyncSlow
  | temperatureHigh | dramUncorrectable | dramChannelDegraded | persistentCorrection | scrubBehind
  | safetyOutputFailedOff
  | dramChannelOutOfService
  | clockDeviation | islandResetFailed
  | timeOffsetTooLarge | timeNotSynchronised | lateLaunch | launchSuperseded
  | doorBusOff | doorBusAlone | doorPairImpaired | doorBusWarning | doorReceiveChecks | doorTimeMasterLost
  | stationMismatch | stationResyncSlow
  | analogueOutputShortfall | localInputFault | safetyOutputSupplyLow
  | firmwareUnconfirmed
  deriving DecidableEq, Repr

/-- The twelve modes (R54, Table 3-1). -/
inductive Mode where
  | off | kickstand | selftest | load | standby | active | solo | handover | change | stop | fault | provision
  deriving DecidableEq, Repr

/-- Why a HANDOVER was requested (Table 3-6a rank 6). -/
inductive HandoverCause where
  | command | lever | update
  deriving DecidableEq, Repr

/-- A trigger waiting for the next cycle boundary (R70, Table 3-6a). -/
inductive Trigger where
  /-- Partner lost on both paths, left, stopped or in FAULT (Table 3-5, ACTIVE to SOLO). -/
  | partnerGone
  /-- Partner announces STANDBY (Table 3-5, SOLO to ACTIVE). -/
  | partnerStandby
  /-- STOP by command (rank 5). -/
  | stop
  /-- Extraction under 0xA022:03 (R50). -/
  | extractionStop
  /-- HANDOVER request (rank 6). -/
  | handover (cause : HandoverCause)
  /-- Online change switch, confirmation, undo (rank 7). -/
  | changeSwitch | changeConfirm | changeUndo
  /-- START while a transition is in progress (rank 8). -/
  | start
  deriving DecidableEq, Repr

/-- Which restart runs (R74, Table 3-8). -/
inductive RestartKind where
  | powerOn | powerFail | warmCommand | coldCommand | automatic | lifecycle | firmware
  deriving DecidableEq, Repr

/-- One supply input (R43, 02_module_and_connectors.md). -/
structure SupplyInput where
  /-- 0 absent, 1 good, 2 lost, 3 overvoltage (R43, R480, 0xA020:01). [DC1] -/
  state : Nat := 0
  /-- Last sample in mV (0xA020:03). [DC1] -/
  millivolts : Int := 0
  /-- Consecutive samples below 8.5 V, at most 2 (R43). [DC1] -/
  lowSamples : Nat := 0
  /-- Every sample since the qualification began lay within 9.0 V to 60 V (R43). [DC1] -/
  qualifying : Bool := false
  deriving DecidableEq, Repr

/-- Supply inputs and hold-up bank (02_module_and_connectors.md). -/
structure Supply where
  /-- Supply input A. [DC1] -/
  a : SupplyInput := {}
  /-- Supply input B. [DC1] -/
  b : SupplyInput := {}
  /-- Module load at the last sample, unit 0.1 W (R48, 0xA020:05). [DC1] -/
  loadPower : Nat := 0
  /-- Charging power at the last sample, unit 0.1 W (R48). [DC1] -/
  chargingPower : Nat := 0
  /-- Bank voltage as last measured, mV (R48, 0xA021:02). [DC1] -/
  bankMillivolts : Nat := 0
  /-- The bank counts as charged: at or above 46.0 V (R48). -/
  charged : Bool := false
  /-- The charger still restores the bank after a ride-through: 0xA021:01 reads 0 (R48). -/
  recharging : Bool := false
  /-- Bank capacitance measured at the last start, µF (R47, 0xA021:03). [DC1] -/
  capacitance : Nat := 0
  /-- The module runs on the bank, ride-through in progress (R45). -/
  rideThrough : Bool := false
  /-- Ride-throughs ended by a returning input, kept across restarts (R45, 0xA020:06). -/
  rideThroughs : Nat := 0
  /-- A power-fail sequence has started and its restart or OFF is due (R45, R46). -/
  powerFail : Bool := false
  deriving DecidableEq, Repr

/-- Extraction request as 0xA022:02 reports it (R50). -/
inductive Extraction where
  | seated | preparing | ready | refused
  deriving DecidableEq, Repr

/-- Front panel, slot and hot swap (02_module_and_connectors.md). -/
structure Front where
  /-- Both MATED_SENSE contacts have read low for 20 ms (R49). -/
  mated : Bool := false
  /-- Converters on: inrush-controlled ramp started (R49). -/
  converters : Bool := false
  /-- Power-good reached (R57). -/
  powerGood : Bool := false
  /-- The seven straps sampled at power-good: ID0–5 in [5:0], parity in [6] (R33). [DC1] -/
  straps : BitVec 7 := 0
  /-- Slot identity valid (R33, 0x1030:02). [DC1] -/
  slotValid : Bool := false
  /-- Slot identity changes since power-good, saturating U16 (R33, 0x1030:05). -/
  slotChanges : Nat := 0
  /-- Partner slot number as HELLO brought it; none reads 0xFF (R34, 0x1030:04). -/
  partnerSlot : Option Nat := none
  /-- PARTNER_PRESENT_IN is low (R35, 0x1030:06). [DC1] -/
  partnerPresent : Bool := false
  /-- MODULE_PRESENT_OUT is driven low (R35). -/
  modulePresentOut : Bool := false
  /-- Lamp test running (R41). -/
  lampTest : Bool := false
  /-- Seconds of the identify pattern commanded; 0 none (R41, 0xA022:05). -/
  identifySeconds : Nat := 0
  /-- Instant in ns at which the identify pattern was commanded (R41). -/
  identifyAt : Nat := 0
  /-- TRIM cover open (R42, 0xA022:04). [DC1] -/
  coverOpen : Bool := false
  /-- TRIM-PLUS is held pressed (R42). -/
  plusHeld : Bool := false
  /-- TRIM-MINUS is held pressed (R42). -/
  minusHeld : Bool := false
  /-- TRIM-PLUS was pressed with the cover closed and is ignored until released with the cover opened (R42). -/
  plusBlocked : Bool := false
  /-- TRIM-MINUS, likewise (R42). -/
  minusBlocked : Bool := false
  /-- Extraction lever open (R50, 0xA022:01). [DC1] -/
  leverOpen : Bool := false
  /-- Extraction state (R50, 0xA022:02). -/
  extraction : Extraction := .seated
  /-- The 5 s display of a refused extraction runs (R40, R50). -/
  refusedShown : Bool := false
  /-- An extraction request waits for HANDOVER or CHANGE to end (R50). -/
  extractionWaiting : Bool := false
  /-- A USB host is attached to FS (R36). [DC1] -/
  fsAttached : Bool := false
  deriving DecidableEq, Repr

/-- The partner search (R65, 03_start_and_modes.md). -/
structure Search where
  /-- A search runs (R65). -/
  running : Bool := false
  /-- The search was started by a START command (Table 3-3). -/
  byStart : Bool := false
  /-- Mode codes heard from the partner in this window, last first, with the path (R65). -/
  heard : List (PairPath × Nat) := []
  /-- Consecutive windows that heard STANDBY (Table 3-3). -/
  standbyWindows : Nat := 0
  /-- Consecutive windows of a START search that heard STOP (Table 3-3). -/
  stopWindows : Nat := 0
  deriving DecidableEq, Repr

/-- Mode sequencer and start (03_start_and_modes.md). -/
structure Modes where
  /-- Present mode (R54, 0x2000:01). OFF before power-good. -/
  mode : Mode := .off
  /-- Mode before the last transition (R80, 0x2000:02). -/
  previous : Mode := .off
  /-- Cause of the last transition (Table 3-11, 0x2000:03). [DC1] -/
  transCause : Nat := 0
  /-- Instant of the last transition, ns (0x2000:04). [DC1] -/
  enteredAt : Nat := 0
  /-- Start type of the last start is cold (R78, 0x2000:05). [DC1] -/
  cold : Bool := false
  /-- Cold start reason (Table 3-9, 0x2000:06). [DC1] -/
  coldReason : Nat := 0
  /-- Last FAULT or STOP cause (0x2000:07). -/
  cause : Nat := 0
  /-- Instant of power-good or of the reset of the islands, ns (0x2000:08). [DC1] -/
  startOrigin : Nat := 0
  /-- Start duration in ms (0x2000:08). [DC1] -/
  startDuration : Nat := 0
  /-- This start has reached STANDBY, ACTIVE or SOLO (0x2000:08). -/
  startReached : Bool := false
  /-- Search result (0x2000:09). [DC1] -/
  searchResult : Nat := 0
  /-- Operating seconds of the automatic restarts of the last 24 h (R73, 0x2000:0A). -/
  autoRestarts : List Nat := []
  /-- The automatic restart's 10 s wait after the flush is running for a restartable cause (R73). -/
  autoRestartArmed : Bool := false
  /-- Command result (R71, 0x2001:03). -/
  commandResult : Nat := 0
  /-- Triggers that wait for a cycle boundary (R70). -/
  triggers : List Trigger := []
  /-- The KICKSTAND function is in force (R55, R57). -/
  kickstandInForce : Bool := false
  /-- Checks of SELFTEST passed so far (R58). -/
  checksPassed : List SelfCheck := []
  /-- Islands released so far in the order 6, 2, 3, 1, 7, 4, 5 (R58). -/
  released : Nat := 0
  /-- LOAD steps 1 to 5 are done (R61). -/
  loadStepsDone : Bool := false
  /-- The link wait of R63 has elapsed. -/
  linkWaited : Bool := false
  /-- STOP commanded in LOAD: LOAD ends in STOP (Table 3-7). -/
  stopAtEndOfLoad : Bool := false
  /-- The restart under way (R74, Table 3-8). -/
  restart : RestartKind := .powerOn
  /-- A restart waits for its reset: crossing 12 empties (R321). -/
  restartPending : Bool := false
  /-- A COLD RESTART asked for within the present restart (Table 3-9 row 2). -/
  search : Search := {}
  /-- A cycle has been solved since the last start (R495). -/
  solvedSinceStart : Bool := false
  /-- FIRST_AFTER flags that the next solved cycle carries, as W#0xF0004[5:0] (R79). -/
  firstFlags : BitVec 6 := 0
  /-- The next solved cycle is the first after a start that initialised the data store (R77). -/
  edgeFirst : Bool := false
  deriving DecidableEq, Repr

end Sys2Proof.Machine
end

