-- ==== Sys2Proof/Machine/State/Nsp.lean ====
section
/-!
DEFINITION. State of the service engine: NSP sessions, and the configuration and its commit (17_object_dictionary.md).
[DC1] marks a reset value the spec does not give (assumption log 1).
-/
namespace Sys2Proof.Machine

/-- Session phases (R432, 17_object_dictionary.md). -/
inductive SessionPhase where
  | free | opening | isOpen
  deriving DecidableEq, Repr

/-- An NSP reply (Table 17-4, R430); the CMAC that a session reply carries follows from the session key. -/
structure NspReply where
  /-- OP. -/
  op : Nat
  /-- SESSION; 0xFF sessionless. -/
  session : Nat
  /-- SEQ. -/
  seq : BitVec 16
  /-- STATUS (Table 17-8). -/
  status : Nat
  /-- FLAGS bit LAST. -/
  last : Bool := false
  /-- INDEX. -/
  index : BitVec 16 := 0
  /-- SUBINDEX. -/
  sub : BitVec 8 := 0
  /-- OFFSET. -/
  offset : Nat := 0
  /-- TOTAL. -/
  total : Nat := 0
  /-- Body. -/
  body : List Byte := []
  deriving DecidableEq, Repr

/-- A DOMAIN write transfer of a session (R436, 17_object_dictionary.md). -/
structure Transfer where
  /-- Entry index. -/
  index : BitVec 16
  /-- Entry subindex. -/
  sub : BitVec 8
  /-- TOTAL of the first segment. -/
  total : Nat
  /-- Bytes received so far. -/
  data : List Byte
  deriving DecidableEq, Repr

/-- A DOMAIN read snapshot of a session (R436, 17_object_dictionary.md). -/
structure ReadSnapshot where
  /-- Entry index. -/
  index : BitVec 16
  /-- Entry subindex. -/
  sub : BitVec 8
  /-- The value. -/
  data : List Byte
  /-- The quilt cursor once the last segment has been sent (R475). -/
  cursor : Option (BitVec 32) := none
  deriving DecidableEq, Repr

/-- One NSP session (R432–R436, 17_object_dictionary.md). -/
structure Session where
  /-- Free, opening or open (R432). -/
  phase : SessionPhase := .free
  /-- Party (R432). -/
  party : Nat := 0
  /-- Carrier and source of the OPEN (R433). -/
  carrier : Option Carrier := none
  /-- HOST_NONCE (R432). -/
  hostNonce : List Byte := []
  /-- MODULE_NONCE (R432). -/
  moduleNonce : BitVec 128 := 0
  /-- Session key; that of the last session of the number stays until the next OPEN, for the reply that follows an end (R432). -/
  key : List Byte := []
  /-- Highest SEQ accepted (R434). -/
  highest : BitVec 16 := 0
  /-- The last 8 accepted requests, newest first: SEQ, and the reply once it has left (R434). -/
  recent : List (BitVec 16 × Option NspReply) := []
  /-- Requests in progress whose reply waits for the end of an effect (R178, R434, R450): ORDERED, and the reply. -/
  deferred : List (Bool × NspReply) := []
  /-- Accepted requests that have not started (R439): OP and request, in their order. -/
  held : List (Nat × NspReq) := []
  /-- Values of the session's selectors, keyed by entry (R424). -/
  selectors : SMap Int := []
  /-- DOMAIN write in progress (R436). -/
  transfer : Option Transfer := none
  /-- A violation has ended the session's DOMAIN transfer: its next segment is answered 0x09 (R295). -/
  violated : Bool := false
  /-- DOMAIN read snapshots, at most one per entry, newest first (R436). -/
  snapshots : List ReadSnapshot := []
  /-- Result of the session's last two-party request (Table 11-12, 0x5002). -/
  twoParty : Nat := 0
  /-- Acquire result (0x4030:03). -/
  acquire : Nat := 0
  /-- Records skipped by the session's last quilt read (0xA010:05). -/
  skipped : Nat := 0
  deriving DecidableEq, Repr

/-- Stages of a configuration commit (R426, R427). -/
inductive CommitStage where
  | none
  /-- A proposal of 0x1010:01 is pending: the shadow is frozen. -/
  | proposed
  /-- Confirmed in LOAD or HANDOVER: held until the mode ends. -/
  | held
  /-- Checked and stored; takes effect at the next cycle boundary. -/
  | atBoundary
  deriving DecidableEq, Repr

/-- A stored copy of the configuration (R425, R457, 17_object_dictionary.md). -/
structure StoredCopy where
  /-- Generation (R425). -/
  generation : BitVec 32 := 0
  /-- Format number (R457). [DC1] -/
  format : Nat := 1
  /-- Values. -/
  values : Entries := {}
  /-- The copy's check passes (R425). -/
  intact : Bool := true
  deriving DecidableEq, Repr

/-- Service engine, configuration and settings (17_object_dictionary.md). -/
structure Nsp where
  /-- Sessions 0 to 15. -/
  sessions : SMap Session := []
  /-- Replies sent, last first; the model keeps those sent since the last NSP request arrived or began (R434). -/
  replies : List NspReply := []
  /-- Frames discarded, saturating U32 (0x1020:03). -/
  discarded : Nat := 0
  /-- Authentication failures, saturating U32 (0x1020:04). -/
  authFailures : Nat := 0
  /-- Instants in ns of the failed PROVEs of the last 60 s, per party (R433). -/
  failedProves : SMap (List Nat) := []
  /-- Barred parties (R433). -/
  barred : List Nat := []
  /-- Settings of RW entries and held values of RW2 entries of this module (R423). Kept across restarts. -/
  settings : Entries := {}
  /-- The configuration in force (R425). -/
  inForce : Entries := {}
  /-- The shadow configuration (R425). -/
  shadow : Entries := {}
  /-- Stored copy 0 (R425). Kept across restarts. -/
  stored0 : StoredCopy := {}
  /-- Stored copy 1 (R425). Kept across restarts. -/
  stored1 : StoredCopy := {}
  /-- Configuration generation (R427, 0x1010:03). Kept across restarts. -/
  generation : BitVec 32 := 0
  /-- Commit result (R427, 0x1010:02). -/
  commitResult : Nat := 0
  /-- Offending entry (0x1010:06). -/
  offending : BitVec 32 := 0
  /-- Stage of the configuration commit (R426). -/
  commit : CommitStage := .none
  /-- The commit of this boundary is carried by the weft frame: CONFIG (R426). -/
  commitCarried : Bool := false
  deriving DecidableEq, Repr

end Sys2Proof.Machine
end

