-- ==== Sys2Proof/Machine/State/Firmware.lean ====
section
/-!
DEFINITION. State of firmware and pair update (18_firmware_update.md). [DC1] marks a reset value the spec does not give
(assumption log 1).
-/
namespace Sys2Proof.Machine

/-- A firmware image: the header fields of Table 18-2 (R449, 18_firmware_update.md). -/
structure FwHeader where
  /-- The identity: HASH bytes 0–3. -/
  identity : BitVec 32 := 0
  /-- ARCH_REV. -/
  archRev : Nat := 0
  /-- FW_REVISION. -/
  revision : BitVec 32 := 0
  /-- SECURITY_VERSION. -/
  security : Nat := 0
  /-- ISA_REV (R125: 3). -/
  isaRev : Nat := 3
  /-- COST_REV (R150: 3). -/
  costRev : Nat := 3
  /-- WEFT_LO. -/
  weftLo : Nat := 1
  /-- WEFT_HI. -/
  weftHi : Nat := 1
  /-- CFG_LO. -/
  cfgLo : Nat := 1
  /-- CFG_HI. -/
  cfgHi : Nat := 1
  /-- CFG_OWN. -/
  cfgOwn : Nat := 1
  /-- The whole image, header and body; empty for the image of the factory, whose bytes the spec does not give. -/
  bytes : List Byte := []
  deriving DecidableEq, Repr

/-- Roles of a bolt slot (R448). -/
inductive SlotRole where
  | empty | staged | fallback | installed
  deriving DecidableEq, Repr

/-- A bolt slot (R448, 18_firmware_update.md). -/
structure BoltSlot where
  /-- Role (Table 18-1). -/
  role : SlotRole := .empty
  /-- Its image, when it holds one. -/
  image : Option FwHeader := none
  deriving DecidableEq, Repr

/-- Firmware and pair update (18_firmware_update.md). -/
structure Firmware where
  /-- Main image area (R448). Kept across restarts. [DC1] -/
  main : FwHeader := {}
  /-- Bolt slot 0 (R448). Kept across restarts. -/
  slot0 : BoltSlot := {}
  /-- Bolt slot 1 (R448). Kept across restarts. -/
  slot1 : BoltSlot := {}
  /-- Trial (R454, 0xB001:04). Kept across restarts. -/
  trial : Bool := false
  /-- Trial starts (R454, 0xB001:0A). Kept across restarts. -/
  trialStarts : Nat := 0
  /-- The module entered FAULT during the trial other than with 0x1051 or 0x1052 (R455). Kept across restarts. -/
  faultInTrial : Bool := false
  /-- A revert command restarts the module (R455). Kept across restarts. -/
  revertPending : Bool := false
  /-- Minimum security version (R451, 0xB001:08). Kept across restarts. -/
  minSecurity : Nat := 0
  /-- Staging state: 0 idle, 1 receiving, 2 checking, 3 staged (0xB000:02). -/
  staging : Nat := 0
  /-- Staging result (Table 18-3, 0xB000:03). -/
  stagingResult : Nat := 0
  /-- The slot that receives an image (R450 step 1). -/
  target : Nat := 0
  /-- Bytes received of the image (R450 step 2). -/
  received : List Byte := []
  /-- TOTAL of the transfer. -/
  total : Nat := 0
  /-- The session whose transfer brings the image; none for a service transfer of the partner. -/
  bySession : Option Nat := none
  /-- Firmware activation is the restart under way (R452). -/
  activating : Bool := false
  /-- The fall-back configuration record with the image it is tagged with (R457). Kept across restarts. -/
  fallbackConfig : Option (BitVec 32 × StoredCopy) := none
  /-- Last fall-back cause (0xB001:0B). Kept across restarts. -/
  fallbackCause : Nat := 0
  /-- Update command result (0xB001:0C). -/
  result : Nat := 0
  /-- Pair update state (Table 18-4, 0xB002:02). -/
  pairState : Nat := 0
  /-- Pair update abort cause (R459, 0xB002:03). -/
  abortCause : Nat := 0
  /-- This module has taken the activation restart of a running pair update: it is slot Y (R458). Kept across restarts. -/
  updateJoined : Bool := false
  deriving DecidableEq, Repr

end Sys2Proof.Machine
end

