-- ==== Sys2Proof/Machine/State/Hub.lean ====
section
/-!
DEFINITION. State of the hub: memories, arbiters, DMA engines, locks (10_hub_memory_and_ordering.md), and of
protection and lifecycle (11_protection_and_lifecycle.md). [DC1] marks a reset value the spec does not give
(assumption log 1).
-/
namespace Sys2Proof.Machine

/-- A request that waits at an arbiter port (R266, R267, R269). -/
structure ArbRequest where
  /-- Master. -/
  master : Nat
  /-- Lines or codewords still asked for. -/
  lines : Nat
  /-- Tick in which it was registered (R267). -/
  tick : Nat
  deriving DecidableEq, Repr

/-- A grant in force (R267, R269). -/
structure ArbGrant where
  /-- Port. -/
  port : Nat
  /-- First tick. -/
  start : Nat
  /-- The request that it serves, whole. -/
  request : ArbRequest
  /-- Length of its burst: the request cut to the burst limit (R269). -/
  burst : Nat
  deriving DecidableEq, Repr

/-- One arbiter port (R266, Table 10-4, 10_hub_memory_and_ordering.md); its kind is fixed by the table. -/
structure ArbPort where
  /-- BASE_SHADOW (Table 10-5). -/
  baseShadow : Nat := 0
  /-- BASE, the active base (Table 10-6). -/
  base : Nat := 0
  /-- LOSSES, 0 to 14 (R266). -/
  losses : Nat := 0
  /-- Pending requests of its masters, in the order in which they are served (R266, R267). -/
  requests : List ArbRequest := []
  /-- REVOKED, saturating 16 bits (Table 10-6). -/
  revoked : Nat := 0
  /-- Port revocations, saturating U32 (0x4010:07). -/
  revocations : Nat := 0
  /-- Port grants, saturating U32 (0x4010:05). -/
  grants : Nat := 0
  /-- Port rounds lost (0x4010:06). -/
  lost : Nat := 0
  /-- Longest wait, ticks (0x4010:08). -/
  longestWait : Nat := 0
  deriving DecidableEq, Repr

/-- One Peloton arbiter (R266–R271, 10_hub_memory_and_ordering.md). -/
structure Arbiter where
  /-- Ports 0 to 15. -/
  ports : SMap ArbPort := []
  /-- The grant in force (R267). -/
  grant : Option ArbGrant := none
  /-- Port granted last (R267). [DC1] -/
  lastGranted : Nat := 15
  /-- COMMITS, 16 bits, wraps (Table 10-7). -/
  commits : Nat := 0
  /-- TRIP_PORT (Table 10-7). -/
  tripPort : Nat := 0
  /-- Class S wait peak, ticks (0x4011:04). -/
  waitPeak : Nat := 0
  deriving DecidableEq, Repr

/-- A burst in a DMA engine's write buffer (R296, 10_hub_memory_and_ordering.md). -/
structure Burst where
  /-- Hub byte address. -/
  address : Nat
  /-- Bytes. -/
  data : List Byte
  deriving DecidableEq, Repr

/-- A descriptor that has begun and has no status yet (R296, Table 11-8). -/
structure BegunDescriptor where
  /-- Its address. -/
  address : Nat
  /-- Bytes written: DONE (Table 10-12). -/
  moved : Nat
  /-- Its lock is held, and was granted abandoned (Table 10-13). -/
  lock : Option Bool
  deriving DecidableEq, Repr

/-- One DMA engine (R277, Table 10-12, 10_hub_memory_and_ordering.md). -/
structure Dma where
  /-- Chain head register (R277). -/
  head : Nat := 0
  /-- A chain runs. -/
  running : Bool := false
  /-- The chain's head has been written and its first descriptor has not been read yet. -/
  starting : Bool := false
  /-- Address of the running descriptor. -/
  current : Nat := 0
  /-- Descriptors before the running one that are read whole and whose lines wait in the write buffer, oldest first (R296). -/
  behind : List BegunDescriptor := []
  /-- Status with which the running descriptor ends once the lines of the write buffer have drained (R276). -/
  ending : Option Nat := none
  /-- Level of the chain: PRIV (R286). -/
  priv : Bool := false
  /-- NSP session whose DOMAIN transfer the chain carries (R286, R295). -/
  session : Option Nat := none
  /-- The running descriptor waits for its lock (R277). -/
  waitingLock : Bool := false
  /-- The running descriptor's lock is held, and was granted abandoned (Table 10-13). -/
  lockHeld : Option Bool := none
  /-- Write buffer, at most four lines (R296). -/
  buffer : List Burst := []
  /-- Bytes of the running descriptor read from its source and posted (R296). -/
  posted : Nat := 0
  /-- Bytes of the running descriptor written: DONE (Table 10-12). -/
  moved : Nat := 0
  /-- Last descriptor status (0x4020:02). -/
  status : Nat := 0
  /-- Descriptors done, saturating U32 (0x4020:03). -/
  done : Nat := 0
  /-- Descriptors failed (0x4020:04). -/
  failed : Nat := 0
  deriving DecidableEq, Repr

/-- One hardware lock (R279, 10_hub_memory_and_ordering.md). -/
structure Lock where
  /-- OWNER; none when free (Table 10-14). -/
  owner : Option Nat := none
  /-- ABANDONED mark (R282). -/
  abandoned : Bool := false
  /-- Waiting acquisitions in order of arrival (R280). -/
  queue : List Nat := []
  /-- The owner has released it and its earlier writes are not complete (R276, Table 10-11). -/
  releasing : Bool := false
  deriving DecidableEq, Repr

/-- The hub (10_hub_memory_and_ordering.md). -/
structure Hub where
  /-- External DRAM data, 10 GiB; wiped to zero (R75, R259). -/
  dram : List Host.Cell := []
  /-- On-chip SRAM from 0x3_0000_0000, 2.5 MiB; wiped to zero (R75, R259). -/
  sram : List Host.Cell := []
  /-- MRAM bytes outside the areas whose content is state of its own, 16 MiB (R291). Kept across restarts. [DC1] -/
  mram : List Host.Cell := []
  /-- Flash read window bytes (R259). Kept across restarts. [DC1] -/
  flash : List Host.Cell := []
  /-- DRAM channels in service, bit k channel k (R261, 0x4000:02). In service from the end of SELFTEST. -/
  channels : BitVec 2 := 0
  /-- Decode errors, saturating U32 (R259, 0x4000:03). -/
  decodeErrors : Nat := 0
  /-- Last decode error master (0x4000:04). -/
  lastDecodeMaster : Nat := 0
  /-- Data that the last read returned to its master (R259, R295). [DC1] -/
  answer : List Byte := []
  /-- Data store accesses that wait for the hub slot, oldest first, with the symbols in error that they meet (R154, R262). -/
  waiting : List (HubAccess × Nat) := []
  /-- A program or firmware image in transit through DRAM has met a lost codeword (R261, Table 9-3). -/
  transitLost : Bool := false
  /-- Arbiters 0 to 3 (R266). -/
  arbiters : SMap Arbiter := []
  /-- Watchdog trips, saturating U32 (R271, 0x4011:01). -/
  trips : Nat := 0
  /-- Last trip: arbiter and port (0x4011:02). -/
  lastTrip : Nat := 0
  /-- Arbiter commits (0x4011:03). -/
  commits : Nat := 0
  /-- DMA engines 0 to 11 (R277). -/
  dma : SMap Dma := []
  /-- Locks 0 to 255 (R279). -/
  locks : SMap Lock := []
  /-- Result of the last acquisition per master identity (Table 10-15). -/
  lockResults : SMap Nat := []
  /-- Locks abandoned, saturating U32 (0x4030:06). -/
  abandonments : Nat := 0
  /-- Lock refusals (0x4030:07). -/
  refusals : Nat := 0
  deriving DecidableEq, Repr

/-- A protection region (Table 11-4 to 11-6, R293, 11_protection_and_lifecycle.md). -/
structure Region where
  /-- REGION_BASE: hub byte address bits [35:4]. -/
  base : BitVec 32 := 0
  /-- REGION_LIMIT: hub byte address bits [35:4] of the last unit. -/
  limit : BitVec 32 := 0
  /-- REGION_ATTR. -/
  attr : BitVec 32 := 0
  deriving DecidableEq, Repr

/-- A protection notice (Table 11-9, R297, 11_protection_and_lifecycle.md). -/
structure Notice where
  /-- CYCLE. -/
  cycle : BitVec 32
  /-- ADDRESS. -/
  address : BitVec 32
  /-- EPOCH. -/
  epoch : BitVec 8
  /-- MASTER. -/
  master : Nat
  /-- REGION. -/
  region : Nat
  /-- REASON. -/
  reason : Nat
  /-- KIND. -/
  kind : Nat
  /-- LEVEL: PRIV. -/
  priv : Bool
  /-- IMPRECISE. -/
  imprecise : Bool
  /-- DESCRIPTOR. -/
  descriptor : BitVec 32
  deriving DecidableEq, Repr

/-- Lifecycle states (R306, 11_protection_and_lifecycle.md). -/
inductive Lifecycle where
  | provision | inService | decommissioned
  deriving DecidableEq, Repr

/-- One copy of the lifecycle record in MRAM (R306, R309, 11_protection_and_lifecycle.md). -/
structure LifecycleCopy where
  /-- Lifecycle state. [DC1] -/
  state : Lifecycle := .provision
  /-- Transition mark (R309). -/
  mark : Option Lifecycle := none
  /-- Its CRC-32 passes (R306). -/
  intact : Bool := true
  deriving DecidableEq, Repr

/-- A party of the party store (R299, 11_protection_and_lifecycle.md). -/
structure Party where
  /-- Enable flag (0x5006:05). -/
  enabled : Bool := false
  /-- Rights of Table 11-11 (0x5006:03). -/
  rights : BitVec 4 := 0
  /-- 128-bit key, little-endian bytes (0x5006:04); empty when none is written. -/
  key : List Byte := []
  deriving DecidableEq, Repr

/-- A pending proposal (R300, 11_protection_and_lifecycle.md). -/
structure Proposal where
  /-- Proposal number. -/
  number : BitVec 16
  /-- Entry index. -/
  index : BitVec 16
  /-- Entry subindex. -/
  sub : BitVec 8
  /-- Selection of the proposing session for the entry. -/
  sel1 : Nat
  /-- Second selection. -/
  sel2 : Nat
  /-- Proposed value. -/
  value : List Byte
  /-- Proposing party. -/
  proposer : Nat
  /-- CRC-32 digest. -/
  digest : BitVec 32
  /-- Instant of the proposal, ns. -/
  madeAt : Nat
  deriving DecidableEq, Repr

/-- Shadow set state (0x5001:03). -/
inductive RuleStage where
  | open | proposed | waiting | draining
  deriving DecidableEq, Repr

/-- Protection and lifecycle (11_protection_and_lifecycle.md). -/
structure Protection where
  /-- Active rule set: engine e region r at 16 e + r, central entry i at 192 + i; unlisted as Table 11-7 (R293). Kept across
  restarts (R294). -/
  active : SMap Region := []
  /-- Shadow rule set, likewise (R293). -/
  shadow : SMap Region := []
  /-- Rule epoch, kept across restarts (R303, R305, 0x5001:01). -/
  epoch : BitVec 32 := 0
  /-- Shadow set state (0x5001:03). -/
  stage : RuleStage := .open
  /-- Session whose result reports the rule commit's end (R300). -/
  ruleSession : Option Nat := none
  /-- The weft frame of this cycle carries CONFIG for the rule commit that waits (R305). -/
  carried : Bool := false
  /-- Last drain time, ns (R304, 0x5001:06). -/
  lastDrain : Nat := 0
  /-- Invalid region (R302, 0x5001:07). -/
  invalidRegion : Nat := 0
  /-- The last 16 notices, newest first (R297, 0x5005:04). -/
  ring : List Notice := []
  /-- Notices, saturating U32 (0x5005:01). -/
  notices : Nat := 0
  /-- Imprecise notices (0x5005:02). -/
  imprecise : Nat := 0
  /-- The lifecycle record's first copy (R306). Kept across restarts. -/
  copy0 : LifecycleCopy := {}
  /-- The lifecycle record's second copy (R306). Kept across restarts. -/
  copy1 : LifecycleCopy := {}
  /-- Lifecycle state that the record holds (R306). [DC1] -/
  lifecycle : Lifecycle := .provision
  /-- Transition mark that the record holds (R309). -/
  mark : Option Lifecycle := none
  /-- Lifecycle changes, kept in every transition (0x5000:03). -/
  changes : Nat := 0
  /-- Debug unlocked (R308, 0x5000:05). -/
  unlocked : Bool := false
  /-- Debug hits, saturating U32 (0x5000:06). -/
  hits : Nat := 0
  /-- LOCKED_HIT of the debug port status word (R307). [DC1] -/
  lockedHit : Bool := false
  /-- Parties 1 to 8 (R299). Kept across restarts. -/
  parties : SMap Party := []
  /-- Secret keys of the key area by entry key: pair key, station, guest and door unit keys (R291). Kept across restarts. -/
  keys : SMap (List Byte) := []
  /-- Pending proposals by slot order, at most 8 (R301). -/
  proposals : List Proposal := []
  /-- Next proposal number (R300). [DC1] -/
  nextNumber : BitVec 16 := 1
  deriving DecidableEq, Repr

end Sys2Proof.Machine
end

