-- ==== Sys2Proof/Machine/State/LocalIo.lean ====
section
/-!
DEFINITION. State of the local field I/O front end (16_local_io.md). [DC1] marks a reset value the spec does not give
(assumption log 1).
-/
namespace Sys2Proof.Machine

/-- One analogue input (R405, R406, 16_local_io.md). -/
structure AnalogIn where
  /-- The last four raw samples, newest first, unit 25 nA (R405). [DC1] -/
  samples : List Nat := []
  /-- AI_CURRENT: corrected mean, unit 25 nA (Table 16-1). [DC1] -/
  current : Nat := 0
  /-- QUALITY, Table 4-6 coding: 0 BAD, 1 SUBSTITUTED, 2 HELD, 3 GOOD (Table 16-2). -/
  quality : BitVec 2 := 0
  /-- AI_VALUE (Table 16-1, R405). -/
  value : Word := 0
  /-- Last GOOD value; none before the first GOOD class since the start (R405). -/
  lastGood : Option Word := none
  /-- FAIL_HIGH (Table 16-2). -/
  failHigh : Bool := false
  /-- FAIL_LOW (Table 16-2). -/
  failLow : Bool := false
  /-- OVER (Table 16-2). -/
  overTop : Bool := false
  /-- UNDER (Table 16-2). -/
  under : Bool := false
  /-- The current has been outside 3.6–21.0 mA for the failure delay (Table 16-4). -/
  failed : Bool := false
  deriving DecidableEq, Repr

/-- One analogue output (R407–R409, R417, 16_local_io.md). -/
structure AnalogOut where
  /-- Value register latched from AO_VALUE (R404). -/
  value : Word := 0
  /-- MODE latched from AO_CONTROL [1:0] (Table 16-2). -/
  mode : BitVec 2 := 1
  /-- Commanded current C, unit 25 nA (R408): MODE 1 commands 144,000. -/
  commanded : Nat := 144000
  /-- Applied current A, unit 25 nA (R408). 3.6 mA at a start (R418). -/
  applied : Int := 144000
  /-- AO_READBACK, unit 25 nA (Table 16-1). [DC1] -/
  readback : Nat := 0
  /-- SHORTFALL (R409). -/
  shortfall : Bool := false
  /-- OPEN (R409). -/
  openLoop : Bool := false
  /-- MISMATCH, until acknowledged (Table 16-2). -/
  mismatch : Bool := false
  /-- REACTION in force, until acknowledged (R409): the reaction current. -/
  reaction : Option Nat := none
  /-- CLAMPED (R408). -/
  clamped : Bool := false
  /-- Instant at which the applied current last changed, ns (R250). [DC1] -/
  appliedAt : Nat := 0
  /-- Consecutive mismatching comparisons of the readback (R250). -/
  mismatchRun : Nat := 0
  /-- Shortfalls, saturating U32 (0x9020:07). -/
  shortfalls : Nat := 0
  deriving DecidableEq, Repr

/-- One safety digital input (R413–R415, R418, 16_local_io.md). -/
structure SafetyIn where
  /-- STATE, the filtered input (Table 16-3). [DC1] -/
  state : Bool := false
  /-- FAULT code 0 to 4 (Table 16-3). [DC1] -/
  fault : Nat := 0
  /-- The code the input had when it became 4 or holds now, so that its cause can be judged (R415). -/
  causeCode : Nat := 0
  /-- SOURCE_SEEN: bit 0 SDI_TP1, bit 1 SDI_TP2 (Table 16-3). [DC1] -/
  seen : BitVec 2 := 0
  /-- Consecutive pulses of its source during which it has not fallen (R413). -/
  missed : Nat := 0
  /-- It has fallen during the present pulse of its source (R413). -/
  fell : Bool := false
  /-- Last sampled level outside pulse windows (R413). [DC1] -/
  level : Bool := false
  /-- The filter runs towards the sampled level (R413). -/
  filtering : Bool := false
  /-- It fell during the last pulse of the other source (R413). -/
  cross : Bool := false
  /-- Its fault's cause has not shown itself since the fault was found or last shown (R415). -/
  causeAbsent : Bool := false
  /-- Faults, saturating U32 (0x9040:06). -/
  faults : Nat := 0
  deriving DecidableEq, Repr

/-- One safety digital output (R416, 16_local_io.md). -/
structure SafetyOut where
  /-- Commanded by the program or by the KICKSTAND function (R416). -/
  command : Bool := false
  /-- APPLIED (Table 16-3). -/
  applied : Bool := false
  /-- READBACK (Table 16-3). -/
  readback : Bool := false
  /-- FAULT code 0 to 3 (Table 16-3). -/
  fault : Nat := 0
  /-- Instant at which the applied value last changed, ns (R250). [DC1] -/
  appliedAt : Nat := 0
  /-- Consecutive mismatching comparisons of the readback (R250). -/
  mismatchRun : Nat := 0
  /-- Faults, saturating U32 (0x9050:03). -/
  faults : Nat := 0
  deriving DecidableEq, Repr

/-- The local field I/O (16_local_io.md). -/
structure LocalIo where
  /-- Analogue inputs 1 to 8. -/
  ai : SMap AnalogIn := []
  /-- Analogue outputs 1 to 8. -/
  ao : SMap AnalogOut := []
  /-- Safety digital inputs 1 to 8. -/
  sdi : SMap SafetyIn := []
  /-- Safety digital outputs 1 to 4. -/
  sdo : SMap SafetyOut := []
  /-- Pairs in discrepancy since less than the discrepancy time (R414): pairs 0 to 3. -/
  discrepant : List Nat := []
  /-- Source of the pulse under way: 0 SDI_TP1, 1 SDI_TP2 (R413). -/
  pulse : Option Nat := none
  /-- SDO_24V in mV as last measured (0x9050:04). [DC1] -/
  supply : Nat := 0
  /-- SDO_SUPPLY_LOW (R416). -/
  supplyLow : Bool := false
  /-- The local outputs are under program control (R27, R55). -/
  underProgram : Bool := false
  /-- FROM_KICKSTAND (R418, Table 16-3). -/
  fromKickstand : Bool := true
  /-- The configured input rules apply: from the XCH phase of the second cycle under program control (R418). -/
  configuredRules : Bool := false
  /-- LOCAL_ACK of the previous output phase (R417). -/
  ackPrevious : Word := 0
  /-- Output words posted to the front end and not yet latched (R404), by word address. -/
  posted : SMap Word := []
  /-- Armed trim target (R411, 0x9030:01); 0 none. -/
  target : Nat := 0
  /-- Corrections of the armed point when it was armed: zero and span (R410). -/
  armedFrom : Int × Int := (0, 0)
  /-- Trim result (0x9030:05). -/
  trimResult : Nat := 0
  /-- Zero corrections Z of channels 1 to 16 (R410). Kept across restarts. -/
  zero : SMap Int := []
  /-- Span corrections S of channels 1 to 16 (R410). Kept across restarts. -/
  span : SMap Int := []
  deriving DecidableEq, Repr

end Sys2Proof.Machine
end

