-- ==== Sys2Proof/Machine/State/Network.lean ====
section
/-!
DEFINITION. State of the plant network and of the time island (13_plant_network_and_time.md).
[DC1] marks a reset value the spec does not give (assumption log 1).
-/
namespace Sys2Proof.Machine

/-- A frame queued for a port (R334, R346, 13_plant_network_and_time.md). -/
structure TxFrame where
  /-- Ring A false, B true. -/
  ring : Bool
  /-- Destination: none is broadcast or group. -/
  dest : Option (BitVec 48)
  /-- EtherType. -/
  etherType : BitVec 16
  /-- VLAN priority; none untagged (R334). -/
  priority : Option Nat
  /-- Frame length in bytes. -/
  length : Nat
  /-- Payload bytes, with the CMAC of a message that carries one. -/
  payload : List Byte
  /-- Originated by this module, so subject to the discards of R252 (R333). -/
  own : Bool := true
  /-- Cycle of a station output frame (R239). -/
  cycle : Option (BitVec 40) := none
  /-- Station of a station output frame. -/
  station : Option Nat := none
  /-- Launch group and launch time in ns of the time base (R346). -/
  launch : Option (Nat × Nat) := none
  deriving DecidableEq, Repr

/-- A gate list (R335, Table 13-2, 13_plant_network_and_time.md). -/
structure GateList where
  /-- Gate list enabled (0x6011:02). -/
  enabled : Bool := false
  /-- Gate cycle time, ns (0x6011:03). -/
  cycleTime : Nat := 1000000
  /-- Base time, ns (0x6011:04, :05). -/
  base : Nat := 0
  /-- Entries: gates and interval in ns. -/
  entries : List (BitVec 8 × Nat) := [(0xFF, 0)]
  deriving DecidableEq, Repr

/-- One plant network port (13_plant_network_and_time.md). -/
structure Port where
  /-- Link state: 0 down, 1 1000BASE-T, 2 2.5GBASE-T, 3 fast retrain (0x6000:02). -/
  link : Nat := 0
  /-- Link losses, saturating U32 (0x6000:04). -/
  losses : Nat := 0
  /-- Fast retrains (0x6000:05). -/
  retrains : Nat := 0
  /-- Frames sent (0x6000:06). -/
  sent : Nat := 0
  /-- Frames received (0x6000:07). -/
  received : Nat := 0
  /-- Receive errors (0x6000:08). -/
  errors : Nat := 0
  /-- Queue drops (0x6000:09). -/
  drops : Nat := 0
  /-- Egress queues 0 to 7, oldest first (R334). -/
  queues : SMap (List TxFrame) := []
  /-- Launch queue bank 0, in queuing order (R349). -/
  bank0 : List TxFrame := []
  /-- Launch queue bank 1 (R349). -/
  bank1 : List TxFrame := []
  /-- The frame on the line. -/
  line : Option TxFrame := none
  /-- Launch time whose guard is in force, ns (R347). -/
  guard : Option Nat := none
  /-- Operational gate list (R335). -/
  gates : GateList := {}
  /-- Current entry of the operational list (R335). -/
  entry : Nat := 0
  /-- Pending gate list and the instant it becomes operational, ns of the time base (R336). -/
  pendingGates : Option (GateList × Nat) := none
  /-- Operational list changes (0x6011:09). -/
  gateChanges : Nat := 0
  deriving DecidableEq, Repr

/-- One HSR ring (R331, R332, 13_plant_network_and_time.md). -/
structure Ring where
  /-- Duplicate discard table, oldest first, at most 4,096 (R332): source, sequence number, ports on which it has come. -/
  seen : List (BitVec 48 × BitVec 16 × List Nat) := []
  /-- Node table, at most 1,024 (R332). -/
  nodes : List (BitVec 48) := []
  /-- The module's own supervision frames return on the opposite port (R332). -/
  closed : Bool := false
  /-- HSR sequence number of the next frame. [DC1] -/
  hsrSeq : BitVec 16 := 0
  /-- Supervision frames sent since one of the module's own last returned (R332). [DC1] -/
  unreturned : Nat := 0
  /-- Duplicates discarded, saturating U32 (0x6010:05). -/
  duplicates : Nat := 0
  /-- Frames forwarded (0x6010:06). -/
  forwarded : Nat := 0
  /-- Forwarding drops (0x6010:07). -/
  forwardDrops : Nat := 0
  deriving DecidableEq, Repr

/-- One 802.1AS domain (R342, 13_plant_network_and_time.md). -/
structure Domain where
  /-- Good (0x6021:04). -/
  good : Bool := false
  /-- Grandmaster identity (0x6021:05). -/
  grandmaster : BitVec 64 := 0
  /-- Domain time minus local time, ns (0x6021:06). -/
  offset : Int := 0
  /-- Mean link delay per port, unit 0.1 ns (0x6021:07). -/
  linkDelay : SMap Nat := []
  /-- Instant at which the domain became good, ns (R342). -/
  goodSince : Nat := 0
  /-- Sync messages sent as grandmaster (R341). [DC1] -/
  syncSent : Nat := 0
  deriving DecidableEq, Repr

/-- Counters of a launch group (Table 13-6, 13_plant_network_and_time.md). -/
structure LaunchGroup where
  /-- Frames launched (0x6040:05). -/
  launched : Nat := 0
  /-- Late frames (0x6040:06). -/
  late : Nat := 0
  /-- Displaced frames (0x6040:07). -/
  displaced : Nat := 0
  /-- Superseded frames (0x6040:08). -/
  superseded : Nat := 0
  /-- Largest lateness, ns (0x6040:09). -/
  lateness : Nat := 0
  deriving DecidableEq, Repr

/-- The time island and its servo (R337–R343, 13_plant_network_and_time.md). -/
structure TimeBase where
  /-- Instant, ns of running time, of the latest command that carried one; the model's own clock. [DC1] -/
  now : Nat := 0
  /-- Time base minus running time, ns (R337). [DC1] -/
  offset : Int := 0
  /-- Time base state: 0 FREE, 1 LOCKING, 2 SYNCHRONISED, 3 HOLDOVER (R339, 0x6020:01). -/
  state : Nat := 0
  /-- Selected domain: 0 none, 1 A, 2 B (0x6020:02). -/
  selected : Nat := 0
  /-- Consecutive Sync messages with an offset of at most 100 ns (Table 13-3). -/
  within : Nat := 0
  /-- Consecutive Sync messages with an offset above 1 µs (Table 13-3). -/
  beyond : Nat := 0
  /-- Time steps since the last start (0x6020:0C). -/
  steps : Nat := 0
  /-- Domain A. -/
  domainA : Domain := {}
  /-- Domain B. -/
  domainB : Domain := {}
  deriving DecidableEq, Repr

/-- Plant network (13_plant_network_and_time.md). -/
structure Network where
  /-- Ports 1 to 4. -/
  ports : SMap Port := []
  /-- Ring A. -/
  ringA : Ring := {}
  /-- Ring B. -/
  ringB : Ring := {}
  /-- Launch groups 1 to 63. -/
  groups : SMap LaunchGroup := []
  /-- Delay check failures, saturating U32 (R352, 0x6030:05). -/
  delayFailures : Nat := 0
  /-- Largest delay accepted since the last start, ns (0x6030:06). -/
  largestDelay : Int := 0
  /-- Frames passed on by EtherType and not yet taken by their own step (R331). -/
  handed : List EthFrame := []
  /-- Time island (R337–R343). -/
  time : TimeBase := {}
  deriving DecidableEq, Repr

end Sys2Proof.Machine
end

