-- ==== Sys2Proof/Machine/State/Pair.lean ====
section
/-!
DEFINITION. State of the redundant pair (08_redundant_pair.md).
[DC1] marks a reset value the spec does not give (assumption log 1).
-/
namespace Sys2Proof.Machine

/-- A seam block sent and not yet acknowledged (R203). -/
structure Unacked where
  /-- The block. -/
  block : SeamBlock
  /-- Times it has been sent (R204). -/
  sends : Nat
  deriving DecidableEq, Repr

/-- One seam lane (R201–R205, 08_redundant_pair.md). -/
structure SeamLane where
  /-- 64b/66b block lock (R204, R205). -/
  lock : Bool := false
  /-- In service (R205, 0x3000:08). -/
  inService : Bool := false
  /-- Failed, retraining by itself (R204). -/
  failed : Bool := false
  /-- Takes weft blocks when sending; set again at the sender's own boundary (R204). -/
  weftReady : Bool := false
  /-- A HELLO has been accepted since block lock (R205). -/
  helloAccepted : Bool := false
  /-- LANE_SEQ of the next new block (R201). [DC1] -/
  txSeq : BitVec 16 := 0
  /-- LANE_SEQ expected next (R203). [DC1] -/
  rxNext : BitVec 16 := 0
  /-- LANE_SEQ of blocks received ahead of the one expected (R203). -/
  rxAhead : List (BitVec 16) := []
  /-- Unacknowledged blocks, oldest first, at most 256 (R203). -/
  unacked : List Unacked := []
  /-- LANE_SEQ of blocks waiting to be resent (R203). -/
  resend : List (BitVec 16) := []
  /-- Control messages waiting to be sent on this lane (R202). -/
  control : List PairMsg := []
  /-- The block on the line (R202). -/
  sending : Option SeamBlock := none
  /-- Blocks received since the last ACK (R203). -/
  ackOwed : Nat := 0
  /-- LANE_SEQ that the last ACK named for resending (R203). -/
  asked : Option (BitVec 16) := none
  /-- CRC errors, saturating U32 (0x3002:01). -/
  crcErrors : Nat := 0
  /-- Instants of the CRC errors of the last 1 ms (R204). -/
  crcTimes : List Nat := []
  /-- Retransmissions, saturating U32 (0x3002:03). -/
  retransmissions : Nat := 0
  deriving DecidableEq, Repr

/-- A heartbeat path as its receiver sees it (R209). -/
structure Path where
  /-- The path is up (0x3000:06, 0x3000:07). -/
  up : Bool := false
  /-- Send time and SEQ of the last accepted message (R209). -/
  last : Option (Nat × BitVec 16) := none
  /-- The same send time in the receiver's time base (R209). -/
  lastSend : Int := 0
  /-- SEQ of the next message this module sends on the path (Table 8-3). [DC1] -/
  txSeq : BitVec 16 := 0
  /-- Messages dropped (R209). -/
  dropped : Nat := 0
  deriving DecidableEq, Repr

/-- What the partner's accepted messages announce (Table 8-3). -/
structure Partner where
  /-- Mode code last announced; none since the paths were lost. -/
  mode : Option Nat := none
  /-- JERSEY. -/
  jersey : BitVec 32 := 0
  /-- FLAGS bit SYNC. -/
  sync : Bool := false
  /-- Configuration generation. -/
  generation : BitVec 32 := 0
  /-- Program image identity. -/
  image : BitVec 32 := 0
  /-- CYCLE. -/
  cycle : BitVec 40 := 0
  /-- It has announced LEAVING from STANDBY (R50, R217). -/
  left : Bool := false
  deriving DecidableEq, Repr

/-- An output command record (Table 8-5). `target`: station number, or 2^14 + channel × 256 + object. -/
structure OutCommand where
  /-- TARGET. -/
  target : Nat
  /-- SEQ sent to that target. -/
  seq : BitVec 16
  /-- LAUNCH offset in ns; none 0xFFFF_FFFF. -/
  launch : Option Nat
  deriving DecidableEq, Repr

/-- A weft frame (Table 8-4, Table 8-5, R211). -/
structure WeftFrame where
  /-- FORMAT. -/
  format : Nat
  /-- FLAGS: SWITCH, CONFIRM, UNDO, HANDOVER, STOP, PLAN, CONFIG, RESYNC from bit 0. -/
  flags : BitVec 8
  /-- PLAN in force from cycle N+1. -/
  plan : Nat
  /-- CYCLE N. -/
  cycle : BitVec 40
  /-- JERSEY. -/
  jersey : BitVec 32
  /-- START of cycle N in ns. -/
  start : Nat
  /-- IMAGE_ID. -/
  image : BitVec 32
  /-- SHADOW_ID. -/
  shadow : BitVec 32
  /-- CONFIG_GEN. -/
  generation : BitVec 32
  /-- Word entries in ascending address. -/
  words : List (Nat × Word)
  /-- Output command records in queuing order. -/
  commands : List OutCommand
  /-- Resync records: line and its eight words. -/
  slices : List (Nat × List Word)
  /-- NEXT_JERSEY. -/
  nextJersey : BitVec 32
  /-- SLICE_START. -/
  sliceStart : Nat
  deriving DecidableEq, Repr

/-- A weft frame being reassembled in the receive store (R22, R202). -/
structure RxFrame where
  /-- FRAME_TAG: cycle counter bits [15:0]. -/
  tag : BitVec 16
  /-- Payload pieces: offset and bytes. -/
  pieces : List (Nat × List Byte)
  /-- Length, once the last block has arrived. -/
  length : Option Nat := none
  deriving DecidableEq, Repr

/-- The standby's last committed checkpoint (R214). -/
structure Checkpoint where
  /-- Cycle counter. -/
  cycle : BitVec 40
  /-- JERSEY of the frame. -/
  jersey : BitVec 32
  /-- PLAN of the frame. -/
  plan : Nat
  /-- Start time of the cycle in the time base of the module that solved it, ns. -/
  start : Nat
  /-- This module solved the cycle itself, before it handed over (R226, R495). -/
  own : Bool := false
  /-- Program image identity. -/
  image : BitVec 32
  /-- Configuration generation. -/
  generation : BitVec 32
  /-- Output command records. -/
  commands : List OutCommand
  /-- Time base at which its BOUNDARY arrived, ns (R120). -/
  boundaryAt : Nat
  deriving DecidableEq, Repr

/-- Standby state (0x3000:03). -/
inductive StandbyState where
  | none | unsynchronised | resynchronising | synchronised
  deriving DecidableEq, Repr

/-- A HANDOVER in progress on the handing module (R226). -/
structure Handover where
  /-- The handover cycle H. -/
  cycle : BitVec 40
  /-- NEXT_JERSEY. -/
  nextJersey : BitVec 32
  /-- Cycle H has ended at this instant. -/
  endedAt : Option Nat := none
  /-- HANDOVER_CONFIRM, or ACTIVE with jersey J + 1, accepted. -/
  confirmed : Bool := false
  deriving DecidableEq, Repr

/-- A checkpoint history entry (Table 8-12, R235). -/
structure HistoryEntry where
  /-- CYCLE. -/
  cycle : BitVec 40
  /-- FLAGS. -/
  flags : BitVec 8
  /-- PLAN. -/
  plan : Nat
  /-- RESULT. -/
  result : Nat
  /-- JERSEY. -/
  jersey : BitVec 32
  /-- START in ns. -/
  start : Nat
  /-- LENGTH. -/
  length : Nat
  /-- WORDS. -/
  words : Nat
  /-- COMMANDS. -/
  commands : Nat
  /-- SLICES. -/
  slices : Nat
  /-- TIMING, unit 10 ns. -/
  timing : Nat
  /-- RESENT. -/
  resent : Nat
  /-- IMAGE_ID. -/
  image : BitVec 32
  /-- CONFIG_GEN. -/
  generation : BitVec 32
  deriving DecidableEq, Repr

/-- The seam link (R201–R206, 08_redundant_pair.md). -/
structure Seam where
  /-- Lane 0. -/
  lane0 : SeamLane := {}
  /-- Lane 1. -/
  lane1 : SeamLane := {}
  /-- Lane failures, saturating U32 (R204, 0x3002:05). -/
  laneFailures : Nat := 0
  /-- Bytes resent in this cycle (0x3002:06). -/
  resentBytes : Nat := 0
  /-- Blocks of the frame of this cycle resent (Table 8-12 RESENT). -/
  resentBlocks : Nat := 0
  /-- Reserve peak, unit 0.1 % (0x3002:06). -/
  reservePeak : Nat := 0
  /-- Weft format in use; 0 none (R205, 0x3002:07). -/
  format : Nat := 0
  /-- Round trip measured at link start, ns (0x3002:08). [DC1] -/
  roundTrip : Nat := 0
  /-- Pair mismatch (R34). -/
  pairMismatch : Bool := false
  /-- Weft format mismatch (R205). -/
  formatMismatch : Bool := false
  /-- Weft blocks waiting to be sent (R202). -/
  weftTx : List SeamBlock := []
  /-- Service transfers waiting to be sent, the one that is being sent first (R206). -/
  serviceTx : List Service := []
  /-- Bytes of that transfer that have been put into blocks (Table 8-1). -/
  serviceOffset : Nat := 0
  /-- Its transfer number (Table 8-1). [DC1] -/
  serviceNumber : BitVec 16 := 0
  /-- Service blocks of a failed lane, to be sent on the other (R204). -/
  serviceBlocks : List SeamBlock := []
  /-- Frames being reassembled (R202). -/
  rxFrames : List RxFrame := []
  /-- Service transfers being reassembled, and those whole but not yet taken (R201, R202). -/
  rxServices : List RxFrame := []
  /-- FRAME_TAG of each weft block that arrived resent, for the history of the standby (Table 8-12 RESENT). -/
  rxResent : List (BitVec 16) := []
  /-- Control messages handed on by the receiver and not yet taken by their own step (R201). -/
  handed : List PairMsg := []
  deriving DecidableEq, Repr

/-- Pair state (R207–R235, 08_redundant_pair.md). -/
structure Pair where
  /-- Seam path (R209). -/
  seamPath : Path := {}
  /-- Plant network path (R209). -/
  netPath : Path := {}
  /-- Partner time base minus own, as last measured (R209). -/
  offset : Option Int := none
  /-- What the partner announces (Table 8-3). -/
  partner : Partner := {}
  /-- Jersey (R221, 0x3000:01). -/
  jersey : BitVec 32 := 0
  /-- Highest jersey known, kept in MRAM (R223, 0x3000:02). -/
  highest : BitVec 32 := 0
  /-- Highest jersey heard or reported since LOAD began (R222). -/
  heard : BitVec 32 := 0
  /-- As standby: own synchronisation state (R215, 0x3000:03). -/
  standby : StandbyState := .none
  /-- As standby: the last committed checkpoint (R214, 0x3000:04). -/
  checkpoint : Option Checkpoint := none
  /-- As standby: frames received complete, oldest first (R214). -/
  frames : List WeftFrame := []
  /-- As standby: BOUNDARY messages received with the time base at arrival (R214). -/
  boundaries : List (PairMsg × Nat) := []
  /-- As standby: the commit in progress, with the arrival time of its BOUNDARY (R214). -/
  committing : Option (WeftFrame × Nat) := none
  /-- As standby: FRAME_TAG of the last whole frame whose trailer failed (R69, R214). -/
  badFrame : Option (BitVec 16) := none
  /-- As standby: a declaration of the active module's fault has been accepted (R217). -/
  declared : Bool := false
  /-- As standby: before-images of the handover frame applied so far (R227). -/
  handoverBefore : Option (BitVec 40 × List (Nat × Word)) := none
  /-- As standby: the service part of the resynchronisation has passed (R230 step 1). -/
  resyncAccepted : Bool := false
  /-- As standby: lines committed in this resynchronisation (R230, 0x3000:05). -/
  resyncLines : Nat := 0
  /-- As standby: the last line is committed and the mirror base is being written (R230 step 4). -/
  resyncBase : Bool := false
  /-- As standby: a configuration received for a commit that is still to come: generation, format, values (R216, R426). -/
  heldConfig : Option StoredCopy := none
  /-- As standby: a rule set received for a commit that is still to come (R305). -/
  heldRules : Option (SMap Region) := none
  /-- As active: a resynchronisation is asked for and begins at the next boundary (R230). -/
  resyncWanted : Bool := false
  /-- As active: the service transfers of a resynchronisation are being sent (R230 step 1). -/
  resyncTransfer : Bool := false
  /-- As active: next index in the order of the resynchronised lines (R230). -/
  resyncNext : Option Nat := none
  /-- As active: the partner has a frame of every cycle since its resynchronisation (R215). -/
  lastWeft : Option WeftFrame := none
  /-- As active: the output commands of this cycle in queuing order, for its weft frame (R211). -/
  queued : List OutCommand := []
  /-- As active: the weft frame of this cycle is being sent (R213). -/
  weftOpen : Bool := false
  /-- As active: the BOUNDARY of this cycle waits for the release (R213). -/
  boundaryDue : Bool := false
  /-- As active: the BOUNDARY of this cycle carries ABANDONED (R175, R213). -/
  boundaryAbandoned : Bool := false
  /-- HANDOVER in progress on the handing module (R226). -/
  handover : Option Handover := none
  /-- FAULT messages still to be repeated (R208). -/
  faultRepeats : Nat := 0
  /-- Takeovers by this module, kept across restarts (0x3000:09). -/
  takeovers : Nat := 0
  /-- Handovers completed, kept across restarts (0x3000:0A). -/
  handovers : Nat := 0
  /-- Handovers aborted, kept across restarts (R229, 0x3000:0B). -/
  aborted : Nat := 0
  /-- Last detection time, µs (0x3000:0C). -/
  detection : Nat := 0
  /-- Last takeover time, µs (0x3000:0D). -/
  takeoverTime : Nat := 0
  /-- Host writes discarded at handover (R226, 0x3000:0E). -/
  discardedHandover : Nat := 0
  /-- Single-path losses (0x3000:0F). -/
  singlePath : Nat := 0
  /-- Checkpoint history, newest first, at most 1,048,576 entries (R235). -/
  history : List HistoryEntry := []
  /-- Entries that have joined the history since the start: the next one's place in its ring is this number modulo 1,048,576. -/
  historyCount : Nat := 0
  deriving DecidableEq, Repr

end Sys2Proof.Machine
end

