-- ==== Sys2Proof/Machine/State/Station.lean ====
section
/-!
DEFINITION. State of stations, guests, door units and the event loom (15_stations_and_io_exchange.md).
[DC1] marks a reset value the spec does not give (assumption log 1).
-/
namespace Sys2Proof.Machine

/-- Station states (Table 15-3, R384). -/
inductive StationState where
  | absent | joining | inService | dropped | mismatch
  deriving DecidableEq, Repr

/-- A complete INPUT frame as a buffer holds it (R16, R390, 15_stations_and_io_exchange.md). -/
structure InputFrame where
  /-- CYCLE: the last OUTPUT frame applied. -/
  cycle : BitVec 40
  /-- STATE: output state 0 to 3. -/
  state : BitVec 2
  /-- JERSEY. -/
  jersey : BitVec 32
  /-- Payload bytes (Table 15-2). -/
  payload : List Byte
  /-- Receive timestamp, ns of running time. -/
  stamp : Nat
  deriving DecidableEq, Repr

/-- What the last accepted ANNOUNCE carried (Table 15-2, R385, 15_stations_and_io_exchange.md). -/
structure Announce where
  /-- TYPE. -/
  type : BitVec 32
  /-- SERIAL. -/
  serial : BitVec 64
  /-- LAYOUT digest. -/
  layout : BitVec 32
  /-- Digital input count. -/
  digitalIn : Nat
  /-- Analogue input count. -/
  analogueIn : Nat
  /-- Digital output count. -/
  digitalOut : Nat
  /-- Analogue output count. -/
  analogueOut : Nat
  deriving DecidableEq, Repr

/-- One station (R383–R396, 15_stations_and_io_exchange.md). -/
structure Station where
  /-- Station state (Table 15-3, 0x8010:15). -/
  state : StationState := .absent
  /-- Session accepted since the start; none reads 0 (R383, 0x8010:16). -/
  session : Option (BitVec 16) := none
  /-- SEQ of the last accepted frame within the session; none after a new session (R383 step 5). -/
  seq : Option (BitVec 16) := none
  /-- Source of the last accepted ANNOUNCE (0x8010:17). -/
  mac : BitVec 48 := 0
  /-- The last accepted ANNOUNCE since the start (R385). -/
  announce : Option Announce := none
  /-- Buffer filled by the network: the latest complete INPUT frame (R16). -/
  latest : Option InputFrame := none
  /-- Buffer frozen for this cycle (R16). -/
  frozen : Option InputFrame := none
  /-- State in force at the freeze of this cycle (R384, R392). -/
  atFreeze : StationState := .absent
  /-- Last frozen STATE (Table 15-6). [DC1] -/
  lastFrozenState : BitVec 2 := 0
  /-- A complete INPUT frame has come since the last start (Table 15-5). -/
  everComplete : Bool := false
  /-- Missed count (R390, 0x8010:1C). -/
  missed : Nat := 0
  /-- Dropouts, saturating U32 (R386, 0x8010:18). -/
  dropouts : Nat := 0
  /-- Outputs discarded (R392, 0x8010:19). -/
  outputsDiscarded : Nat := 0
  /-- Frames rejected (R383, 0x8010:1A). -/
  rejected : Nat := 0
  /-- Station highest jersey (R383, 0x8010:1B). -/
  jersey : BitVec 32 := 0
  /-- SEQ of the last OUTPUT frame queued to the station (Table 15-1). 0 makes the first one 1. -/
  outSeq : BitVec 16 := 0
  /-- TIME of the last OUTPUT frame queued, ns of the time base (Table 15-6). -/
  lastOut : Option Nat := none
  /-- CYCLE of the first RESYNC frame of this JOINING (R393). -/
  resyncCycle : Option (BitVec 40) := none
  /-- JOINING has outlasted the resync limit (R393). -/
  resyncSlow : Bool := false
  /-- The output buffer has lost a codeword: the frame of the cycle is not sent (Table 9-3). -/
  outLost : Bool := false
  deriving DecidableEq, Repr

/-- One guest slot in use (R387, R388, 15_stations_and_io_exchange.md). -/
structure Guest where
  /-- Ring: A false, B true. -/
  ring : Bool
  /-- Source address (0x8030:02). -/
  source : BitVec 48
  /-- Announced STATION; 0xFFFF unnumbered (0x8030:03). -/
  number : Nat
  /-- TYPE (0x8030:04). -/
  type : BitVec 32
  /-- SERIAL (0x8030:05). -/
  serial : BitVec 64
  /-- AUTH: frames are checked against the guest key (Table 15-4). -/
  auth : Bool
  /-- Latest INPUT payload with its receive timestamp, ns. -/
  latest : Option (List Byte × Nat) := none
  /-- Frozen INPUT payload with its receive timestamp, ns. -/
  frozen : Option (List Byte × Nat) := none
  /-- A complete INPUT frame has arrived since the previous XCH phase (Table 15-4). -/
  fresh : Bool := false
  /-- The guest timeout has expired: the slot is cleared at the next XCH phase (R387). -/
  clearing : Bool := false
  deriving DecidableEq, Repr

/-- A door unit (R389, 15_stations_and_io_exchange.md). -/
structure DoorUnit where
  /-- Present (0x8020:04). -/
  present : Bool := false
  /-- Changes, saturating U32 (0x8020:05). -/
  changes : Nat := 0
  /-- It became present in this cycle: its transmit objects queue one message (R389). -/
  resync : Bool := false
  deriving DecidableEq, Repr

/-- A report in an intake queue (R398, R399, 15_stations_and_io_exchange.md). -/
structure LoomReport where
  /-- Root-cause key. -/
  key : BitVec 32
  /-- Reporter: [15:14] kind, [13:0] number. -/
  reporter : BitVec 16
  /-- Instant, ns of the time base. -/
  stamp : Nat
  /-- Severity 0 to 3. -/
  severity : Nat
  /-- Argument. -/
  arg : BitVec 64
  deriving DecidableEq, Repr

/-- An open event, or an event record (R400, Table 15-9, 15_stations_and_io_exchange.md). -/
structure LoomEvent where
  /-- KEY. -/
  key : BitVec 32
  /-- SEVERITY. -/
  severity : Nat
  /-- REPORTER_OVERFLOW. -/
  reporterOverflow : Bool := false
  /-- LOSS. -/
  loss : Bool := false
  /-- OVERFLOW_EVENT. -/
  overflowEvent : Bool := false
  /-- CLOSED_BY_LIMIT. -/
  closedByLimit : Bool := false
  /-- REPORTS. -/
  reports : Nat
  /-- The reporter set. -/
  reporters : List (BitVec 16)
  /-- Time of the first report, ns. -/
  first : Nat
  /-- Time of the last report, ns. -/
  last : Nat
  /-- Bits [31:0] of the first report's argument. -/
  arg : BitVec 32
  deriving DecidableEq, Repr

/-- The event loom of one class (R399, R400, 15_stations_and_io_exchange.md). -/
structure Loom where
  /-- Intake queue, oldest first, at most 1,024 (R399). -/
  intake : List LoomReport := []
  /-- Open events with slots, in order of opening (R400). -/
  events : List LoomEvent := []
  /-- The overflow event, when open (R400). -/
  overflow : Option LoomEvent := none
  /-- Instants at which events opened in the past 1 s, ns (R400). -/
  opened : List Nat := []
  /-- A report has been dropped since the last event closed: the next carries LOSS (R399). -/
  lossDue : Bool := false
  /-- Event ring, oldest first, at most 1,024 (R400). -/
  ring : List LoomEvent := []
  /-- Records at the head of the ring that 0x8041:01 has marked read. -/
  readMarks : Nat := 0
  /-- Reports dropped, saturating U32 (0x8040:06). -/
  dropped : Nat := 0
  /-- Reports in overflow (0x8040:07). -/
  inOverflow : Nat := 0
  /-- Events closed (0x8040:08). -/
  closed : Nat := 0
  /-- Events overwritten (0x8041:03). -/
  overwritten : Nat := 0
  deriving DecidableEq, Repr

/-- Stations, guests, door units and loom (15_stations_and_io_exchange.md). -/
structure Stations where
  /-- Stations 0 to 1,023. -/
  stations : SMap Station := []
  /-- Guest slots 0 to 63; free when none. -/
  guests : SMap (Option Guest) := []
  /-- Door units 0 to 511. -/
  units : SMap DoorUnit := []
  /-- Loom per class, 0 S to 3 C. -/
  loom : SMap Loom := []
  /-- Stations whose key a commit has changed, until the boundary at which it takes effect (R385). -/
  rekeyed : List Nat := []
  /-- Keys that these stations' frames carry until then (R385). -/
  oldKeys : SMap (List Byte) := []
  /-- Frames that failed a guest check (R387). [DC1]
  The spec names no entry for the count. -/
  guestsRejected : Nat := 0
  deriving DecidableEq, Repr

end Sys2Proof.Machine
end

