-- ==== Sys2Proof/Machine/State/Quilt.lean ====
section
/-!
DEFINITION. State of the quilt event recorder (19_event_recorder.md). [DC1] marks a reset value the spec does not give
(assumption log 1).
-/
namespace Sys2Proof.Machine

/-- The events of code 0x0600: the manual names some and only describes the others (Table 19-3). -/
inductive OtherEvent where
  | supplyInputLost | retainedDataLost | partitionFaulted | changeState | hostWritesDiscarded
  | changeLostAtRestart | handoverAborted | arbiterTrip | lockAbandoned | lifecycleChange | debugUnlock
  | domainSwitch | timeStep | trimArmed | trimDisarmed | trimKeyIgnored | trimCover | localInputFault | staging
  | firmwareFallback | islandReset | partyChange | slotChange | partnerPresent
  deriving DecidableEq, Repr

/-- Body of a quilt record (R463, R464, Table 19-3). Names are kept as strings; bytes follow by the serialiser. -/
inductive QuiltBody where
  /-- 0x0100: previous mode, new mode, cause. -/
  | transition (previous new cause : Nat)
  /-- 0x0200, 0x0201: alarm raised or cleared, with the source the alarm names. -/
  | alarm (raised : Bool) (a : Alarm) (source : Nat)
  /-- 0x0300: cause, detail, secondary flag. -/
  | faultCause (cause : Nat) (detail : Nat) (secondary : Bool)
  /-- 0x0400: protection notice. -/
  | notice (n : Notice)
  /-- 0x0500: closed loom event with its class. -/
  | loom (cls : Nat) (e : LoomEvent)
  /-- 0x0600: other event with its arguments. -/
  | other (e : OtherEvent) (args : List Nat)
  /-- 0x0700: records lost. -/
  | lost (count : Nat)
  /-- HISTOGRAM: code, interval, low, width, under, bins, over. -/
  | histogram (code interval : Nat) (low : Int) (width under : Nat) (bins : List Nat) (overTop : Nat)
  /-- EXTREME: code, interval, min, minAt, max, maxAt, count, sum. -/
  | extreme (code interval : Nat) (min : Int) (minAt : Nat) (max : Int) (maxAt count : Nat) (sum : Int)
  deriving DecidableEq, Repr

/-- A quilt record (R462, Table 19-2, 19_event_recorder.md). -/
structure QuiltRecord where
  /-- SEVERITY. -/
  severity : Nat
  /-- LENGTH in bytes. -/
  length : Nat
  /-- SEQ. -/
  seq : BitVec 32
  /-- OP_SECONDS. -/
  seconds : Nat
  /-- POWER_CYCLES. -/
  powerCycles : Nat
  /-- SOURCE. -/
  source : Nat := 0
  /-- PARTIAL (R467). -/
  isPartial : Bool := false
  /-- CYCLE of an EVENT; 0 before the first cycle (R463). -/
  cycle : BitVec 40 := 0
  /-- Time base in ns of an EVENT (R463). -/
  time : Nat := 0
  /-- Body. -/
  body : QuiltBody
  deriving DecidableEq, Repr

/-- A block of the quilt area (R461, Table 19-1, 19_event_recorder.md). -/
structure QuiltBlock where
  /-- BLOCK_SEQ. -/
  seq : BitVec 32
  /-- SEVERITY. -/
  severity : Nat
  /-- OPENED_AT. -/
  openedAt : Nat
  /-- The block takes further records. -/
  isOpen : Bool
  /-- Records, oldest first. -/
  records : List QuiltRecord
  deriving DecidableEq, Repr

/-- An open statistics accumulator (R464, R465, 19_event_recorder.md). -/
structure Accumulator where
  /-- WIDTH at the interval start. -/
  width : Nat := 0
  /-- UNDER. -/
  under : Nat := 0
  /-- Bins 0 to 31. -/
  bins : SMap Nat := []
  /-- OVER. -/
  overTop : Nat := 0
  /-- MIN, with the operating second. -/
  min : Int := 0
  /-- MIN_AT. -/
  minAt : Nat := 0
  /-- MAX. -/
  max : Int := 0
  /-- MAX_AT. -/
  maxAt : Nat := 0
  /-- COUNT. -/
  count : Nat := 0
  /-- SUM. -/
  sum : Int := 0
  deriving DecidableEq, Repr

/-- A copy of the counter record (R471, 19_event_recorder.md). -/
structure CounterRecord where
  /-- OP_SECONDS. -/
  seconds : Nat := 0
  /-- POWER_CYCLES. -/
  powerCycles : Nat := 0
  /-- Write count. -/
  writes : Nat := 0
  deriving DecidableEq, Repr

/-- The quilt (19_event_recorder.md). -/
structure Quilt where
  /-- Blocks 2 to 2,047; none never written (R461). Kept across restarts. -/
  blocks : SMap (Option QuiltBlock) := []
  /-- Counter record copies in blocks 0 and 1 (R471). Kept across restarts. -/
  counters : CounterRecord × CounterRecord := ({}, {})
  /-- Volatile buffer, in SEQ order (R468). -/
  buffer : List QuiltRecord := []
  /-- Staging queue in DRAM (R469). -/
  queue : List QuiltRecord := []
  /-- Records lost and not yet recorded in an event 0x0700 (R469). -/
  lostDue : Nat := 0
  /-- Records lost, kept across restarts, saturating U32 (0xA012:07). -/
  lost : Nat := 0
  /-- SEQ of the next record (R462, R474). Kept across restarts. [DC1] -/
  nextSeq : BitVec 32 := 0
  /-- BLOCK_SEQ of the next block (R461, R474). Kept across restarts. [DC1] -/
  nextBlock : BitVec 32 := 0
  /-- Operating seconds (R471, 0xA012:01). Kept across restarts. [DC1] -/
  seconds : Nat := 0
  /-- Power cycles (R471, 0xA012:02). Kept across restarts. [DC1] -/
  powerCycles : Nat := 0
  /-- A flush runs (R470). -/
  flushing : Bool := false
  /-- Last flush duration, unit 10 µs (0xA012:08). -/
  flushDuration : Nat := 0
  /-- Last flush cause (0xA012:09). -/
  flushCause : Nat := 0
  /-- Operating second at which the statistics interval opened (R465). [DC1] -/
  statsFrom : Nat := 0
  /-- Statistics interval in force (R465): a changed one takes effect at the next close. -/
  statsInterval : Nat := 3600
  /-- Operating second at which the door unit interval opened (R465). [DC1] -/
  unitsFrom : Nat := 0
  /-- Door unit interval in force (R465). -/
  unitsInterval : Nat := 86400
  /-- Open accumulators, key 1024 × CODE + SOURCE (Table 19-4). -/
  accumulators : SMap Accumulator := []
  /-- The last count byte counted, per channel (R466). -/
  tapCounts : SMap (Option Nat) := []
  /-- Errors of a port or door channel at the last second, key as accumulators (Table 19-4). -/
  lastCounts : SMap Nat := []
  deriving DecidableEq, Repr

end Sys2Proof.Machine
end

