-- ==== Sys2Proof/Machine/State/Solver.lean ====
section
/-!
DEFINITION. State of the solver island (04_logic_solver.md, 05_instruction_set.md), of the cycle engine and admission
(06_cycle_and_admission.md) and of the online change (07_online_change.md).
[DC1] marks a reset value the spec does not give (assumption log 1).
-/
namespace Sys2Proof.Machine

/-- One open LOOP (Table 4-1, R139, 05_instruction_set.md). -/
structure LoopEntry where
  /-- Remaining count (R139). -/
  remaining : Nat
  /-- Index of the iteration; IX of the innermost entry (R139). -/
  index : Nat
  /-- Address of the first instruction of the body (R139). -/
  body : BitVec 20
  deriving DecidableEq, Repr

/-- A value posted by XCH.F1 (R144, 05_instruction_set.md). -/
structure XchPost where
  /-- Word address of the local output word (R143). -/
  address : Word
  /-- Posted value (R143). -/
  value : Word
  /-- The signature window that contains the XCH.F1 has been compared and has passed (R144). -/
  passed : Bool := false
  deriving DecidableEq, Repr

/-- State of one place, a joined tandem or a solo (Table 4-1, R83, R87, 04_logic_solver.md). -/
structure Lane where
  /-- PC (Table 4-1). -/
  pc : BitVec 20 := 0
  /-- ACC, logic accumulator (Table 4-1). -/
  acc : Bool := false
  /-- Branch stack, top first, at most 16 entries (Table 4-1, R88). -/
  branch : List Bool := []
  /-- WA, word accumulator A (Table 4-1). -/
  wa : Word := 0
  /-- WB, word accumulator B (Table 4-1). -/
  wb : Word := 0
  /-- SAT, sticky saturation flag (Table 4-1, R90). -/
  sat : Bool := false
  /-- Call stack, innermost first: return address and branch depth, at most 4 (Table 4-1, R88). -/
  calls : List (BitVec 20 × Nat) := []
  /-- Loop stack, innermost first, at most 4 (Table 4-1, R88). IX is the index of its first entry, else 0 (R139). -/
  loops : List LoopEntry := []
  /-- Signature of the leading lane, or of the solo (R85, R236). [DC1] outside a partition -/
  sigLead : BitVec 32 := 0
  /-- Signature of the trailing lane (R85, R236). [DC1] outside a partition -/
  sigTrail : BitVec 32 := 0
  /-- Solver cycles of the present signature window (R85). -/
  window : Nat := 0
  /-- Solver cycles of the running partition, the path watchdog's count (R89). -/
  path : Nat := 0
  /-- The running partition (R93). -/
  running : Option Nat := none
  /-- Partitions still to run in this cycle, in the order of R93. -/
  waiting : List Nat := []
  /-- Values posted by XCH.F1 and not yet latched, in program order (R144). -/
  posts : List XchPost := []
  deriving DecidableEq, Repr

/-- A journal record of the MRAM mirror (R117, 04_logic_solver.md). -/
structure MirrorRecord where
  /-- Cycle counter of the boundary it belongs to (R117). -/
  cycle : BitVec 40
  /-- Word entries: address and value (R117). -/
  words : List (Nat × Word)
  /-- Instant of that boundary, ns (0x2012:02). -/
  time : Nat := 0
  deriving DecidableEq, Repr

/-- The MRAM mirror (R117, R118, R194, 04_logic_solver.md). Kept across restarts. -/
structure Mirror where
  /-- Program image identity the mirror is tagged with (R117). -/
  image : BitVec 32 := 0
  /-- A base image is present and its check passes (R117, Table 3-9 row 4). -/
  valid : Bool := false
  /-- Base image: the retained region and the counter cells (R117). -/
  base : SMap Word := []
  /-- Cycle counter of the base (R117). -/
  baseCycle : BitVec 40 := 0
  /-- Committed records, oldest first (R117). -/
  journal : List MirrorRecord := []
  /-- Record being written, without its commit mark (R117). -/
  writing : Option MirrorRecord := none
  /-- Pending record into which later cycles merge (R117). -/
  pendingRecord : Option MirrorRecord := none
  /-- New base being written into the second base area, with its tag (R117, R194). -/
  newBase : Option (BitVec 32 × MirrorRecord) := none
  /-- Instant of the base's boundary, ns (0x2012:02). [DC1] -/
  baseAt : Nat := 0
  deriving DecidableEq, Repr

/-- Registers and stores of the solver island (04_logic_solver.md). -/
structure Solver where
  /-- Lane state by place: 0–15 joined tandem, 16 + n solo n (R83, R87). -/
  places : SMap Lane := []
  /-- The data store: 1,048,576 words; an unlisted word reads zero, as the wipe leaves it (R75, R105). -/
  store : SMap Word := []
  /-- Before-image store: start-of-solve values of shared words written in this cycle (R95). -/
  before : SMap (Option Word) := []
  /-- Written-word logger: addresses written in this cycle, rising (R18). -/
  written : List Nat := []
  /-- Entries of the last weft frame (0x2012:04). [DC1] -/
  writtenLast : Nat := 0
  /-- Program bank 0: empty, or the image whose code it holds (R121). -/
  bank0 : Option Image := none
  /-- Program bank 1 (R121). -/
  bank1 : Option Image := none
  /-- Active bank (R121, 0x2012:06). [DC1] -/
  activeBank : Fin 2 := 0
  /-- Lane plan in force (R96, 0x2010:01). -/
  plan : Nat := 0
  /-- Accepted plan request, and whether an output phase has started since (R97). -/
  planPending : Option (Nat × Bool) := none
  /-- Plan request result (R97, 0x2010:03). -/
  planResult : Nat := 0
  /-- Rejoin tests running, by tandem (R99). -/
  rejoinTests : List (Fin 16) := []
  /-- Tandems whose rejoin test has failed in this plan change (R99). -/
  rejoinFailed : List (Fin 16) := []
  /-- Failed lanes, bit n lane n (R102, 0x2010:05). -/
  failedLanes : BitVec 32 := 0
  /-- Faulted partitions, bit b partition b (R104). -/
  faulted : BitVec 256 := 0
  /-- Saturation count per partition (R91, 0x2011:07). -/
  saturations : SMap Nat := []
  /-- Solver cycles of the last completed run per partition (0x2011:06). [DC1] -/
  lastPath : SMap Nat := []
  /-- The MRAM mirror (R117). -/
  mirror : Mirror := {}
  deriving DecidableEq, Repr

/-- Figures of one lane plan that admission computed (R158–R166, 06_cycle_and_admission.md), in solver cycles. -/
structure PlanFigures where
  /-- Solve term (R160). -/
  solve : Nat := 0
  /-- T, sum of the four terms (R158). -/
  t : Nat := 0
  /-- Admitted cycle: the larger of T and the minimum cycle time (R165). -/
  admitted : Nat := 0
  /-- Queuing bound Q (R164). -/
  q : Nat := 0
  /-- T1, with the checkpoint term at the one-lane rate (R166). -/
  t1 : Nat := 0
  /-- Shared words of the plan, rising (R95). -/
  shared : List Nat := []
  /-- Write windows per place: first and last word (R287). -/
  windows : List (Nat × List (Nat × Nat)) := []
  deriving DecidableEq, Repr

/-- What an accepted admission leaves with a program (R158, R176). -/
structure Admitted where
  /-- Longest-path cost per partition (R149, 0x2011:05). -/
  paths : SMap Nat := []
  /-- XCH term (R159, 0x2031:05). -/
  xch : Nat := 0
  /-- Output term (R161, 0x2031:07). -/
  output : Nat := 0
  /-- Checkpoint term, two lanes (R162, 0x2031:08). -/
  checkpoint : Nat := 0
  /-- Byte count of the largest weft frame (R162). -/
  bytes : Nat := 0
  /-- W, static written words (R162, 0x2031:0C). -/
  words : Nat := 0
  /-- Standby commit time (R163, 0x2031:0B). -/
  commit : Nat := 0
  /-- Figures per plan, plan 0 first. -/
  plans : List PlanFigures := []
  deriving DecidableEq, Repr

/-- One finding record (Table 6-4, R168). -/
structure Finding where
  /-- CODE (Table 6-5, Table 7-6). -/
  code : Nat
  /-- PLAN, 0xFF none. -/
  plan : Nat := 0xFF
  /-- CLASS, 0xFF none. -/
  cls : Nat := 0xFF
  /-- TERM. -/
  term : Nat := 0
  /-- PARTITION, 0xFFFF none. -/
  part : Nat := 0xFFFF
  /-- LOCATION. -/
  location : Nat := 0
  /-- VALUE. -/
  value : Nat := 0
  /-- LIMIT. -/
  limit : Nat := 0
  deriving DecidableEq, Repr

/-- The admission report (Table 6-3, R168). -/
structure Report where
  /-- IMAGE_ID. -/
  image : BitVec 32 := 0
  /-- RESULT: refused. -/
  refused : Bool := false
  /-- TRIGGER: 0 LOAD, 1 online change, 2 configuration commit. -/
  trigger : Nat := 0
  /-- FINDINGS: number of findings, recorded or not. -/
  count : Nat := 0
  /-- WORST_CYCLE, ns. -/
  worstCycle : Nat := 0
  /-- WORST_PLAN. -/
  worstPlan : Nat := 0
  /-- The recorded findings, at most 64. -/
  findings : List Finding := []
  deriving DecidableEq, Repr

/-- Phases of the cycle engine (R151, Table 6-1). -/
inductive Phase where
  /-- No cycle runs. -/
  | idle
  /-- The boundary has occurred and the minimum cycle time has not passed (R153). -/
  | waiting
  | xch | solve | output
  deriving DecidableEq, Repr

/-- A held host write (R108, R172). -/
structure HostWrite where
  /-- Word address. -/
  address : Nat
  /-- Value. -/
  value : Word
  /-- Mask: bits to replace; all ones for DATA WRITE (R437). -/
  mask : Word
  /-- Already counted as carried past its first XCH phase (0x2032:03). -/
  carried : Bool := false
  deriving DecidableEq, Repr

/-- The cycle engine (06_cycle_and_admission.md). -/
structure Cycle where
  /-- Present phase (R151). -/
  phase : Phase := .idle
  /-- Cycle counter, 40 bits (R119). -/
  counter : BitVec 40 := 0
  /-- Time base at the start of the present cycle, ns (W#0xF0008). [DC1] -/
  startTime : Nat := 0
  /-- Instant of the start of the present cycle, ns. [DC1] -/
  startAt : Nat := 0
  /-- Duration of the last cycle, µs, as CYCLE_LAST (Table 4-10). [DC1] -/
  last : Nat := 0
  /-- Start of the cycle before, from which CYCLE_DELTA is measured; none gives 0 (R119, R120). -/
  previousStart : Option Int := none
  /-- The XCH phase rebuilds the region by the switch engine (R186). -/
  rebuild : Bool := false
  /-- Every output frame of the present cycle is queued (R15). -/
  outputQueued : Bool := false
  /-- The supervisor island has released the present cycle (R239). -/
  released : Bool := false
  /-- Last released cycle (R239). -/
  releasedCycle : Option (BitVec 40) := none
  /-- Bound of the present cycle, solver cycles: the admitted cycle it began with, raised when a plan or a program with a larger
  one is to come into force at its boundary (R169, R175). [DC1] -/
  bound : Nat := 0
  /-- Held host writes in order of arrival, at most 4,096 (R172). -/
  hostWrites : List HostWrite := []
  /-- Longest measured cycle since the last start, ns (0x2032:01). -/
  longest : Nat := 0
  /-- Weft frames abandoned (R175, 0x2032:02). -/
  abandoned : Nat := 0
  /-- Cycle of the weft frame abandoned last (R175, Table 8-10). [DC1] -/
  abandonedCycle : BitVec 40 := 0
  /-- Host writes deferred (R172, 0x2032:03). -/
  deferred : Nat := 0
  /-- Guests without slot (R173, 0x2032:05). -/
  guestsWithoutSlot : Nat := 0
  /-- Weft frames are suspended (R174, 0x2032:06). -/
  weftSuspended : Bool := false
  /-- Suspension takes effect at the next boundary (R174). -/
  suspendDue : Bool := false
  /-- Figures of the latest admission that was accepted, whichever program it was of (R176, 0x2031). [DC1] -/
  latest : Admitted := {}
  /-- Figures of the latest accepted admission of the program in bank 0. -/
  admitted0 : Admitted := {}
  /-- Figures of the latest accepted admission of the program in bank 1. -/
  admitted1 : Admitted := {}
  /-- The admission report (R168, 0x2033:01). [DC1] -/
  report : Report := {}
  deriving DecidableEq, Repr

/-- Change states (Table 7-1, R177). -/
inductive ChangeState where
  | empty | loading | refused | loaded | ready | switchPending | switched | confirmPending | undoPending
  deriving DecidableEq, Repr

/-- Online change (07_online_change.md). -/
structure Change where
  /-- Change state (R177, 0x2040:02). -/
  state : ChangeState := .empty
  /-- Flash program slot 0 (R178). Kept across restarts. -/
  slot0 : Option Image := none
  /-- Flash program slot 1 (R178). Kept across restarts. -/
  slot1 : Option Image := none
  /-- The slot that holds the stored program (R178, R191). Kept across restarts. [DC1] -/
  storedSlot : Fin 2 := 0
  /-- Identity of the program the last start ran (Table 3-9 row 3). Kept across restarts. -/
  lastImage : Option (BitVec 32) := none
  /-- The image being loaded and the result the loader reached for it (R178). -/
  loadingImage : Option Image := none
  /-- Change command result (R182, 0x2040:07). -/
  result : Nat := 0
  /-- An output phase has started since the accepted switch, confirm or undo command (R182, R190). -/
  ripe : Bool := false
  /-- The accepted confirm command's boundary has passed; confirmation waits for the mirror base (R191). -/
  confirmDue : Bool := false
  /-- Instant of the switch boundary, or of the takeover onto a switched program, ns: the confirmation deadline is counted from it
  (R193, R196). [DC1] -/
  switchedAt : Nat := 0
  /-- Standby change state (R181, 0x2041:02). -/
  standby : Nat := 0
  /-- S, solver cycles (R186, 0x2041:03). [DC1] -/
  switchTime : Nat := 0
  /-- Undo switch time, solver cycles (R186, 0x2041:04). [DC1] -/
  undoTime : Nat := 0
  /-- Carried words C (R186, 0x2041:05). [DC1] -/
  carried : Nat := 0
  /-- Switch cycle (0x2041:06). [DC1] -/
  switchCycle : BitVec 40 := 0
  /-- Host writes discarded (R189, R492, 0x2041:07). -/
  hostWritesDiscarded : Nat := 0
  /-- Timers restarted in the last change (0x2041:08). -/
  timersRestarted : Nat := 0
  /-- Changes confirmed; kept across restarts (0x2041:09). -/
  confirmed : Nat := 0
  /-- First-cycle mask: edge bits of new EDGE entries (R188). -/
  maskEdges : List Nat := []
  /-- First-cycle mask: VALUE addresses of new COUNTER entries (R188). -/
  maskCounters : List Nat := []
  /-- Lanes that failed since the load (R182). -/
  failedAtLoad : BitVec 32 := 0
  /-- The frozen mirror base and journal of the old program (R194). Kept across restarts. -/
  fallback : Option Mirror := none
  deriving DecidableEq, Repr

end Sys2Proof.Machine
end

