-- ==== Sys2Proof/Machine/State.lean ====
section
/-!
DEFINITION. The whole state of the SX96 as plain data: the parts of Machine/State/*.lean, the alarms, the counter of
free values and the queue of waiting commands. `State.reset` is the module before power-good: mode OFF (R54),
nothing powered (00_scope.md to 20_electrical_and_environment.md give each field's rule in its own file).
-/
namespace Sys2Proof.Machine

/-- The whole machine. -/
structure State where
  /-- Front panel, slot and hot swap. -/
  front : Front := {}
  /-- Supply inputs and hold-up bank. -/
  supply : Supply := {}
  /-- Mode sequencer and start. -/
  modes : Modes := {}
  /-- Solver island. -/
  solver : Solver := {}
  /-- Cycle engine and admission. -/
  cycle : Cycle := {}
  /-- Online change. -/
  change : Change := {}
  /-- Seam link. -/
  seam : Seam := {}
  /-- Redundant pair. -/
  pair : Pair := {}
  /-- Diagnostics and safe state. -/
  diag : Diag := {}
  /-- Clock islands and crossings. -/
  islands : Islands := {}
  /-- Hub. -/
  hub : Hub := {}
  /-- Protection and lifecycle. -/
  protection : Protection := {}
  /-- Plant network and time island. -/
  network : Network := {}
  /-- Door buses. -/
  doors : Doors := {}
  /-- Stations, guests, door units, event loom. -/
  stations : Stations := {}
  /-- Local field I/O. -/
  localIo : LocalIo := {}
  /-- NSP, configuration and settings. -/
  nsp : Nsp := {}
  /-- Firmware and pair update. -/
  firmware : Firmware := {}
  /-- The quilt. -/
  quilt : Quilt := {}
  /-- Raised alarms with their source (0 where the alarm has none), in order of raising (R74, 0x0200 of Table 19-3). -/
  alarms : List (Alarm × Nat) := []
  /-- The model's own field: counts the free values drawn; no statement rests on it (assumption log 2). -/
  free : Nat := 0
  /-- Commands that wait, first in, first out: the model's queue (assumption log 3). -/
  pending : List Instr := []
  deriving DecidableEq, Repr

/-- Reasons for a fault of the model: none. No command of the manual stops the model; a FAULT of the module (R72) is a
mode of `State`, not a stop. -/
inductive Fault : Type where
  deriving DecidableEq, Repr

/-- Reasons for a refusal of the model. -/
inductive Refusal : Type where
  /-- Raised by an arm of `exec` whose command has no meaning in the model yet. Safe: the run ends there. -/
  | notModelled (mnemonic : String)
  deriving DecidableEq, Repr

/-- The module before power-good, as delivered: mode OFF (R54, 03_start_and_modes.md), queue empty. -/
def State.reset : State := {}

end Sys2Proof.Machine
end

