-- ==== Sys2Proof/Machine/Settings.lean ====
section
/-!
DEFINITION. Settings by name: each reads one dictionary entry from a store of entries (the configuration in force, the
shadow, or the module's own RW settings), an unlisted entry as its Default (R423, R425). `cfg…` are RWS entries of the
configuration, `set…` RW entries of the module itself.
-/
namespace Sys2Proof.Machine

/-- Key of an entry under up to two selections (R424). -/
def ekey (index sub a b : Nat) : Nat := ((index * 256 + sub) * 1024 + a) * 1024 + b

/-- Numeric value of an entry; `d` is its Default (R423). -/
def entryInt (e : Entries) (index sub : Nat) (d : Int) (a b : Nat) : Int := mapVal d (ekey index sub a b) e.nums

/-- Value of an unsigned entry. -/
def entryNat (e : Entries) (index sub d a b : Nat) : Nat := (entryInt e index sub d a b).toNat

/-- Default deviation limit of an island in ppm (Table 12-1); island 9 has none. -/
def deviationDefault (island : Nat) : Nat := if island = 7 then 400 else if island = 9 then 0 else 300

/-- Value of a DOMAIN entry; empty stands for the Default of zeros (R423). -/
def entryBytes (e : Entries) (index sub a b : Nat) : List Byte := mapVal [] (ekey index sub a b) e.blobs

/-- 0xA020:07 Single-input alarm. -/
def setSingleInputAlarm (e : Entries) : Bool := entryNat e 0xA020 0x07 1 0 0 != 0

/-- 0xA021:05 Capacitance alarm level. -/
def setCapacitanceAlarm (e : Entries) : Nat := entryNat e 0xA021 0x05 1100 0 0

/-- 0xA022:03 Extraction without partner. -/
def setExtractionWithoutPartner (e : Entries) : Nat := entryNat e 0xA022 0x03 0 0 0

/-- 0x2003:01 Start behaviour. -/
def setStartBehaviour (e : Entries) : Nat := entryNat e 0x2003 0x01 0 0 0

/-- 0x2003:02 Power-on start type. -/
def setPowerOnStartType (e : Entries) : Nat := entryNat e 0x2003 0x02 0 0 0

/-- 0x2003:03 Automatic restart limit. -/
def setAutoRestartLimit (e : Entries) : Nat := entryNat e 0x2003 0x03 0 0 0

/-- 0x2030:01–04 Class bound: classes 0 S to 3 C. -/
def cfgClassBound (e : Entries) (cls : Nat) : Nat :=
  entryNat e 0x2030 (1 + cls) ([1000, 1000, 10000, 100000].getD cls 0) 0 0

/-- 0x2030:05 Minimum cycle. -/
def cfgMinimumCycle (e : Entries) : Nat := entryNat e 0x2030 0x05 0 0 0

/-- 0x2030:06 Host write allowance. -/
def cfgHostAllowance (e : Entries) : Nat := entryNat e 0x2030 0x06 256 0 0

/-- 0x2030:07 Guest allowance. -/
def cfgGuestAllowance (e : Entries) : Nat := entryNat e 0x2030 0x07 16 0 0

/-- 0x2040:08 Confirmation deadline. -/
def setConfirmationDeadline (e : Entries) : Nat := entryNat e 0x2040 0x08 600 0 0

/-- 0x3001:01 Pair identity. -/
def cfgPairIdentity (e : Entries) : Nat := entryNat e 0x3001 0x01 0 0 0

/-- 0x3001:03 Heartbeat EtherType. -/
def cfgHeartbeatEtherType (e : Entries) : Nat := entryNat e 0x3001 0x03 0x88B5 0 0

/-- 0x3001:04 Heartbeat group address. -/
def cfgHeartbeatGroup (e : Entries) : Nat := entryNat e 0x3001 0x04 0x030000009601 0 0

/-- 0x3001:05 Heartbeat priority. -/
def cfgHeartbeatPriority (e : Entries) : Nat := entryNat e 0x3001 0x05 7 0 0

/-- 0x4030:08 Session wait limit. -/
def setLockWaitLimit (e : Entries) : Nat := entryNat e 0x4030 0x08 1000 0 0

/-- 0xC000:07 Deviation alarm limit. -/
def setDeviationLimit (e : Entries) (island : Nat) : Nat := entryNat e 0xC000 0x07 (deviationDefault island) island 0

/-- 0x6011:02 Gate list enabled. -/
def cfgGateEnabled (e : Entries) (port : Nat) : Bool := entryNat e 0x6011 0x02 0 port 0 != 0

/-- 0x6011:03 Gate cycle time. -/
def cfgGateCycle (e : Entries) (port : Nat) : Nat := entryNat e 0x6011 0x03 1000000 port 0

/-- 0x6011:04 Gate base seconds. -/
def cfgGateBaseS (e : Entries) (port : Nat) : Nat := entryNat e 0x6011 0x04 0 port 0

/-- 0x6011:05 Gate base nanoseconds. -/
def cfgGateBaseNs (e : Entries) (port : Nat) : Nat := entryNat e 0x6011 0x05 0 port 0

/-- 0x6011:06 Gate entries. -/
def cfgGateEntries (e : Entries) (port : Nat) : Nat := entryNat e 0x6011 0x06 1 port 0

/-- 0x6011:08 Gate entry. -/
def cfgGateEntry (e : Entries) (port : Nat) (entry : Nat) : Nat := entryNat e 0x6011 0x08 0xFF000000 port entry

/-- 0x6012:01–04 Class priority: classes 0 S to 3 C. -/
def cfgPriority (e : Entries) (cls : Nat) : Nat :=
  entryNat e 0x6012 (1 + cls) ([7, 6, 4, 1].getD cls 0) 0 0

/-- 0x6012:05 NSP priority. -/
def cfgNspPriority (e : Entries) : Nat := entryNat e 0x6012 0x05 3 0 0

/-- 0x6020:03 Preferred domain. -/
def setPreferredDomain (e : Entries) : Nat := entryNat e 0x6020 0x03 1 0 0

/-- 0x6020:04 Revertive. -/
def setRevertive (e : Entries) : Bool := entryNat e 0x6020 0x04 0 0 0 != 0

/-- 0x6020:06 Slew limit. -/
def setSlewLimit (e : Entries) : Nat := entryNat e 0x6020 0x06 100 0 0

/-- 0x6021:03 Domain ports. -/
def cfgDomainPorts (e : Entries) (domain : Nat) : Nat := entryNat e 0x6021 0x03 0x0F domain 0

/-- 0x6021:08 Priority1. -/
def cfgPriority1 (e : Entries) (domain : Nat) : Nat := entryNat e 0x6021 0x08 255 domain 0

/-- 0x6030:01–04 Class network bound: classes 0 S to 3 C. -/
def cfgNetworkBound (e : Entries) (cls : Nat) : Nat :=
  entryNat e 0x6030 (1 + cls) ([500, 1000, 5000, 20000].getD cls 0) 0 0

/-- 0x6040:02 Group class. -/
def cfgGroupClass (e : Entries) (group : Nat) : Nat := entryNat e 0x6040 0x02 0 group 0

/-- 0x6040:03 Launch offset. -/
def cfgLaunchOffset (e : Entries) (group : Nat) : Nat := entryNat e 0x6040 0x03 0 group 0

/-- 0x6040:04 Late action. -/
def cfgLateAction (e : Entries) (group : Nat) : Nat := entryNat e 0x6040 0x04 0 group 0

/-- 0x7000:02 Channel mode. -/
def cfgChannelMode (e : Entries) (channel : Nat) : Nat := entryNat e 0x7000 0x02 0 channel 0

/-- 0x7000:03 Nominal timing. -/
def cfgNominalTiming (e : Entries) (channel : Nat) : Nat := entryNat e 0x7000 0x03 0x04F878F0 channel 0

/-- 0x7000:04 Data timing. -/
def cfgDataTiming (e : Entries) (channel : Nat) : Nat := entryNat e 0x7000 0x04 0xA0079DC0 channel 0

/-- 0x7000:05 Confinement profile. -/
def cfgProfile (e : Entries) (channel : Nat) : Nat := entryNat e 0x7000 0x05 0 channel 0

/-- 0x7000:06 Door bound. -/
def cfgDoorBound (e : Entries) (channel : Nat) : Nat := entryNat e 0x7000 0x06 5000 channel 0

/-- 0x7020:01 Time master role. -/
def cfgMasterRole (e : Entries) (channel : Nat) : Nat := entryNat e 0x7020 0x01 0 channel 0

/-- 0x7020:02 Level. -/
def cfgLevel (e : Entries) (channel : Nat) : Nat := entryNat e 0x7020 0x02 2 channel 0

/-- 0x7020:03 Master priority. -/
def cfgMasterPriority (e : Entries) (channel : Nat) : Nat := entryNat e 0x7020 0x03 0 channel 0

/-- 0x7020:04 Reference base ID. -/
def cfgReferenceBase (e : Entries) (channel : Nat) : Nat := entryNat e 0x7020 0x04 0x008 channel 0

/-- 0x7020:05 Basic cycle length. -/
def cfgBasicCycle (e : Entries) (channel : Nat) : Nat := entryNat e 0x7020 0x05 1000 channel 0

/-- 0x7020:06 Cycle count maximum. -/
def cfgCycleCountMax (e : Entries) (channel : Nat) : Nat := entryNat e 0x7020 0x06 0 channel 0

/-- 0x7040:01 Service base ID. -/
def cfgServiceBase (e : Entries) : Nat := entryNat e 0x7040 0x01 0x7F0 0 0

/-- 0x8000:01 Station EtherType. -/
def cfgStationEtherType (e : Entries) : Nat := entryNat e 0x8000 0x01 0x88B6 0 0

/-- 0x8000:02 Station group address. -/
def cfgStationGroup (e : Entries) : Nat := entryNat e 0x8000 0x02 0x030000009602 0 0

/-- 0x8010:02 Configured. -/
def cfgStationConfigured (e : Entries) (station : Nat) : Bool := entryNat e 0x8010 0x02 0 station 0 != 0

/-- 0x8010:03 Ring. -/
def cfgStationRing (e : Entries) (station : Nat) : Nat := entryNat e 0x8010 0x03 0 station 0

/-- 0x8010:04 Class. -/
def cfgStationClass (e : Entries) (station : Nat) : Nat := entryNat e 0x8010 0x04 0 station 0

/-- 0x8010:05 Launch group. -/
def cfgStationGroupNo (e : Entries) (station : Nat) : Nat := entryNat e 0x8010 0x05 0 station 0

/-- 0x8010:06 First digital input. -/
def cfgFirstDigitalIn (e : Entries) (station : Nat) : Nat := entryNat e 0x8010 0x06 0 station 0

/-- 0x8010:07 Digital inputs. -/
def cfgDigitalIns (e : Entries) (station : Nat) : Nat := entryNat e 0x8010 0x07 0 station 0

/-- 0x8010:08 First analogue input. -/
def cfgFirstAnalogueIn (e : Entries) (station : Nat) : Nat := entryNat e 0x8010 0x08 0 station 0

/-- 0x8010:09 Analogue inputs. -/
def cfgAnalogueIns (e : Entries) (station : Nat) : Nat := entryNat e 0x8010 0x09 0 station 0

/-- 0x8010:0A First digital output. -/
def cfgFirstDigitalOut (e : Entries) (station : Nat) : Nat := entryNat e 0x8010 0x0A 0 station 0

/-- 0x8010:0B Digital outputs. -/
def cfgDigitalOuts (e : Entries) (station : Nat) : Nat := entryNat e 0x8010 0x0B 0 station 0

/-- 0x8010:0C First analogue output. -/
def cfgFirstAnalogueOut (e : Entries) (station : Nat) : Nat := entryNat e 0x8010 0x0C 0 station 0

/-- 0x8010:0D Analogue outputs. -/
def cfgAnalogueOuts (e : Entries) (station : Nat) : Nat := entryNat e 0x8010 0x0D 0 station 0

/-- 0x8010:0E Layout digest. -/
def cfgLayout (e : Entries) (station : Nat) : Nat := entryNat e 0x8010 0x0E 0 station 0

/-- 0x8010:10 Input timeout. -/
def cfgInputTimeout (e : Entries) (station : Nat) : Nat := entryNat e 0x8010 0x10 10 station 0

/-- 0x8010:11 Hold count. -/
def cfgHoldCount (e : Entries) (station : Nat) : Nat := entryNat e 0x8010 0x11 8 station 0

/-- 0x8010:12 Substitute mode. -/
def cfgSubstituteMode (e : Entries) (station : Nat) : Nat := entryNat e 0x8010 0x12 0 station 0

/-- 0x8010:14 Hold time. -/
def cfgHoldTime (e : Entries) (station : Nat) : Nat := entryNat e 0x8010 0x14 50 station 0

/-- 0x8020:02 Door hold count. -/
def cfgDoorHoldCount (e : Entries) (unit : Nat) : Nat := entryNat e 0x8020 0x02 8 unit 0

/-- 0x8020:03 Door substitute mode. -/
def cfgDoorSubstituteMode (e : Entries) (unit : Nat) : Nat := entryNat e 0x8020 0x03 0 unit 0

/-- 0x8030:08 Guest authentication. -/
def cfgGuestAuthentication (e : Entries) : Nat := entryNat e 0x8030 0x08 0 0 0

/-- 0x9010:02 Input format. -/
def cfgAiFormat (e : Entries) (input : Nat) : Nat := entryNat e 0x9010 0x02 1 input 0

/-- 0x9010:03 Input value at 4 mA. -/
def cfgAiLow (e : Entries) (input : Nat) : Nat := entryNat e 0x9010 0x03 0 input 0

/-- 0x9010:04 Input value at 20 mA. -/
def cfgAiHigh (e : Entries) (input : Nat) : Nat := entryNat e 0x9010 0x04 10000 input 0

/-- 0x9010:05 Failure delay. -/
def cfgAiDelay (e : Entries) (input : Nat) : Nat := entryNat e 0x9010 0x05 100 input 0

/-- 0x9010:06 Input fault value mode. -/
def cfgAiFaultMode (e : Entries) (input : Nat) : Nat := entryNat e 0x9010 0x06 0 input 0

/-- 0x9010:07 Input substitute value. -/
def cfgAiSubstitute (e : Entries) (input : Nat) : Nat := entryNat e 0x9010 0x07 0 input 0

/-- 0x9020:02 Output format. -/
def cfgAoFormat (e : Entries) (output : Nat) : Nat := entryNat e 0x9020 0x02 1 output 0

/-- 0x9020:03 Output value at 4 mA. -/
def cfgAoLow (e : Entries) (output : Nat) : Nat := entryNat e 0x9020 0x03 0 output 0

/-- 0x9020:04 Output value at 20 mA. -/
def cfgAoHigh (e : Entries) (output : Nat) : Nat := entryNat e 0x9020 0x04 10000 output 0

/-- 0x9020:05 Shortfall reaction. -/
def cfgAoReaction (e : Entries) (output : Nat) : Nat := entryNat e 0x9020 0x05 1 output 0

/-- 0x9040:04 Pair mode. -/
def cfgPairMode (e : Entries) (pair : Nat) : Nat := entryNat e 0x9040 0x04 1 pair 0

/-- 0x9050:02 Dark test. -/
def cfgDarkTest (e : Entries) (output : Nat) : Bool := entryNat e 0x9050 0x02 1 output 0 != 0

/-- 0x1021:01 Ring A IPv4 address. -/
def cfgIpA (e : Entries) : Nat := entryNat e 0x1021 0x01 0 0 0

/-- 0x1021:02 Ring A prefix length. -/
def cfgPrefixA (e : Entries) : Nat := entryNat e 0x1021 0x02 24 0 0

/-- 0x1021:03 Ring B IPv4 address. -/
def cfgIpB (e : Entries) : Nat := entryNat e 0x1021 0x03 0 0 0

/-- 0x1021:04 Ring B prefix length. -/
def cfgPrefixB (e : Entries) : Nat := entryNat e 0x1021 0x04 24 0 0

/-- 0x1021:05 Gateway. -/
def cfgGateway (e : Entries) : Nat := entryNat e 0x1021 0x05 0 0 0

/-- 0xA011:01 Statistics interval. -/
def setStatisticsInterval (e : Entries) : Nat := entryNat e 0xA011 0x01 3600 0 0

/-- 0xA011:02 Door unit interval. -/
def setDoorUnitInterval (e : Entries) : Nat := entryNat e 0xA011 0x02 86400 0 0

/-- 0xA014:02 Tap object. -/
def cfgTapObject (e : Entries) (channel : Nat) : Nat := entryNat e 0xA014 0x02 0xFFFF channel 0

/-- 0xA014:03 Count offset. -/
def cfgTapCount (e : Entries) (channel : Nat) : Nat := entryNat e 0xA014 0x03 0 channel 0

/-- 0xA014:04 Duration offset. -/
def cfgTapDuration (e : Entries) (channel : Nat) : Nat := entryNat e 0xA014 0x04 1 channel 0

/-- 0xA014:05 Current offset. -/
def cfgTapCurrent (e : Entries) (channel : Nat) : Nat := entryNat e 0xA014 0x05 3 channel 0

/-- 0x9040:02 Input source; Default 0 for odd inputs, 1 for even ones. -/
def cfgSdiSource (e : Entries) (input : Nat) : Nat := entryNat e 0x9040 0x02 (if input % 2 = 1 then 0 else 1) input 0

/-- 0x8040:04 Event budget; classes 0 S to 3 C. -/
def setEventBudget (e : Entries) (cls : Nat) : Nat := entryNat e 0x8040 0x04 ([64, 64, 32, 16].getD cls 0) cls 0

/-- 0x8040:05 Open event slots; classes 0 S to 3 C. -/
def setOpenSlots (e : Entries) (cls : Nat) : Nat := entryNat e 0x8040 0x05 ([64, 64, 32, 32].getD cls 0) cls 0

/-- 0x7010:02 Object descriptor, 20 bytes; Default zeros. -/
def cfgObject (e : Entries) (channel object : Nat) : List Byte :=
  let b := entryBytes e 0x7010 0x02 channel object
  if b.isEmpty then List.replicate 20 0 else b

/-- 0x7021:01 Matrix cells. -/
def cfgMatrix (e : Entries) (channel : Nat) : List Byte := entryBytes e 0x7021 0x01 channel 0

/-- 0x7021:02 Column marks. -/
def cfgMarks (e : Entries) (channel : Nat) : List Byte := entryBytes e 0x7021 0x02 channel 0

/-- 0x8010:13 Substitute values. -/
def cfgSubstitutes (e : Entries) (station : Nat) : List Byte := entryBytes e 0x8010 0x13 station 0

/-- First selections under which entry `index:sub` holds a value other than its Default, rising. -/
def selectionsOf (e : Entries) (index sub : Nat) : List Nat :=
  (e.nums.filter fun p => p.1 / 1048576 == index * 256 + sub).map fun p => p.1 / 1024 % 1024

/-- Configured stations, ascending (0x8010:02). -/
def configuredStations (e : Entries) : List Nat := selectionsOf e 0x8010 0x02

/-- Objects of a channel whose descriptor is not all zeros, ascending (0x7010:02). -/
def configuredObjects (e : Entries) (channel : Nat) : List Nat :=
  (e.blobs.filter fun p => p.1 / 1048576 == 0x7010 * 256 + 0x02 && p.1 / 1024 % 1024 == channel).map fun p => p.1 % 1024

end Sys2Proof.Machine
end

