-- ==== Sys2Proof/Machine/DoorObj.lean ====
section
/-!
DEFINITION. Message objects and mailboxes of the door buses: descriptors read from the configuration, the classes of
mailbox words, packing (14_door_buses.md R354, R360, R363).
-/
namespace Sys2Proof.Machine

/-- A message object descriptor (Table 14-6). -/
structure DoorDesc where
  /-- IDE. -/
  ide : Bool
  /-- FDF. -/
  fdf : Bool
  /-- BRS. -/
  brs : Bool
  /-- ID. -/
  id : BitVec 29
  /-- MASK. -/
  mask : BitVec 29
  /-- DIR. -/
  dir : Nat
  /-- CLASS. -/
  cls : Nat
  /-- ENVELOPE. -/
  envelope : Bool
  /-- TWIN. -/
  twin : Bool
  /-- PACK. -/
  pack : Nat
  /-- MODE. -/
  mode : Nat
  /-- LENGTH. -/
  length : Nat
  /-- UNIT. -/
  unit : Nat
  /-- GROUP. -/
  group : Nat
  /-- DATA_OFFSET. -/
  dataOffset : Nat
  /-- STATUS_OFFSET. -/
  statusOffset : Nat
  /-- PERIOD. -/
  period : Nat
  /-- LIFETIME. -/
  lifetime : Nat
  deriving DecidableEq, Repr

/-- A descriptor from its 20 bytes (Table 14-6). -/
def parseDesc (l : List Byte) : DoorDesc :=
  let a := fieldLe 0 4 l
  let c := fieldLe 8 4 l
  let d := fieldLe 12 4 l
  let f := fieldLe 16 4 l
  { ide := a.testBit 31, fdf := a.testBit 30, brs := a.testBit 29, id := BitVec.ofNat 29 a
    mask := BitVec.ofNat 29 (fieldLe 4 4 l)
    dir := bitsOf c 30 2, cls := bitsOf c 28 2, envelope := c.testBit 27, twin := c.testBit 26, pack := bitsOf c 24 2
    mode := bitsOf c 22 2, length := bitsOf c 15 7, unit := bitsOf c 9 6, group := bitsOf c 0 6
    dataOffset := bitsOf d 16 9, statusOffset := bitsOf d 0 9, period := bitsOf f 16 16, lifetime := bitsOf f 0 16 }

/-- Descriptor of object `o` of channel `k` (R360). -/
def doorDesc (e : Entries) (k o : Nat) : DoorDesc := parseDesc (cfgObject e k o)

/-- A channel is in use when its mode is not 0 (R355). -/
def channelUsed (e : Entries) (k : Nat) : Bool := cfgChannelMode e k != 0

/-- Channels in use (R355). -/
def channelsUsed (e : Entries) : List Nat := (List.range 8).filter (channelUsed e)

/-- The twin of a channel: k xor 1 (R354). -/
def twinOf (k : Nat) : Nat := if k % 2 = 0 then k + 1 else k - 1

/-- Objects of a channel that are in use, ascending, with their descriptors; DIR 0 is unused (R360). -/
def objectsOf (e : Entries) (k : Nat) : List (Nat × DoorDesc) :=
  if channelUsed e k then
    ((configuredObjects e k).map fun o => (o, doorDesc e k o)).filter fun p => p.2.dir == 1 || p.2.dir == 2
  else []

/-- Number of data words (R363). -/
def dataWords (d : DoorDesc) : Nat := if d.pack = 1 then (8 * d.length + 19) / 20 else (d.length + 1) / 2

/-- Word `w` of the mailbox of channel `k` (R363). -/
def mailboxWord (k w : Nat) : Nat := 0x0F100 + 480 * k + w

/-- Addresses of the data words of an object. -/
def dataAddresses (k : Nat) (d : DoorDesc) : List Nat := (List.range (dataWords d)).map fun i => mailboxWord k (d.dataOffset + i)

/-- Transmit words of a channel: the data words of its transmit objects (R363). -/
def transmitWords (e : Entries) (k : Nat) : List Nat :=
  ((objectsOf e k).filter fun p => p.2.dir == 2).flatMap fun p => dataAddresses k p.2

/-- Receive words of a channel: its status words, every object's status word, the data words of receive objects
(R363). -/
def receiveWords (e : Entries) (k : Nat) : List Nat :=
  (List.range 4).map (mailboxWord k) ++ (objectsOf e k).map (fun p => mailboxWord k p.2.statusOffset) ++
    ((objectsOf e k).filter fun p => p.2.dir == 1).flatMap fun p => dataAddresses k p.2

/-- Number of different data store lines that some words lie in. -/
def linesOf (l : List Nat) : Nat := (l.foldl (fun a w => insertNat (w / 8) a) []).length

/-- The word is a transmit word of the configuration (R363, R492). -/
def isTransmitWord (e : Entries) (a : Nat) : Bool :=
  decide (0x0F100 ≤ a ∧ a ≤ 0x0FFFF) && decide (a ∈ transmitWords e ((a - 0x0F100) / 480))

/-- The program and hosts may write the word (Table 4-4, R108, R403, R492). -/
def isWritable (e : Entries) (a : Nat) : Bool :=
  if a < 0x01000 then false
  else if a < 0x02000 then true
  else if a < 0x06000 then false
  else if a < 0x0A000 then true
  else if a < 0x0F000 then false
  else if a < 0x0F100 then decide (0x0F040 ≤ a ∧ a ≤ 0x0F051)
  else if a < 0x10000 then isTransmitWord e a
  else decide (a < 0xF0000)

/-- User data packed into data words (R363). -/
def packData (d : DoorDesc) (data : List Byte) : List Word :=
  (List.range (dataWords d)).map fun i =>
    if d.pack = 1 then
      (List.range 20).foldl (fun (w : Word) b =>
        if 20 * i + b < 8 * d.length ∧ bitAt (20 * i + b) data then w ||| (1#20 <<< b) else w) 0
    else
      BitVec.ofNat 20 ((byteAt (2 * i) data).toNat +
        (if 2 * i + 1 < d.length then (byteAt (2 * i + 1) data).toNat * 256 else 0))

/-- User data from data words (R363). -/
def unpackData (d : DoorDesc) (ws : List Word) : List Byte :=
  if d.pack = 1 then
    (packBits (ws.flatMap fun (w : Word) => (List.range 20).map w.getLsbD)).take d.length
  else
    (ws.flatMap fun (w : Word) => [w.setWidth 8, (w >>> 8).setWidth 8]).take d.length

/-- Transmit objects of a channel (R360). -/
def transmitObjects (e : Entries) (k : Nat) : List (Nat × DoorDesc) := (objectsOf e k).filter fun p => p.2.dir == 2

/-- Receive objects of a channel (R360). -/
def receiveObjects (e : Entries) (k : Nat) : List (Nat × DoorDesc) := (objectsOf e k).filter fun p => p.2.dir == 1

/-- The one class that a channel carries (R155): the highest of its objects, 0 S to 3 C, and C with none. DESIGN CHOICE (assumption log
18): no entry gives a channel a class of its own. -/
def channelClass (e : Entries) (k : Nat) : Nat := (objectsOf e k).foldl (fun a p => min p.2.cls a) 3

/-- CAN FD data lengths. -/
def fdLengths : List Nat := [0, 1, 2, 3, 4, 5, 6, 7, 8, 12, 16, 20, 24, 32, 48, 64]

/-- Data length of a frame of an object: with ENVELOPE the smallest at or above 20 + LENGTH (R365). -/
def frameLength (d : DoorDesc) : Nat :=
  if d.envelope then (fdLengths.find? fun n => 20 + d.length ≤ n).getD 64
  else if d.fdf then (fdLengths.find? fun n => d.length ≤ n).getD 64
  else d.length

/-- Longest bit counts of a frame of `n` data bytes, nominal phase and data phase, stuff bits and intermission included.
PRESUMED from ISO 11898-1; 34 and 678 bits for 64 bytes as the worked case of R377 (assumption log 20). -/
def frameBits (d : DoorDesc) (n : Nat) : Nat × Nat :=
  if d.fdf then
    let a := if d.ide then 36 + 8 + 13 else 17 + 4 + 13
    let b := (5 + 8 * n) + (5 + 8 * n) / 4 + (if n ≤ 16 then 27 else 32)
    if d.brs then (a, b) else (a + b, 0)
  else
    let a := (if d.ide then 54 else 34) + 8 * n
    (a + (a - 1) / 4 + 13, 0)

/-- Duration of a frame of `n` data bytes on channel `k`, ns; the quantum is 12.5 ns (R358, R368). -/
def frameNs (e : Entries) (k : Nat) (d : DoorDesc) (n : Nat) : Nat :=
  let nb := cfgNominalTiming e k
  let db := cfgDataTiming e k
  let nominal := (bitsOf nb 26 5 + 1) * (3 + bitsOf nb 18 8 + bitsOf nb 11 7) * 25
  let data := (bitsOf db 19 5 + 1) * (3 + bitsOf db 14 5 + bitsOf db 10 4) * 25
  ((frameBits d n).1 * nominal + (frameBits d n).2 * data + 1) / 2

/-- In schedule matrix mode: cell of a basic cycle and column: TYPE and OBJECT (Table 14-12). -/
def matrixCell (e : Entries) (k b j : Nat) : Nat × Nat :=
  let w := fieldLe (4 * (32 * b + j)) 4 (cfgMatrix e k)
  (bitsOf w 30 2, bitsOf w 0 8)

/-- Column mark in NTU (Table 14-13). -/
def columnMark (e : Entries) (k j : Nat) : Nat := fieldLe (4 * j) 2 (cfgMarks e k)

/-- Objects that an exclusive cell of the matrix names (R374). -/
def exclusiveObjects (e : Entries) (k : Nat) : List Nat :=
  (List.range (32 * (cfgCycleCountMax e k + 1))).filterMap fun i =>
    let c := matrixCell e k (i / 32) (i % 32)
    if c.1 = 1 then some c.2 else none

end Sys2Proof.Machine
end

