-- ==== Sys2Proof/Machine/ConfigCheck.lean ====
section
/-!
DEFINITION. The content of a configuration commit (17_object_dictionary.md R426, R427): what the chapters refuse with the
range error (13_plant_network_and_time.md R334; 14_door_buses.md R358, R362, R373; 16_local_io.md R406, R408; 19_event_recorder.md R466), and the settings that
a commit may change in LOAD and STOP only (R379). An offending entry is given as index × 256 + subindex.
-/
namespace Sys2Proof.Machine

/-- Order in which identifiers win the arbitration: an 11-bit identifier before a 29-bit one with the same leading bits.
PRESUMED from ISO 11898-1 (assumption log 23). -/
def idOrder (ide : Bool) (id : Nat) : Nat := if ide then (id / 2 ^ 18) * 2 ^ 19 + 2 ^ 18 + id % 2 ^ 18 else id * 2 ^ 19

/-- Identifier of an object in that order. -/
def objectOrder (d : DoorDesc) : Nat := idOrder d.ide d.id.toNat

/-- A channel's bit timing is refused (R358): nominal word, then data word. -/
def badTiming (e : Entries) (k : Nat) : Bool × Bool :=
  let nb := cfgNominalTiming e k
  let db := cfgDataTiming e k
  let n := (bitsOf nb 26 5 + 1) * (3 + bitsOf nb 18 8 + bitsOf nb 11 7)
  let d := (bitsOf db 19 5 + 1) * (3 + bitsOf db 14 5 + bitsOf db 10 4)
  let triple := nb.testBit 31 && (decide (n < 640) || decide (bitsOf nb 18 8 < 2))
  (decide (n < 80 ∨ 4000 < n) || decide (bitsOf nb 11 7 < bitsOf nb 4 7) || triple,
   decide (n < d ∨ d < 10 ∨ 8 * d < n) || decide (bitsOf db 10 4 < bitsOf db 6 4) || (!db.testBit 31 && decide (d < 80)))

/-- Words of the mailbox that an object takes. -/
def objectWords (d : DoorDesc) : List Nat := d.statusOffset :: rangeFrom d.dataOffset (dataWords d)

/-- An object is refused by its own fields (R362). -/
def badObject (e : Entries) (k : Nat) (d : DoorDesc) : Bool :=
  let first := decide (d.cls ≤ 1) && (!d.envelope || (d.dir == 2 && d.lifetime == 0) || (d.dir == 1 && d.period == 0))
  let long := if d.envelope then decide (44 < d.length) else if d.fdf then decide (64 < d.length) else decide (8 < d.length)
  let order := decide (objectOrder d ≤ idOrder false (cfgReferenceBase e k + 7) ∨
    idOrder false (cfgServiceBase e) ≤ objectOrder d)
  let twin := d.twin && (decide (2 ≤ d.cls) || !channelUsed e (twinOf k) || cfgChannelMode e k == 2)
  let group := decide (d.group ≠ 0) && (cfgChannelMode e k == 2 || cfgLaunchOffset e d.group == 0)
  let words := (objectWords d).any fun w => decide (w < 4 ∨ 479 < w)
  first || long || (d.envelope && !d.fdf) || order || twin || group || words

/-- Two objects of a channel are refused together (R362): an identifier sent twice, a class order broken, words that
overlap. -/
def objectsClash (a b : DoorDesc) : Bool :=
  let sent := a.dir == 2 && b.dir == 2
  let same := sent && objectOrder a == objectOrder b
  let order := sent && decide (a.cls < b.cls ∧ objectOrder b ≤ objectOrder a)
  same || order || (objectWords a).any fun w => decide (w ∈ objectWords b)

/-- The objects of a channel are refused (R362). -/
def badObjects (e : Entries) (k : Nat) : Bool :=
  let l := objectsOf e k
  let twins := transmitObjects e (twinOf k)
  let clash := l.any fun a => l.any fun b => a.1 != b.1 && objectsClash a.2 b.2
  let shared := l.any fun a => a.2.dir == 2 && a.2.twin && twins.any fun b => objectOrder a.2 == objectOrder b.2
  l.any (fun p => badObject e k p.2) || clash || shared

/-- Number of columns in use of a matrix: up to the last one with a mark or a cell that is not free (R373). -/
def columnsUsed (e : Entries) (k : Nat) : Nat :=
  let cells (j : Nat) : Bool := (List.range (cfgCycleCountMax e k + 1)).any fun b => (matrixCell e k b j).1 != 0
  ((List.range 32).filter fun j => j == 0 || columnMark e k j != 0 || cells j).foldl (fun m j => max m (j + 1)) 1

/-- End of a column in NTU: the next mark, or the end of the basic cycle. -/
def columnLimit (e : Entries) (k n j : Nat) : Nat := if j + 1 < n then columnMark e k (j + 1) else cfgBasicCycle e k

/-- The column marks of a matrix are refused (R373). -/
def badMarks (e : Entries) (k : Nat) : Bool :=
  let n := columnsUsed e k
  (List.range n).any fun j =>
    decide (cfgBasicCycle e k ≤ columnMark e k j) || (decide (0 < j) && decide (columnMark e k j ≤ columnMark e k (j - 1)))

/-- A frame named in an exclusive cell does not fit its column (R373). -/
def badCells (e : Entries) (k : Nat) : Bool :=
  let n := columnsUsed e k
  (List.range (cfgCycleCountMax e k + 1)).any fun b => (List.range n).any fun j =>
    let c := matrixCell e k b j
    let d := doorDesc e k c.2
    c.1 == 1 && decide (1000 * (columnLimit e k n j - columnMark e k j) < frameNs e k d (frameLength d))

/-- Offending entries of a channel. -/
def channelOffences (e : Entries) (k : Nat) : List Nat :=
  if channelUsed e k then
    let t := badTiming e k
    let matrix := cfgChannelMode e k == 2
    (if t.1 then [0x700003] else []) ++ (if t.2 then [0x700004] else []) ++ (if badObjects e k then [0x701002] else []) ++
      (if matrix && badCells e k then [0x702101] else []) ++ (if matrix && badMarks e k then [0x702102] else [])
  else []

/-- Every offending entry of a configuration (R427). -/
def contentOffences (e : Entries) : List Nat :=
  let priority := ([1, 2, 3].filter fun c => decide (cfgPriority e (c - 1) < cfgPriority e c)).map fun c => 0x601201 + c
  let inputs := ((rangeFrom 1 8).filter fun n => cfgAiLow e n == cfgAiHigh e n).map fun _ => 0x901004
  let outputs := ((rangeFrom 1 8).filter fun n => cfgAoLow e n == cfgAoHigh e n).map fun _ => 0x902004
  let taps := ((List.range 8).filter fun k => cfgTapObject e k != 0xFFFF &&
    !(receiveObjects e k).any fun p => p.1 == cfgTapObject e k).map fun _ => 0xA01402
  priority ++ (List.range 8).flatMap (channelOffences e) ++ inputs ++ outputs ++ taps

/-- First offending entry of a configuration, in the order of the entries (R427). -/
def firstOffence (e : Entries) : Option Nat := (sortBy id (contentOffences e)).head?

/-- A commit changes a setting of a channel that R379 accepts in LOAD and STOP only: mode, bit timing, profile, time master
settings, matrix. -/
def channelChanged (old new : Entries) (k : Nat) : Bool :=
  ([0x700002, 0x700003, 0x700004, 0x700005, 0x702001, 0x702002, 0x702003, 0x702004, 0x702005, 0x702006].any fun n =>
    entryInt old (n / 256) (n % 256) (-1) k 0 != entryInt new (n / 256) (n % 256) (-1) k 0) ||
  cfgMatrix old k != cfgMatrix new k || cfgMarks old k != cfgMarks new k

/-- Channels whose settings of R379 a commit changes. -/
def channelsChanged (old new : Entries) : List Nat := (List.range 8).filter (channelChanged old new)

end Sys2Proof.Machine
end

