-- ==== Sys2Proof/Config.lean ====
section
/-!
DEFINITION. What one module or its surroundings fix and the manual leaves open: opaque constants without a value. The
free values are applied to the counter `State.free`, so that two draws are unrelated. Assumption log 2.
-/
namespace Sys2Proof.Config

/-- Frequency correction of the servo in one Sync interval, ns before it is held to the slew limit (R340). -/
opaque servoStep : Nat → Int

/-- Bytes of the DATA of an event of code 0x0600 whose name or arguments the manual does not lay out (Table 19-3). -/
opaque eventData : Nat → List Nat → List Byte

/-- Ring MAC addresses of the identity block; false ring A (R331, 0x1002). -/
opaque ringMac : Bool → BitVec 48

/-- The module is conformal coated: order code SX96-2C, else SX96-2A (R2, Table 0-1). -/
opaque conformalCoated : Bool

/-- Serial number (0x1000:03). -/
opaque serialNumber : List Byte

/-- Hardware revision letter (0x1000:04). -/
opaque hardwareRevision : BitVec 8

/-- Dictionary revision (0x1000:06). -/
opaque dictionaryRevision : BitVec 16

/-- Family architecture revision (0x1001:02). -/
opaque architectureRevision : BitVec 16

/-- Production latency of a port, unit 0.1 ns (R345): `latency port receive gigabit`. -/
opaque latency : Nat → Bool → Bool → Nat

/-- Region that the module sets for a DMA engine 0 to 3 at LOAD from the numbers and blocks of its configuration, by 16 × engine +
region: base, limit, attributes (R294). -/
opaque cycleRegion : SMap Int → SMap (List Byte) → Nat → BitVec 32 × BitVec 32 × BitVec 32

/-- DRAM byte address of a class B or C station's input buffer, or with `true` of its output buffer (R274). -/
opaque stationBuffer : Nat → Bool → Nat

/-- DRAM byte address of an entry of the checkpoint history, by its place in the ring of 1,048,576 entries (R235). -/
opaque historyPlace : Nat → Nat

/-- DRAM byte address of a record in the staging queue of the recorder, by its SEQ (R469). -/
opaque stagingPlace : BitVec 32 → Nat

/-- DRAM byte address of an image in transit (Table 9-3). -/
opaque imagePlace : Nat

/-- The program image that the bytes of a transfer hold: the manual fixes no byte layout of an image (R178). -/
opaque imageOf : List Byte → Image

/-- Bytes of a service transfer on the seam link: the manual fixes no byte layout of its content (R181, R230). -/
opaque serviceBytes : Service → List Byte

/-- Free value: a number that the manual leaves open. -/
opaque freeNat : Nat → Nat

/-- Time that a value takes through a value crossing and its acknowledge back, from the crossing and the instant, ns; used only below the
bound of Table 12-3 (R316). -/
opaque valueDelay : Nat → Nat → Nat

/-- Junction temperature that 0xA003:03 and 0xA003:04 read before the sensors have been read, from -55 °C up in 1 °C; used modulo 206. -/
opaque unreadJunction : Nat

end Sys2Proof.Config
end

