-- ==== Sys2Proof/Machine/Record.lean ====
section
/-!
DEFINITION. Time, the recorder's intake and the alarms: what every family uses to leave a trace
(19_event_recorder.md R461–R469, R74; 13_plant_network_and_time.md R337).
-/
namespace Sys2Proof.Machine

/-- The clock of the model moves to the instant `t` of a command, never backwards (R337). -/
def atTime (t : Nat) (s : State) : State := { s with network.time.now := max s.network.time.now t }

/-- Time base in ns at an instant of running time (R337). -/
def timeAt (s : State) (t : Nat) : Nat := (Int.ofNat t + s.network.time.offset).toNat

/-- Time base in ns now (R337). -/
def timeBase (s : State) : Nat := timeAt s s.network.time.now

/-- Name of an alarm as the manual writes it (Table 19-3). -/
def alarmName : Alarm → String
  | .supplyInputLost => "supply input lost"
  | .holdUpCapacitanceLow => "hold-up capacitance low"
  | .portLinkDown => "port link down"
  | .seamLinkDown => "seam link down"
  | .rejoinFailed => "rejoin failed"
  | .idleTandemFailed => "idle tandem failed"
  | .partitionFaulted => "partition faulted"
  | .seamCapacity => "seam capacity"
  | .weftAbandoned => "weft abandoned"
  | .standbyChangeRefused => "standby change refused"
  | .networkHeartbeatLost => "network heartbeat lost"
  | .seamLaneFailed => "seam lane failed"
  | .pairMismatch => "pair mismatch"
  | .weftFormatMismatch => "weft format mismatch"
  | .takeoverNotPossible => "takeover not possible"
  | .resyncRefused => "resync refused"
  | .resyncSlow => "resync slow"
  | .temperatureHigh => "temperature high"
  | .dramUncorrectable => "DRAM uncorrectable"
  | .dramChannelDegraded => "DRAM channel degraded"
  | .persistentCorrection => "persistent correction"
  | .scrubBehind => "scrub behind"
  | .safetyOutputFailedOff => "safety output failed off"
  | .dramChannelOutOfService => "DRAM channel out of service"
  | .clockDeviation => "clock deviation"
  | .islandResetFailed => "island reset failed"
  | .timeOffsetTooLarge => "time offset too large"
  | .timeNotSynchronised => "time not synchronised"
  | .lateLaunch => "late launch"
  | .launchSuperseded => "launch superseded"
  | .doorBusOff => "door bus off"
  | .doorBusAlone => "door bus alone"
  | .doorPairImpaired => "door pair impaired"
  | .doorBusWarning => "door bus warning"
  | .doorReceiveChecks => "door receive checks"
  | .doorTimeMasterLost => "door time master lost"
  | .stationMismatch => "station mismatch"
  | .stationResyncSlow => "station resync slow"
  | .analogueOutputShortfall => "analogue output shortfall"
  | .localInputFault => "local input fault"
  | .safetyOutputSupplyLow => "safety output supply low"
  | .firmwareUnconfirmed => "firmware unconfirmed"

/-- Number of an event of code 0x0600, for the free value of its DATA. -/
def otherIndex : OtherEvent → Nat
  | .supplyInputLost => 0 | .retainedDataLost => 1 | .partitionFaulted => 2
  | .changeState => 4 | .hostWritesDiscarded => 5 | .changeLostAtRestart => 6 | .handoverAborted => 7
  | .arbiterTrip => 8 | .lockAbandoned => 9 | .lifecycleChange => 10 | .debugUnlock => 11
  | .domainSwitch => 13 | .timeStep => 14 | .trimArmed => 15 | .trimDisarmed => 16 | .trimKeyIgnored => 17
  | .trimCover => 18 | .localInputFault => 19 | .staging => 20 | .firmwareFallback => 21
  | .islandReset => 23 | .partyChange => 24 | .slotChange => 25 | .partnerPresent => 26

/-- Name of an event of code 0x0600 where the manual writes one (Table 19-3). -/
def otherName : OtherEvent → Option String
  | .retainedDataLost => some "retained data lost"
  | .changeLostAtRestart => some "change lost at restart"
  | .handoverAborted => some "handover aborted"
  | _ => none

/-- Bytes of a name. -/
def nameBytes (n : String) : List Byte := n.toList.map fun c => BitVec.ofNat 8 c.toNat

/-- DATA of an event of code 0x0600, at most 88 bytes (Table 19-3). -/
def otherData (e : OtherEvent) (args : List Nat) : List Byte :=
  match otherName e, args with
  | some n, [] => BitVec.ofNat 8 n.length :: nameBytes n
  | _, _ => (Config.eventData (otherIndex e) args).take 88

/-- Length of the DATA of an event (Table 19-3). -/
def dataLength : QuiltBody → Nat
  | .transition _ _ _ => 4
  | .alarm _ a _ => 1 + (alarmName a).length
  | .faultCause _ _ _ => 7
  | .notice _ => 16
  | .loom _ _ => 72
  | .other e args => (otherData e args).length
  | .lost _ => 4
  | .histogram .. => 0
  | .extreme .. => 0

/-- LENGTH of a record: a multiple of 4 from 56 to 172 (R462, R463, R464). -/
def recordLength (b : QuiltBody) : Nat :=
  match b with
  | .histogram .. => 172
  | .extreme .. => 56
  | _ => max 56 ((44 + dataLength b + 3) / 4 * 4)

/-- Severity of an event (Table 19-3); statistics have 0 (R464). -/
def recordSeverity : QuiltBody → Nat
  | .transition _ new cause => if new = 10 then 3 else if cause = 5 ∨ cause = 8 then 2 else 1
  | .alarm .. => 2
  | .faultCause .. => 3
  | .notice _ => 2
  | .loom _ e => e.severity
  | .other e _ => if e = .lifecycleChange ∨ e = .debugUnlock then 3 else 1
  | .lost _ => 3
  | .histogram .. => 0
  | .extreme .. => 0

/-- Bytes that records take. -/
def recordsBytes (l : List QuiltRecord) : Nat := (l.map (·.length)).sum

/-- The place of a record in the staging queue lies on a DRAM channel out of service (R261, R469). -/
def stagingDown (n : BitVec 32) (s : State) : Bool :=
  (rangeFrom 0 2).any fun k => decide ((.dramChannelOutOfService, k) ∈ s.alarms) &&
    (Config.stagingPlace n / 4096 % 2 == k || (Config.stagingPlace n + 171) / 4096 % 2 == k)

/-- A sealed record enters the buffer, waits in the staging queue while the buffer is full, or is lost, as one is whose place in that
queue is `down` (R261, R468, R469).
DEDUCED: a lost record takes no SEQ (assumption log 4). -/
def quiltAdmit (down : Bool) (r : QuiltRecord) (q : Quilt) : Quilt :=
  if q.queue.isEmpty ∧ recordsBytes q.buffer + r.length ≤ 262144 then
    { q with buffer := q.buffer ++ [r], nextSeq := q.nextSeq + 1 }
  else if down = false ∧ recordsBytes q.queue + r.length ≤ 4194304 then
    { q with queue := q.queue ++ [r], nextSeq := q.nextSeq + 1 }
  else { q with lost := satU32 (q.lost + 1), lostDue := q.lostDue + 1 }

/-- A record of the module: its header and time fields from the state (R462, R463). -/
def recordWith (b : QuiltBody) (source : Nat) (isPartial : Bool) (s : State) : State :=
  let r : QuiltRecord :=
    { severity := recordSeverity b, length := recordLength b, seq := s.quilt.nextSeq, seconds := s.quilt.seconds,
      powerCycles := s.quilt.powerCycles, source := source, isPartial := isPartial, cycle := s.cycle.counter,
      time := timeBase s, body := b }
  { s with quilt := quiltAdmit (stagingDown s.quilt.nextSeq s) r s.quilt }

/-- A quilt event without a source (R463). -/
def logEvent (b : QuiltBody) (s : State) : State := recordWith b 0 false s

/-- A quilt event of code 0x0600. -/
def logOther (e : OtherEvent) (args : List Nat) (s : State) : State := logEvent (.other e args) s

/-- An alarm is raised: nothing where it already stands for that source (R74, Table 19-3). -/
def raiseAlarm (a : Alarm) (source : Nat) (s : State) : State :=
  if (a, source) ∈ s.alarms then s
  else recordWith (.alarm true a source) source false { s with alarms := s.alarms ++ [(a, source)] }

/-- An alarm is cleared: nothing where it does not stand for that source. -/
def clearAlarm (a : Alarm) (source : Nat) (s : State) : State :=
  if (a, source) ∈ s.alarms then
    recordWith (.alarm false a source) source false { s with alarms := s.alarms.filter (· ≠ (a, source)) }
  else s

/-- Raised or cleared by a condition. -/
def setAlarm (a : Alarm) (source : Nat) (on : Bool) (s : State) : State :=
  if on then raiseAlarm a source s else clearAlarm a source s

/-- Every raised alarm is cleared, with an event each (R74). -/
def clearAlarms (s : State) : State :=
  s.alarms.foldl (fun s p => clearAlarm p.1 p.2 s) s

/-- A number that the manual leaves open, drawn once (assumption log 2). -/
def drawNat (s : State) : Nat × State := (Config.freeNat s.free, { s with free := s.free + 1 })

/-- Key of a statistics accumulator. -/
def accKey (code source : Nat) : Nat := code * 1024 + source

/-- One sample into the extremes of an accumulator (R464). -/
def accExtreme (v : Int) (at' : Nat) (a : Accumulator) : Accumulator :=
  if a.count = 0 then { a with min := v, minAt := at', max := v, maxAt := at', count := 1, sum := v }
  else { a with
    min := if v < a.min then v else a.min, minAt := if v < a.min then at' else a.minAt
    max := if a.max < v then v else a.max, maxAt := if a.max < v then at' else a.maxAt
    count := satU32 (a.count + 1), sum := a.sum + v }

/-- One sample into the histogram of an accumulator with LOW `low` and WIDTH `a.width` (R464). -/
def accHistogram (low v : Int) (a : Accumulator) : Accumulator :=
  if v < low then { a with under := satU32 (a.under + 1) }
  else
    let i := (v - low).toNat / a.width
    if a.width = 0 ∨ 32 ≤ i then { a with overTop := satU32 (a.overTop + 1) }
    else { a with bins := mapMod 0 i (fun n => satU32 (n + 1)) a.bins }

/-- One sample of a quantity (Table 19-4): LOW and WIDTH where it has a histogram, which `h` samples. -/
def sample (code source : Nat) (low : Int) (width : Nat) (h e : Bool) (v : Int) (s : State) : State :=
  let f (a : Accumulator) : Accumulator :=
    let a := if a.width = 0 then { a with width := width } else a
    let a := if h then accHistogram low v a else a
    if e then accExtreme v s.quilt.seconds a else a
  { s with quilt.accumulators := mapMod {} (accKey code source) f s.quilt.accumulators }

/-- LOW of a quantity's histogram (Table 19-4). -/
def histogramLow (code : Nat) : Int := if code = 2 then 800 else if code = 3 then -40 else 0

/-- WIDTH of a quantity's histogram that does not depend on the program (Table 19-4). -/
def histogramWidth (code : Nat) : Nat := if code = 2 then 200 else if code = 3 then 5 else if code = 6 then 20 else 0

/-- Sources with a histogram in the statistics interval (Table 19-4). -/
def histogramSources (s : State) : List (Nat × Nat) :=
  [(1, 0), (2, 1), (2, 2), (3, 1), (3, 2), (3, 3), (3, 4)] ++
    ((List.range 8).filter fun c => cfgTapObject s.nsp.inForce c ≠ 0xFFFF).map fun c => (6, c)

/-- Sources with extremes in the statistics interval (Table 19-4); a door bus channel is in use unless its mode is 0. -/
def extremeSources (s : State) : List (Nat × Nat) :=
  [(1, 0), (2, 1), (2, 2), (3, 1), (3, 2), (3, 3), (3, 4), (4, 1), (4, 2), (4, 3), (4, 4)] ++
    ((List.range 8).filter fun c => cfgChannelMode s.nsp.inForce c ≠ 0).map fun c => (5, c)

/-- Seal the histogram of a quantity (R464, R465). -/
def sealHistogram (isPartial : Bool) (interval : Nat) (k : Nat × Nat) (s : State) : State :=
  let a := mapVal {} (accKey k.1 k.2) s.quilt.accumulators
  let w := if k.1 = 1 then a.width else histogramWidth k.1
  recordWith (.histogram k.1 interval (histogramLow k.1) w a.under ((List.range 32).map fun i => mapVal 0 i a.bins)
    a.overTop) k.2 isPartial s

/-- Seal the extremes of a quantity; one with COUNT 0 is not written (R464). -/
def sealExtreme (isPartial : Bool) (interval : Nat) (k : Nat × Nat) (s : State) : State :=
  let a := mapVal {} (accKey k.1 k.2) s.quilt.accumulators
  if a.count = 0 then s
  else recordWith (.extreme k.1 interval a.min a.minAt a.max a.maxAt a.count a.sum) k.2 isPartial s

/-- Drop the accumulators whose code satisfies `f`. -/
def dropAccumulators (f : Nat → Bool) (s : State) : State :=
  { s with quilt.accumulators := s.quilt.accumulators.filter fun p => !(f (p.1 / 1024)) }

/-- Close the statistics interval: one record per kind and source, then an empty interval (R465). -/
def sealStatistics (isPartial : Bool) (s : State) : State :=
  let n := s.quilt.seconds - s.quilt.statsFrom
  let s := (histogramSources s).foldl (fun s k => sealHistogram isPartial n k s) s
  let s := (extremeSources s).foldl (fun s k => sealExtreme isPartial n k s) s
  let s := dropAccumulators (· ≠ 7) s
  { s with quilt.statsFrom := s.quilt.seconds, quilt.statsInterval := setStatisticsInterval s.nsp.settings }

/-- Close the door unit interval: CODE 0x0007 (R465). -/
def sealUnits (isPartial : Bool) (s : State) : State :=
  let n := s.quilt.seconds - s.quilt.unitsFrom
  let ks := (s.quilt.accumulators.filter fun p => p.1 / 1024 == 7).map fun p => (7, p.1 % 1024)
  let s := ks.foldl (fun s k => sealExtreme isPartial n k s) s
  let s := dropAccumulators (· == 7) s
  { s with quilt.unitsFrom := s.quilt.seconds, quilt.unitsInterval := setDoorUnitInterval s.nsp.settings }

/-- Staging seals every open interval with PARTIAL set, as far as island 2 runs (R467). -/
def sealPartial (s : State) : State :=
  if (mapVal {} 2 s.islands.islands : Island).state = 3 then dropAccumulators (fun _ => true) s
  else sealUnits true (sealStatistics true s)

/-- A flush starts; a trigger during a flush is taken into it (R470). -/
def startFlush (cause : Nat) (s : State) : State :=
  if s.quilt.flushing then s else { s with quilt.flushing := true, quilt.flushCause := cause }

end Sys2Proof.Machine
end

