-- ==== Sys2Proof/Machine/Ops.lean ====
section
/-!
DEFINITION. Named operations over the state that several families share: accessors of the sparse parts, queuing of
network frames and pair messages, mode transitions, FAULT entry and restarts
(03_start_and_modes.md, 08_redundant_pair.md, 09_diagnostics_and_safe_state.md, 13_plant_network_and_time.md).
-/
namespace Sys2Proof.Machine

/-- Code of a mode (Table 3-1). -/
def modeCode : Mode → Nat
  | .off => 0 | .kickstand => 1 | .selftest => 2 | .load => 3 | .standby => 4 | .active => 5 | .solo => 6
  | .handover => 7 | .change => 8 | .stop => 9 | .fault => 10 | .provision => 11

/-- The solver solves and the module holds authority (Table 3-1). -/
def solving (m : Mode) : Bool :=
  match m with
  | .active | .solo | .handover | .change => true
  | _ => false

/-- Heartbeats are sent (Table 3-1, R64): in LOAD from the start of the partner search. -/
def sendsHeartbeats (s : State) : Bool :=
  match s.modes.mode with
  | .standby | .active | .solo | .handover | .change | .stop => true
  | .load => s.modes.search.running
  | _ => false

/-- Islands 1 to 9. -/
def island (n : Nat) (s : State) : Island := mapVal {} n s.islands.islands

/-- Island `n` changed by `f`. -/
def modIsland (n : Nat) (f : Island → Island) (s : State) : State :=
  { s with islands.islands := mapMod {} n f s.islands.islands }

/-- Island `n` has left reset and its clock has not stopped (Table 12-2). -/
def islandUp (n : Nat) (s : State) : Bool := (island n s).state == 1 || (island n s).state == 2

/-- Crossing `n`. -/
def crossing (n : Nat) (s : State) : Crossing := mapVal {} n s.islands.crossings

/-- Crossing `n` changed by `f`. -/
def modCrossing (n : Nat) (f : Crossing → Crossing) (s : State) : State :=
  { s with islands.crossings := mapMod {} n f s.islands.crossings }

/-- A crossing is open: both its sides have left reset and its opening has completed (R319). -/
def crossingOpen (n : Nat) (s : State) : Bool := (crossing n s).state == 2

/-- A write to a closed crossing is discarded and counted (R319). -/
def closedWrite (n : Nat) (s : State) : State :=
  modCrossing n (fun c => { c with closedWrites := satU32 (c.closedWrites + 1) }) s

/-- What is written to a crossing gets through when it is open; else it is discarded and counted (R10, R319). -/
def through (n : Nat) (f : State → State) (s : State) : State := if crossingOpen n s then f s else closedWrite n s

/-- Longest time of a value of crossing 5 or 18 until its acknowledge is agreed, ns: 6 cycles of the receiving island and 4 of the sending
one (Table 12-3). -/
def valueBound (n : Nat) : Nat := if n = 5 then 28 else 115

/-- Time that a value loaded at an instant keeps the holding register, within the bound (R316). -/
def valueTime (n at' : Nat) : Nat := Config.valueDelay n at' % (valueBound n + 1)

/-- The pending value of a crossing takes the holding register when that has become free by `now` (R316). -/
def loadPending (n now : Nat) (c : Crossing) : Crossing :=
  if c.waits ∧ c.busyUntil ≤ now then { c with busyUntil := c.busyUntil + valueTime n c.busyUntil, waits := false } else c

/-- A value is written to a value crossing at `now`: into the free holding register, else into the pending register, where it replaces one
that still waits (R316). -/
def writeValue (n now : Nat) (c : Crossing) : Crossing :=
  if c.busyUntil ≤ now then { c with busyUntil := now + valueTime n now }
  else if c.waits then { c with replacements := satU32 (c.replacements + 1) }
  else { c with waits := true }

/-- A value goes through crossing 5 or 18; the receiver gets the latest (R316, Table 12-4). The model's receivers hold it at once
(assumption log 59). -/
def sendValue (n : Nat) (s : State) : State :=
  let now := s.network.time.now
  through n (modCrossing n fun c => writeValue n now (loadPending n now c)) s

/-- Port `p`, 1 to 4. -/
def port (p : Nat) (s : State) : Port := mapVal {} p s.network.ports

/-- Port `p` changed by `f`. -/
def modPort (p : Nat) (f : Port → Port) (s : State) : State :=
  { s with network.ports := mapMod {} p f s.network.ports }

/-- Ports of a ring (Table 13-1). -/
def portsOf (ring : Bool) : List Nat := if ring then [3, 4] else [1, 2]

/-- Ring of a port (Table 13-1). -/
def ringOf (p : Nat) : Bool := 3 ≤ p

/-- A ring's record. -/
def ring (r : Bool) (s : State) : Ring := if r then s.network.ringB else s.network.ringA

/-- A ring's record changed by `f`. -/
def modRing (r : Bool) (f : Ring → Ring) (s : State) : State :=
  if r then { s with network.ringB := f s.network.ringB } else { s with network.ringA := f s.network.ringA }

/-- Door channel `c`, 0 to 7. -/
def channel (c : Nat) (s : State) : Channel := mapVal {} c s.doors.channels

/-- Door channel `c` changed by `f`. -/
def modChannel (c : Nat) (f : Channel → Channel) (s : State) : State :=
  { s with doors.channels := mapMod {} c f s.doors.channels }

/-- Station `n`. -/
def station (n : Nat) (s : State) : Station := mapVal {} n s.stations.stations

/-- Station `n` changed by `f`. -/
def modStation (n : Nat) (f : Station → Station) (s : State) : State :=
  { s with stations.stations := mapMod {} n f s.stations.stations }

/-- The buffers of a class B or C station lie on a DRAM channel that is out of service (R261, R274). -/
def bufferLost (n : Nat) (s : State) : Bool :=
  decide (2 ≤ cfgStationClass s.nsp.inForce n) && !s.hub.channels.getLsbD (n % 2)

/-- The DRAM that holds an address range is out of service in part (R260, R261). -/
def dramLost (a n : Nat) (s : State) : Bool :=
  (rangeFrom 0 2).any fun k => decide ((.dramChannelOutOfService, k) ∈ s.alarms) &&
    (decide (8192 ≤ n) || a / 4096 % 2 == k || (a + n - 1) / 4096 % 2 == k || decide (a / 4096 + 1 < (a + n - 1) / 4096))

/-- An image in transit through DRAM fails its check (R261, Table 9-3). -/
def imageLost (s : State) : Bool := s.hub.transitLost || dramLost Config.imagePlace 67108864 s

/-- The cycle engine owns the hub slot of the crossbar: in the XCH and output phases (R154). -/
def slotOwned (s : State) : Bool := s.cycle.phase == .xch || s.cycle.phase == .output

/-- Session `n`. -/
def session (n : Nat) (s : State) : Session := mapVal {} n s.nsp.sessions

/-- Session `n` changed by `f`. -/
def modSession (n : Nat) (f : Session → Session) (s : State) : State :=
  { s with nsp.sessions := mapMod {} n f s.nsp.sessions }

/-- Seam lane 0 or 1. -/
def seamLane (l : Fin 2) (s : State) : SeamLane := if l = 0 then s.seam.lane0 else s.seam.lane1

/-- Seam lane changed by `f`. -/
def modSeamLane (l : Fin 2) (f : SeamLane → SeamLane) (s : State) : State :=
  if l = 0 then { s with seam.lane0 := f s.seam.lane0 } else { s with seam.lane1 := f s.seam.lane1 }

/-- Own slot number (R33). -/
def slotNumber (s : State) : Nat := (s.front.straps.setWidth 6).toNat

/-- Pair position: 0 even slot, 1 odd slot (R34, R221). -/
def pairPosition (s : State) : Nat := slotNumber s % 2

/-- Partner slot: own number with bit 0 inverted; slots 1 and 62 have none (R34). -/
def partnerSlotOf (s : State) : Option Nat :=
  let n := slotNumber s
  if n = 1 ∨ n = 62 then none else some (if n % 2 = 0 then n + 1 else n - 1)

/-- The seam link is up: at least one lane in service (R204). -/
def seamUp (s : State) : Bool := s.seam.lane0.inService || s.seam.lane1.inService

/-- Pair mismatch or format mismatch: no weft frames with that partner (R34, R205). -/
def pairRefused (s : State) : Bool := s.seam.pairMismatch || s.seam.formatMismatch

/-- The active program image (R121). -/
def activeImage (s : State) : Option Image := if s.solver.activeBank = 0 then s.solver.bank0 else s.solver.bank1

/-- The image of the shadow bank (R121). -/
def shadowImage (s : State) : Option Image := if s.solver.activeBank = 0 then s.solver.bank1 else s.solver.bank0

/-- Identity of the program in the active bank; 0 when empty. -/
def imageId (s : State) : BitVec 32 := match activeImage s with | some i => i.identity | none => 0

/-- Identity of the program in the shadow bank; 0 when empty (Table 8-4). -/
def shadowId (s : State) : BitVec 32 := match shadowImage s with | some i => i.identity | none => 0

/-- Figures of the latest accepted admission of the active program (R158). -/
def admitted (s : State) : Admitted := if s.solver.activeBank = 0 then s.cycle.admitted0 else s.cycle.admitted1

/-- Figures of the plan in force (R158). -/
def planFigures (s : State) : PlanFigures := (admitted s).plans.getD s.solver.plan {}

/-- Solver cycles in ns: one is 2 ns (R129). -/
def cyclesNs (n : Nat) : Nat := 2 * n

/-- Admitted cycle of the plan in force as CYCLE_BOUND in µs, rounded up (Table 4-10). -/
def cycleBoundUs (s : State) : Nat := (cyclesNs (planFigures s).admitted + 999) / 1000

/-- Time a frame occupies the line, preamble and gap included, ns rounded up; link state 1 is 1000BASE-T (R347). -/
def wireNs (link length : Nat) : Nat := if link = 1 then 8 * (length + 20) else (32 * (length + 20) + 9) / 10

/-- Entries of a gate list with their durations in one cycle of `left` ns: the last one lasts to the cycle's end, an
INTERVAL of 0 behind the first ends the list, a longer list is cut (R335). -/
def gateSpans : Nat → List (BitVec 8 × Nat) → List (BitVec 8 × Nat)
  | _, [] => []
  | left, (g, n) :: r =>
    let last := match r with | [] => true | (_, m) :: _ => m == 0
    if n = 0 ∨ left ≤ n ∨ last = true then [(g, left)] else (g, n) :: gateSpans (left - n) r

/-- Time for which the gate of queue `q` stays open from the start of a list. -/
def openRun (q : Nat) : List (BitVec 8 × Nat) → Nat
  | [] => 0
  | (g, n) :: r => if g.getLsbD q then n + openRun q r else 0

/-- A list from a time within it. -/
def spansFrom : Nat → List (BitVec 8 × Nat) → List (BitVec 8 × Nat)
  | _, [] => []
  | at', (g, n) :: r => if at' < n then (g, n - at') :: r else spansFrom (at' - n) r

/-- Longest open window of queue `q`. -/
def longestRun (q : Nat) : List (BitVec 8 × Nat) → Nat
  | [] => 0
  | x :: r => max (openRun q (x :: r)) (longestRun q r)

/-- Two cycles of a gate list. -/
def twoCycles (g : GateList) : List (BitVec 8 × Nat) :=
  let l := gateSpans g.cycleTime g.entries
  l ++ l

/-- The gate never closes for queue `q`: the list is disabled or keeps it open throughout (R335). -/
def gateAlwaysOpen (g : GateList) (q : Nat) : Bool := !g.enabled || (twoCycles g).all fun x => x.1.getLsbD q

/-- Place in the cycle of a gate list at a time of the time base (R335). -/
def gatePhase (g : GateList) (tb : Nat) : Nat :=
  ((Int.ofNat tb - Int.ofNat g.base) % Int.ofNat g.cycleTime).toNat

/-- A transmission of `d` ns from queue `q` ends before its gate closes (R335). -/
def gateFits (g : GateList) (q tb d : Nat) : Bool :=
  gateAlwaysOpen g q || decide (d ≤ openRun q (spansFrom (gatePhase g tb) (twoCycles g)))

/-- A frame that fits in no open window (R335). -/
def gateNever (g : GateList) (q d : Nat) : Bool := !gateAlwaysOpen g q && decide (longestRun q (twoCycles g) < d)

/-- The link carries frames: 1000BASE-T or 2.5GBASE-T, no retrain in progress (R330). -/
def linkCarries (p : Port) : Bool := p.link == 1 || p.link == 2

/-- The supervisor island has released cycle `n` (R239). -/
def cycleReleased (n : BitVec 40) (s : State) : Bool :=
  match s.cycle.releasedCycle with
  | some m => decide ((m - n).toNat < 2 ^ 39)
  | none => false

/-- A frame may leave: it belongs to no cycle, or to a released one (R239). -/
def frameFree (s : State) (f : TxFrame) : Bool := match f.cycle with | some n => cycleReleased n s | none => true

/-- The launch frame that leaves next: due, released, earliest launch time, queuing order (R347). -/
def dueLaunch (p : Port) (s : State) : Option TxFrame :=
  let due := (p.bank0 ++ p.bank1).filter fun f => match f.launch with
    | some (_, t) => decide (t ≤ timeBase s) && frameFree s f
    | none => false
  (sortBy (fun f => match f.launch with | some (_, t) => t | none => 0) due).head?

/-- The gated frame that may start: highest priority first, gate open, fitting, clear of a launch guard (R335, R347). -/
def dueGated (p : Port) (s : State) : Option (Nat × TxFrame) :=
  let tb := timeBase s
  let pick (q : Nat) : Option (Nat × TxFrame) :=
    match (mapVal [] q p.queues).find? (frameFree s) with
    | some f =>
      let d := wireNs p.link f.length
      let clear := match p.guard with | some l => decide (tb + d ≤ l) | none => true
      if clear && gateFits p.gates q tb d then some (q, f) else none
    | none => none
  [7, 6, 5, 4, 3, 2, 1, 0].findSome? pick

/-- Launch group `g` changed by `f`. -/
def modGroup (g : Nat) (f : LaunchGroup → LaunchGroup) (s : State) : State :=
  { s with network.groups := mapMod {} g f s.network.groups }

/-- A launch frame starts: launched, and displaced when it starts late behind an earlier run (R347, R348). -/
def countLaunch (prev : Option TxFrame) (f : TxFrame) (s : State) : State :=
  match f.launch with
  | some (g, t) =>
    let behind := match prev with
      | some x => (match x.launch with | some (_, u) => decide (u ≠ t ∧ t + 8 < timeBase s) | none => false)
      | none => false
    modGroup g (fun k => { k with
      launched := k.launched + 1
      displaced := if behind then satU32 (k.displaced + 1) else k.displaced }) s
  | none => s

/-- An idle port whose link is up starts its next frame: a due launch frame, else a gated one (R335, R347). `prev` is the
frame that has just ended. -/
def pumpPort (prev : Option TxFrame) (n : Nat) (s : State) : State :=
  let p := port n s
  if linkCarries p && p.line.isNone && islandUp 4 s then
    match dueLaunch p s with
    | some f =>
      countLaunch prev f (modPort n (fun p => { p with
        line := some f
        bank0 := p.bank0.erase f
        bank1 := if f ∈ p.bank0 then p.bank1 else p.bank1.erase f }) s)
    | none =>
      match dueGated p s with
      | some (q, f) => modPort n (fun p => { p with
          line := some f
          queues := mapMod [] q (fun l => l.erase f) p.queues }) s
      | none => s
  else s

/-- Every idle port starts its next frame. -/
def pumpPorts (s : State) : State := (rangeFrom 1 4).foldl (fun s n => pumpPort none n s) s

/-- A frame joins the egress queue of its priority on one port: dropped when the queue is full, cycle engine frames
exempt, or when it fits in no window of the gate list (R334, R335). -/
def enterQueue (f : TxFrame) (n : Nat) (s : State) : State :=
  let p := port n s
  let k := f.priority.getD 7
  let l := mapVal [] k p.queues
  if (1024 ≤ l.length ∧ f.cycle.isNone) ∨ gateNever p.gates k (wireNs p.link f.length) then
    modPort n (fun p => { p with drops := satU32 (p.drops + 1) }) s
  else pumpPort none n (modPort n (fun p => { p with queues := mapPut [] k (l ++ [f]) p.queues }) s)

/-- A frame of island 4 joins both ports of its ring (R331). -/
def enterRing (f : TxFrame) (s : State) : State :=
  modRing f.ring (fun r => { r with hsrSeq := r.hsrSeq + 1 })
    ((portsOf f.ring).foldl (fun s n => enterQueue f n s) s)

/-- A frame of the hub joins both ports of its ring through crossing 7 (R319, R331). -/
def queueFrame (f : TxFrame) (s : State) : State := through 7 (enterRing f) s

/-- Bytes of a reply before its CMAC (Table 17-4). -/
def replyBytes (r : NspReply) : List Byte :=
  leBytes 1 1 ++ leBytes 1 (1 + 8 * r.last.toNat) ++ leBytes 1 r.op ++ leBytes 1 r.session ++ leBytes 2 r.seq.toNat ++
    leBytes 2 r.body.length ++ leBytes 2 r.index.toNat ++ leBytes 1 r.sub.toNat ++ leBytes 1 r.status ++ leBytes 4 r.offset ++
    leBytes 4 r.total ++ leBytes 4 0 ++ r.body

/-- A reply leaves on a carrier with the CMAC of its session (R428–R430): as a datagram at the NSP priority, in service frames of 63 bytes, or on FS. -/
def replyOn (c : Option Carrier) (r : NspReply) (s : State) : State :=
  let s := { s with nsp.replies := r :: s.nsp.replies }
  let b := replyBytes r
  let b := if r.session = 0xFF ∨ r.op = 0x20 then b else b ++ cmac (session r.session s).key b
  let n := b.length
  match c with
  | some (.network ring _ _ mac) => queueFrame
      { ring := ring, dest := some mac, etherType := 0x0800, priority := some (cfgNspPriority s.nsp.inForce)
        length := max 74 (56 + n), payload := b } s
  | some (.door _) => { s with doors.serviceFrames := satU32 (s.doors.serviceFrames + (n + 62) / 63) }
  | _ => s

/-- A reply of a session leaves (R434): it is kept with its request while that is among the last eight. -/
def sendReply (r : NspReply) (s : State) : State :=
  let c := (session r.session s).carrier
  replyOn c r (modSession r.session (fun x => { x with
    recent := x.recent.map fun q => if q.1 = r.seq then (q.1, some r) else q }) s)

/-- A request in progress for an entry. -/
def waitsFor (index sub : Nat) (d : Bool × NspReply) : Bool := d.2.index.toNat == index && d.2.sub.toNat == sub

/-- The request of an entry that a session still waits for ends: its reply leaves with a status (R434). -/
def completeReply (n index sub status : Nat) (s : State) : State :=
  match (session n s).deferred.find? (waitsFor index sub) with
  | some d =>
    sendReply { d.2 with status := status } (modSession n (fun x => { x with
      deferred := x.deferred.eraseP (waitsFor index sub) }) s)
  | none => s

/-- Every session's waiting request of an entry ends. -/
def completeReplies (index sub status : Nat) (s : State) : State :=
  (List.range 16).foldl (fun s n => completeReply n index sub status s) s

/-- Bytes of a pair message's ARG (Table 8-3). -/
def argBytes : PairArg → List Byte
  | .none => leBytes 8 0
  | .heartbeat g i => leBytes 4 g.toNat ++ leBytes 4 i.toNat
  | .fault c => leBytes 2 c.toNat ++ leBytes 6 0
  | .boundary n a => leBytes 4 n.toNat ++ leBytes 4 (if a then 1 else 0)
  | .formats lo hi fw => leBytes 2 lo.toNat ++ leBytes 2 hi.toNat ++ leBytes 4 fw.toNat
  | .ack r x => leBytes 2 r.toNat ++ leBytes 2 x.toNat ++ leBytes 4 0

/-- A pair message as its 40 bytes (Table 8-3). -/
def pairBytes (m : PairMsg) : List Byte :=
  let flags := (if m.sync then 1 else 0) + (if m.seamUp then 2 else 0) + (if m.networkUp then 4 else 0) +
    (if m.stopByCommand then 8 else 0) + (if m.weftSuspended then 16 else 0)
  leBytes 1 m.kind ++ leBytes 1 m.mode ++ leBytes 1 m.slot ++ leBytes 1 flags ++ leBytes 4 m.pairId.toNat ++
    leBytes 4 m.jersey.toNat ++ leBytes 5 m.cycle.toNat ++ leBytes 1 0 ++ leBytes 2 m.seq.toNat ++
    leBytes 6 (m.send / 1000000000) ++ leBytes 4 (m.send % 1000000000) ++ leBytes 2 0 ++ argBytes m.arg

/-- Counter of the last cycle that ended: the present one while no cycle runs (Table 8-3). -/
def endedCycle (s : State) : BitVec 40 := if s.cycle.phase = .idle then s.cycle.counter else s.cycle.counter - 1

/-- The stored copy that LOAD takes: the higher generation of those that pass their check (R425). -/
def storedCopy (s : State) : Option StoredCopy :=
  let a := s.nsp.stored0
  let b := s.nsp.stored1
  if a.intact && b.intact then some (if a.generation < b.generation then b else a)
  else if a.intact then some a else if b.intact then some b else none

/-- The configuration by which the pair is known: the stored one until LOAD has brought one into force (R61, R205). -/
def pairConfig (s : State) : Entries :=
  if s.modes.loadStepsDone then s.nsp.inForce
  else match storedCopy s with | some c => c.values | none => {}

/-- Own pair identity (0x3001:01). -/
def pairIdentity (s : State) : BitVec 32 := BitVec.ofNat 32 (cfgPairIdentity (pairConfig s))

/-- A message of this module (R207, Table 8-3); SEQ is filled in per path. -/
def pairMsg (kind : Nat) (arg : PairArg) (s : State) : PairMsg :=
  { kind := kind, mode := modeCode s.modes.mode, slot := slotNumber s
    sync := s.modes.mode == .standby && s.pair.standby == .synchronised
    seamUp := s.pair.seamPath.up, networkUp := s.pair.netPath.up
    stopByCommand := s.modes.mode == .stop && s.modes.transCause == 0x000B
    weftSuspended := s.cycle.weftSuspended
    pairId := pairIdentity s
    jersey := s.pair.jersey
    cycle := if s.modes.mode = .standby then (match s.pair.checkpoint with | some c => c.cycle | none => 0)
      else endedCycle s
    seq := 0, send := timeBase s, arg := arg }

/-- A heartbeat's message (Table 8-3). -/
def heartbeatMsg (s : State) : PairMsg := pairMsg 1 (.heartbeat s.nsp.generation (imageId s)) s

/-- A block starts on a lane: it takes the next LANE_SEQ and joins the unacknowledged ones (R201, R203). -/
def startBlock (b : SeamBlock) (l : SeamLane) : SeamLane :=
  let b := { b with laneSeq := l.txSeq }
  { l with
    sending := some b
    txSeq := l.txSeq + 1
    unacked := l.unacked ++ [{ block := b, sends := 1 }] }

/-- A block named for resending starts again (R203). -/
def resendBlock (q : BitVec 16) (l : SeamLane) : SeamLane :=
  let rest := { l with resend := l.resend.filter (· != q) }
  match l.unacked.find? fun u => u.block.laneSeq == q with
  | some u => { rest with
      sending := some u.block
      unacked := l.unacked.map fun x => if x.block.laneSeq = q then { x with sends := x.sends + 1 } else x
      retransmissions := satU32 (l.retransmissions + 1) }
  | none => rest

/-- Bytes of a block on the line: header, payload, CRC (R201). -/
def blockBytes (b : SeamBlock) : Nat := 16 + b.payload.length

/-- The block named for resending starts again; what it takes of the reserve and, for a weft block, of its frame is counted
(R203, R206, R235). -/
def resendOn (n : Fin 2) (q : BitVec 16) (s : State) : State :=
  let s' := modSeamLane n (resendBlock q) s
  match (seamLane n s).unacked.find? fun u => u.block.laneSeq == q with
  | some u => { s' with
      seam.resentBytes := s.seam.resentBytes + blockBytes u.block
      seam.resentBlocks := s.seam.resentBlocks + (if u.block.type = 1 then 1 else 0) }
  | none => s'

/-- The control block of a message (Table 8-1). -/
def controlBlock (m : PairMsg) : SeamBlock :=
  { type := 2, last := true, laneSeq := 0, tag := 0, offset := 0, payload := pairBytes m }

/-- The next block of the service transfer that is being sent: its transfer number, and the bytes at its offset (Table 8-1). -/
def serviceBlock (x : Service) (s : State) : SeamBlock :=
  let b := Config.serviceBytes x
  { type := 3, last := decide (b.length ≤ s.seam.serviceOffset + 1024), laneSeq := 0, tag := s.seam.serviceNumber
    offset := s.seam.serviceOffset, payload := slice s.seam.serviceOffset 1024 b }

/-- The transfer that is being sent goes on behind one of its blocks; the last one ends it (R201). -/
def serviceSent (last : Bool) (s : State) : State :=
  if last then
    { s with
      seam.serviceTx := s.seam.serviceTx.drop 1
      seam.serviceOffset := 0
      seam.serviceNumber := s.seam.serviceNumber + 1 }
  else { s with seam.serviceOffset := s.seam.serviceOffset + 1024 }

/-- A lane starts a service block: one that a failed lane left, then the next of the transfer that is being sent (R202, R204). -/
def pumpService (n : Fin 2) (s : State) : State :=
  match s.seam.serviceBlocks, s.seam.serviceTx with
  | b :: r, _ => modSeamLane n (startBlock b) { s with seam.serviceBlocks := r }
  | [], x :: _ => modSeamLane n (startBlock (serviceBlock x s)) (serviceSent (serviceBlock x s).last s)
  | [], [] => s

/-- An idle lane starts its next block: control, then a retransmission, then weft, then service (R202); no new block with
256 unacknowledged (R203). -/
def pumpLane (n : Fin 2) (s : State) : State :=
  let l := seamLane n s
  if l.sending.isSome || !l.lock || !islandUp 7 s then s
  else
    let room := l.unacked.length < 256
    match l.control, l.resend with
    | m :: r, _ =>
      if room then modSeamLane n (fun l => startBlock (controlBlock m) { l with control := r }) s
      else match l.resend with
        | q :: _ => resendOn n q s
        | [] => s
    | [], q :: _ => resendOn n q s
    | [], [] =>
      if room && l.inService then
        match s.seam.weftTx with
        | b :: r =>
          if l.weftReady then modSeamLane n (startBlock b) { s with seam.weftTx := r } else pumpService n s
        | [] => pumpService n s
      else s

/-- Both lanes start their next blocks. -/
def pumpSeam (s : State) : State := pumpLane 1 (pumpLane 0 s)

/-- A message waits on each lane in service as a control block (R202, R208). -/
def sendSeam (m : PairMsg) (s : State) : State :=
  let m := { m with seq := s.pair.seamPath.txSeq }
  let put (l : SeamLane) : SeamLane := if l.inService then { l with control := l.control ++ [m] } else l
  pumpSeam { s with
    seam.lane0 := put s.seam.lane0, seam.lane1 := put s.seam.lane1,
    pair.seamPath.txSeq := s.pair.seamPath.txSeq + 1 }

/-- The pair key (0x3001:02). -/
def pairKey (s : State) : List Byte := mapVal [] (ekey 0x3001 2 0 0) s.protection.keys

/-- The station key in force (0x8010:0F, R385). -/
def stationKey (n : Nat) (s : State) : List Byte :=
  if n ∈ s.stations.rekeyed then mapVal [] n s.stations.oldKeys else mapVal [] (ekey 0x8010 0x0F n 0) s.protection.keys

/-- The key of a door unit of a channel (0x7030:02). -/
def unitKey (k unit : Nat) (s : State) : List Byte := mapVal [] (ekey 0x7030 2 (64 * k + unit) 0) s.protection.keys

/-- A pair message as the plant network carries it: its 40 bytes and their CMAC under the pair key (R207). -/
def netBytes (m : PairMsg) (s : State) : List Byte := pairBytes m ++ cmac (pairKey s) (pairBytes m)

/-- A message goes to the group address as an Ethernet frame on rings A and B (R208): 28 bytes of frame around 40 + 8 bytes. -/
def sendNetwork (m : PairMsg) (s : State) : State :=
  let m := { m with seq := s.pair.netPath.txSeq }
  let f (r : Bool) : TxFrame :=
    { ring := r, dest := some (BitVec.ofNat 48 (cfgHeartbeatGroup s.nsp.inForce))
      etherType := BitVec.ofNat 16 (cfgHeartbeatEtherType s.nsp.inForce)
      priority := some (cfgHeartbeatPriority s.nsp.inForce), length := 76, payload := netBytes m s }
  let s := queueFrame (f true) (queueFrame (f false) s)
  { s with pair.netPath.txSeq := s.pair.netPath.txSeq + 1 }

/-- A message goes on both paths (R208). -/
def sendBoth (kind : Nat) (arg : PairArg) (s : State) : State :=
  let m := pairMsg kind arg s
  sendNetwork m (sendSeam m s)

/-- No weft block that a lane holds goes again (R252). -/
def dropWeft (l : SeamLane) : SeamLane :=
  { l with
    resend := l.resend.filter fun q => !l.unacked.any fun u => u.block.laneSeq == q && u.block.type == 1
    unacked := l.unacked.filter fun u => u.block.type != 1 }

/-- Every frame of this module whose transmission has not begun is discarded, launch queues, door messages and weft blocks included
(R252, R333). -/
def discardFrames (s : State) : State :=
  let port (p : Port) : Port :=
    { p with queues := mapAll [] (fun _ l => l.filter fun f => !f.own) p.queues, bank0 := [], bank1 := [] }
  let chan (c : Channel) : Channel := { c with queue := [], twinQueue := [] }
  { s with
    network.ports := mapAll {} (fun _ p => port p) s.network.ports,
    doors.channels := mapAll {} (fun _ c => chan c) s.doors.channels, seam.weftTx := [],
    seam.lane0 := dropWeft s.seam.lane0, seam.lane1 := dropWeft s.seam.lane1,
    pair.weftOpen := false, pair.boundaryDue := false }

/-- An analogue output at 3.6 mA from `now` on, with its registers at their reset values (R56, R240, Table 16-2). -/
def safeOutput (now : Nat) (a : AnalogOut) : AnalogOut :=
  { a with
    value := 0, mode := 1, commanded := 144000, applied := 144000, clamped := false, reaction := none
    appliedAt := if a.applied = 144000 then a.appliedAt else now }

/-- A safety output that is not energised from `now` on (R56, R240). -/
def safeSafety (now : Nat) (o : SafetyOut) : SafetyOut :=
  { o with command := false, applied := false, appliedAt := if o.applied then now else o.appliedAt }

/-- The local outputs take their safe states: outputs de-energised, 3.6 mA, nothing posted (R56, R240). -/
def localSafe (s : State) : State :=
  { s with
    localIo.sdo := mapAll {} (fun _ o => safeSafety s.network.time.now o) s.localIo.sdo,
    localIo.ao := mapAll {} (fun _ a => safeOutput s.network.time.now a) s.localIo.ao,
    localIo.posted := [], localIo.underProgram := false, localIo.fromKickstand := true,
    localIo.configuredRules := false }

/-- A plan request ends without its plan (R97, R99). -/
def endPlan (result : Nat) (s : State) : State :=
  { s with
    solver.planPending := none
    solver.rejoinFailed := []
    solver.planResult := result }

/-- A plan request that waits when the module gives up solving, or hands over, is refused for the mode. DESIGN CHOICE (assumption
log 133): R97 does not say what becomes of it. -/
def dropPlan (s : State) : State := if s.solver.planPending.isSome then endPlan 2 s else s

/-- The solver stops: no place runs, no phase, nothing waits for a boundary (R72). -/
def stopSolver (s : State) : State :=
  { s with
    solver.places := [], solver.rejoinTests := [], solver.rejoinFailed := [], cycle.phase := .idle, cycle.rebuild := false,
    cycle.outputQueued := false, cycle.released := false, diag.streams := [], diag.verdicts := [] }

/-- The alarm "takeover not possible" clears when the mode changes (Table 8-10). -/
def leaveModeAlarms (s : State) : State := clearAlarm .takeoverNotPossible 0 s

/-- Reaching STANDBY, ACTIVE or SOLO ends the start (0x2000:08); STOP too sets the trial start count to 0 (R454). -/
def reachMode (m : Mode) (s : State) : State :=
  let s := if (m = .standby ∨ m = .active ∨ m = .solo) ∧ s.modes.startReached = false then
    { s with modes.startReached := true
             modes.startDuration := (s.network.time.now - s.modes.startOrigin) / 1000000 } else s
  if m = .standby ∨ m = .active ∨ m = .solo ∨ m = .stop then { s with firmware.trialStarts := 0 } else s

/-- The stored copy with the older generation takes a configuration (R426). -/
def storeConfig (c : StoredCopy) (s : State) : State :=
  if s.nsp.stored0.generation ≤ s.nsp.stored1.generation then { s with nsp.stored0 := c } else { s with nsp.stored1 := c }

/-- The standby of this active module is synchronised, by what it announces (R207, R215). -/
def standbySynchronised (s : State) : Bool := s.pair.partner.mode == some 4 && s.pair.partner.sync

/-- A pair update is in states 1 to 6 (R458). -/
def updateRuns (s : State) : Bool := decide (1 ≤ s.firmware.pairState ∧ s.firmware.pairState ≤ 6)

/-- The alarm "time not synchronised": while the state is FREE, in a mode after LOAD has begun (R343). -/
def freeAlarm (s : State) : State :=
  match s.modes.mode with
  | .off | .kickstand | .selftest | .provision => s
  | _ => setAlarm .timeNotSynchronised 0 (s.network.time.state == 0) s

/-- The network island's frame that a command takes leaves the hand-over list: the first of its EtherType (R331). -/
def takeNet (etherType : Nat) (s : State) : State :=
  match s.network.handed.find? fun f => f.etherType.toNat == etherType with
  | some f => { s with network.handed := s.network.handed.erase f }
  | none => s

/-- A configuration commit ends with a result; result 4 names the offending entry (R427). -/
def endCommit (r offence : Nat) (s : State) : State :=
  { s with
    nsp.commit := .none
    nsp.commitCarried := false
    nsp.commitResult := r
    nsp.offending := if r = 4 then BitVec.ofNat 32 (256 * offence) else s.nsp.offending }

/-- The shadow is checked and written as the stored configuration (R426, STOP, FAULT, PROVISION). -/
def commitStored (s : State) : State :=
  match firstOffence s.nsp.shadow with
  | some n => endCommit 4 n s
  | none =>
    let g := s.nsp.generation + 1
    let c : StoredCopy := { generation := g, format := s.firmware.main.cfgOwn, values := s.nsp.shadow, intact := true }
    endCommit 0 0 (storeConfig c { s with nsp.generation := g })

/-- A commit held in LOAD or HANDOVER meets the mode that follows (R426): a solving one takes it up itself. -/
def meetHeld (m : Mode) (s : State) : State :=
  match s.nsp.commit, m with
  | .held, .stop | .held, .fault | .held, .provision => commitStored s
  | .held, .standby => endCommit 2 0 s
  | _, _ => s

/-- A module that takes authority is not ready for extraction any more: its open request is being prepared again, and
MODULE_PRESENT_OUT is driven (R35, R50). DESIGN CHOICE (assumption log 129): the manual does not follow a request that became
ready in LOAD or STOP into a mode that solves. -/
def unreadyOnAuthority (m : Mode) (s : State) : State :=
  if solving m && s.front.extraction == .ready then
    { s with
      front.extraction := .preparing
      front.modulePresentOut := true }
  else s

/-- A mode transition with its cause and its quilt event; the one into OFF writes none (R80, Table 3-11). -/
def setMode (m : Mode) (cause : Nat) (s : State) : State :=
  let s := unreadyOnAuthority m (leaveModeAlarms s)
  let old := s.modes.mode
  let s := { s with
    modes.mode := m, modes.previous := old, modes.transCause := cause,
    modes.enteredAt := s.network.time.now }
  let s := if m = .off then s else logEvent (.transition (modeCode old) (modeCode m) cause) s
  meetHeld m (reachMode m (if m = .load then freeAlarm s else s))

/-- A fault declaration on both paths, to be repeated twice (R208). Its requests to islands 4 and 7 go through crossing 14, and the one to
an island in reset is discarded and counted (R319, Table 12-6). -/
def declareFault (cause : Nat) (s : State) : State :=
  let request (n : Nat) (s : State) : State := if islandUp n s then s else closedWrite 14 s
  { sendBoth 2 (.fault (BitVec.ofNat 16 cause)) (request 4 (request 7 s)) with pair.faultRepeats := 2 }

/-- The cause of the first FAULT entry is latched with its detail and cycle (R253, 0xA000). -/
def latchCause (cause detail : Nat) (s : State) : State :=
  { s with
    modes.cause := cause, diag.detail := detail, diag.cycle := s.cycle.counter, diag.hours := s.quilt.seconds,
    firmware.faultInTrial := s.firmware.faultInTrial ||
      (s.firmware.trial && !(cause == 0x1051 || cause == 0x1052)) }

/-- A mode command that was pending ends refused when FAULT comes first (R70, R71); a restart that waits for its reset goes on. -/
def endedResult (s : State) : Nat :=
  if s.modes.commandResult = 1 ∧ s.modes.restartPending = false then 2 else s.modes.commandResult

/-- Entry into FAULT (R72, R240, R252, R253): nothing in OFF; a further cause in FAULT is secondary. -/
def enterFault (cause detail : Nat) (s : State) : State :=
  match s.modes.mode with
  | .off => s
  | .fault =>
    logEvent (.faultCause cause detail true) { s with diag.secondary := satU16 (s.diag.secondary + 1) }
  | m =>
    let s := latchCause cause detail s
    let s := localSafe { s with diag.latch := true }
    let s := discardFrames (stopSolver (dropPlan s))
    let s := { s with
      modes.triggers := [], modes.search.running := false, modes.autoRestartArmed := false,
      modes.stopAtEndOfLoad := false, modes.commandResult := endedResult s,
      front.extractionWaiting := false, pair.handover := none }
    let s := if solving m then declareFault cause (setMode .fault cause s) else setMode .fault cause s
    startFlush 3 (sealPartial (logEvent (.faultCause cause detail false) s))

/-- The lowest of several causes found in one supervisor step, with its detail; the others are secondary (R253). -/
def enterFaults (l : List (Nat × Nat)) (s : State) : State :=
  (sortBy (·.1) l).foldl (fun s c => enterFault c.1 c.2 s) s

/-- What a restart finds of a mirror: its base and committed records, no record without a commit mark (R117). -/
def settledMirror (m : Mirror) : Mirror := { m with writing := none, pendingRecord := none, newBase := none }

/-- What survives the reset of islands 1 to 8: MRAM, flash, the always-on island, the front, the supplies and the
clock of the model (R75, R321, R423; assumption log 5). -/
def resetIslands (s : State) : State :=
  { State.reset with
    front := { s.front with partnerSlot := none, identifySeconds := 0, extractionWaiting := false }
    supply := s.supply
    modes := { mode := s.modes.mode, previous := s.modes.previous, transCause := s.modes.transCause,
               enteredAt := s.modes.enteredAt, restart := s.modes.restart, autoRestarts := s.modes.autoRestarts,
               startOrigin := s.network.time.now, startDuration := s.modes.startDuration }
    solver := { mirror := settledMirror s.solver.mirror }
    change := { slot0 := s.change.slot0, slot1 := s.change.slot1, storedSlot := s.change.storedSlot,
                lastImage := s.change.lastImage, confirmed := s.change.confirmed,
                fallback := s.change.fallback.map settledMirror }
    pair := { highest := s.pair.highest, takeovers := s.pair.takeovers, handovers := s.pair.handovers,
              aborted := s.pair.aborted }
    diag := { latch := s.diag.latch }
    islands := { islands := mapPut {} 9 (island 9 s) [] }
    hub := { mram := s.hub.mram, flash := s.hub.flash }
    protection := { active := s.protection.active, shadow := s.protection.active, epoch := s.protection.epoch,
                    copy0 := s.protection.copy0, copy1 := s.protection.copy1,
                    lifecycle := s.protection.lifecycle, mark := s.protection.mark,
                    changes := s.protection.changes, parties := s.protection.parties, keys := s.protection.keys }
    network := { time := { now := s.network.time.now, offset := - Int.ofNat s.network.time.now } }
    localIo := { zero := s.localIo.zero, span := s.localIo.span }
    nsp := { settings := s.nsp.settings, stored0 := s.nsp.stored0, stored1 := s.nsp.stored1,
             generation := s.nsp.generation }
    firmware := { s.firmware with staging := 0, stagingResult := 0, received := [], total := 0, bySession := none,
                                  result := 0, pairState := 0, abortCause := 0 }
    quilt := { s.quilt with queue := [], accumulators := [], tapCounts := [], lastCounts := [],
                            statsFrom := s.quilt.seconds, unitsFrom := s.quilt.seconds,
                            statsInterval := setStatisticsInterval s.nsp.settings,
                            unitsInterval := setDoorUnitInterval s.nsp.settings }
    free := s.free
    pending := s.pending }

/-- Channel of a trim target, 1 to 16 (0x9030:01). -/
def trimChannel (t : Nat) : Nat := (t - 1) % 16 + 1

/-- The target is a span point (0x9030:01). -/
def trimSpan (t : Nat) : Bool := 16 < t

/-- Correction of a point (R410). -/
def correction (channel : Nat) (span : Bool) (s : State) : Int :=
  mapVal 0 channel (if span then s.localIo.span else s.localIo.zero)

/-- Arguments of an arming or disarming event: channel, point, old and new corrections (R410). -/
def trimArgs (s : State) : List Nat :=
  let c := trimChannel s.localIo.target
  let n (v : Int) : Nat := (BitVec.ofInt 20 v).toNat
  [c, if trimSpan s.localIo.target then 1 else 0, n s.localIo.armedFrom.1, n s.localIo.armedFrom.2,
    n (correction c false s), n (correction c true s)]

/-- The armed target, if any, is disarmed with its event (R410, R411). -/
def disarmTrim (s : State) : State :=
  if s.localIo.target = 0 then s else { logOther .trimDisarmed (trimArgs s) s with localIo.target := 0 }

/-- A restart begins: an armed trim target is disarmed, staging seals its intervals, every alarm is cleared with an event, and the reset
waits for crossing 12 (R74, R321, R411, R467). -/
def beginRestart (kind : RestartKind) (s : State) : State :=
  let s := clearAlarms (sealPartial (disarmTrim s))
  { s with modes.restart := kind, modes.restartPending := true, modes.search.running := false }

/-- The counter record is written to the copy not written last (R471). -/
def writeCounters (s : State) : State :=
  let (a, b) := s.quilt.counters
  let r : CounterRecord :=
    { seconds := s.quilt.seconds, powerCycles := s.quilt.powerCycles, writes := max a.writes b.writes + 1 }
  { s with quilt.counters := if a.writes ≤ b.writes then (r, b) else (a, r) }

/-- A power cycle is counted and recorded before any other record of that start (R471). -/
def countPowerCycle (s : State) : State := writeCounters { s with quilt.powerCycles := s.quilt.powerCycles + 1 }

/-- The supervisor island leaves reset and runs its self-check from mask ROM; a failure is FAULT 0x0101 (R57). -/
def enterKickstand (selfCheckOk : Bool) (cause : Nat) (s : State) : State :=
  let s := modIsland 8 (fun i => { i with state := 2, locked := true })
    (modIsland 9 (fun i => { i with state := 2, locked := true }) s)
  let s := setMode .kickstand cause s
  if selfCheckOk then s else enterFault 0x0101 0 s

end Sys2Proof.Machine
end

