-- ==== Sys2Proof/Machine/HubOps.lean ====
section
/-!
DEFINITION. DRAM channels and codewords, arbiter ports and bases, hardware locks
(10_hub_memory_and_ordering.md R260, R261, R266–R271, R279–R283; 09_diagnostics_and_safe_state.md R246).
-/
namespace Sys2Proof.Machine

/-! ### DRAM -/

/-- Channel of a DRAM byte address (R260). -/
def dramChannel (a : Nat) : Nat := a / 4096 % 2

/-- Channel offset of a DRAM byte address (R260). -/
def dramOffset (a : Nat) : Nat := a / 8192 * 4096 + a % 4096

/-- Codeword of a DRAM byte address (R260). -/
def dramCodeword (a : Nat) : Nat := dramOffset a / 20

/-- Byte address at a channel offset, the inverse of R260. -/
def dramAddress (channel offset : Nat) : Nat := offset / 4096 * 8192 + channel * 4096 + offset % 4096

/-- Byte addresses that a codeword holds (R260). -/
def codewordBytes (channel codeword : Nat) : List Nat := (rangeFrom (20 * codeword) 20).map (dramAddress channel)

/-- Channel `k` is in service (R261). -/
def channelIn (k : Nat) (s : State) : Bool := s.hub.channels.getLsbD k

/-- What DRAM held and has lost (R261, Table 9-3); `hit` tells of an address range whether a byte of it is lost: the latest input
frame of a station, the output frame of this cycle, checkpoint history entries, records of the staging queue, an image in transit. -/
def loseDram (hit : Nat → Nat → Bool) (s : State) : State :=
  let e := s.nsp.inForce
  let buffered (n : Nat) (out : Bool) : Bool := decide (2 ≤ cfgStationClass e n) && hit (Config.stationBuffer n out) 1500
  let count := s.pair.historyCount
  let kept := s.quilt.queue.filter fun r => !hit (Config.stagingPlace r.seq) r.length
  let gone := s.quilt.queue.length - kept.length
  { s with
    stations.stations := mapAll {} (fun n x => { x with
      latest := if buffered n false then none else x.latest
      outLost := x.outLost || buffered n true }) s.stations.stations
    pair.history := s.pair.history.mapIdx fun i h =>
      if hit (Config.historyPlace ((count - 1 - i) % 1048576)) 64 then { h with result := 7 } else h
    quilt.queue := kept
    quilt.lost := satU32 (s.quilt.lost + gone)
    quilt.lostDue := s.quilt.lostDue + gone
    hub.transitLost := s.hub.transitLost || hit Config.imagePlace 67108864 }

/-- A byte of an address range lies on a channel (R260). -/
def rangeOnChannel (k a n : Nat) : Bool :=
  decide (8192 ≤ n) || dramChannel a == k || dramChannel (a + n - 1) == k || decide (a / 4096 + 1 < (a + n - 1) / 4096)

/-- A channel leaves service until the next restart, with what it holds (R261). -/
def channelOut (k : Nat) (s : State) : State :=
  if channelIn k s then
    raiseAlarm .dramChannelOutOfService k (loseDram (rangeOnChannel k)
      { s with hub.channels := s.hub.channels &&& ~~~(1#2 <<< k) })
  else s

/-- An uncorrectable codeword of a channel: counted, its content lost, alarms, a rewrite with zeros; more than 256 within 1 s take
the channel out of service (R246, R261). -/
def dramError (k codeword : Nat) (s : State) : State :=
  let hour := (mapVal [] k s.diag.hourErrors).filter (fun x => decide (s.quilt.seconds < x + 3600)) ++ [s.quilt.seconds]
  let second := (mapVal [] k s.diag.secondErrors).filter (fun x => decide (s.network.time.now < x + 1000000000)) ++
    [s.network.time.now]
  let lost := codewordBytes k codeword
  let s := loseDram (fun a n => lost.any fun i => decide (a ≤ i ∧ i < a + n)) s
  let s := raiseAlarm .dramUncorrectable 0 { s with
    diag.dramUncorrectable := satU32 (s.diag.dramUncorrectable + 1)
    diag.hourErrors := mapPut [] k hour s.diag.hourErrors
    diag.secondErrors := mapPut [] k second s.diag.secondErrors
    hub.dram := lost.foldl (fun m a => mapPut 0 a 0 m) s.hub.dram }
  let s := if 16 < hour.length then raiseAlarm .dramChannelDegraded k s else s
  if 256 < second.length then channelOut k s else s

/-- DRAM_TRAINING_LOSS (R261). -/
def execDramTrainingLoss (channel : Fin 2) (s : State) : Host.Outcome State Fault Refusal := .next (channelOut channel.val s)

/-! ### Arbiters -/

/-- Kind and default base of a port (Table 10-4, Table 10-5): 0 aging, 1 fixed 14, 2 fixed 15, 3 unused. -/
def portTable (arbiter : Nat) : List (Nat × Nat) :=
  if arbiter ≤ 1 then [(2, 0), (1, 0), (0, 8), (0, 10), (0, 10), (0, 6), (0, 6), (0, 4), (0, 5), (0, 2)]
  else if arbiter = 2 then [(2, 0), (2, 0), (2, 0), (0, 6), (0, 6), (0, 7), (0, 5), (0, 2)]
  else [(2, 0), (0, 8), (0, 6), (0, 2)]

/-- Kind of a port. -/
def portKind (arbiter p : Nat) : Nat := ((portTable arbiter)[p]?.getD (3, 0)).1

/-- Default base of a port. -/
def portBase (arbiter p : Nat) : Nat := ((portTable arbiter)[p]?.getD (3, 0)).2

/-- Masters that a port serves, first one first (Table 10-4, Table 10-2). -/
def portMasters (arbiter p : Nat) : List Nat :=
  let dram : List (List Nat) := [[0x42 + arbiter], [0x71 + arbiter], [0x50], [0x60], [0x61], [0x44, 0x45, 0x46, 0x47],
    [0x48, 0x49, 0x4A, 0x4B], [0x51], [0x53, 0x54], [0x58]]
  let pool : List (List Nat) := [[0x40], [0x60], [0x61], [0x44, 0x45, 0x46, 0x47], [0x48, 0x49, 0x4A, 0x4B], [0x53], [0x55], [0x58]]
  let queue : List (List Nat) := [[0x50], [0x55], [0x51], [0x58]]
  (if arbiter ≤ 1 then dram else if arbiter = 2 then pool else queue).getD p []

/-- Longest burst of a port in lines or codewords (Table 10-4). -/
def burstLimit (arbiter p : Nat) : Nat :=
  let limits : List Nat := if arbiter ≤ 1 then [16, 2, 64, 64, 64, 64, 64, 64, 64, 16]
    else if arbiter = 2 then [6, 6, 6, 32, 32, 32, 32, 16] else [52, 52, 52, 16]
  limits.getD p 0

/-- A port as it stands after reset. -/
def portReset (arbiter p : Nat) : ArbPort := { baseShadow := portBase arbiter p, base := portBase arbiter p }

/-- Arbiter 0 to 3. -/
def arbiter (a : Nat) (s : State) : Arbiter := mapVal {} a s.hub.arbiters

/-- Arbiter changed by `f`. -/
def modArbiter (a : Nat) (f : Arbiter → Arbiter) (s : State) : State :=
  { s with hub.arbiters := mapMod {} a f s.hub.arbiters }

/-- Port of an arbiter. -/
def arbPort (a p : Nat) (x : Arbiter) : ArbPort := mapVal (portReset a p) p x.ports

/-- Port of an arbiter changed by `f`. -/
def modArbPort (a p : Nat) (f : ArbPort → ArbPort) (x : Arbiter) : Arbiter :=
  { x with ports := mapMod (portReset a p) p f x.ports }

/-- Effective level of a port (R266). -/
def portLevel (a p : Nat) (x : Arbiter) : Nat :=
  match portKind a p with
  | 2 => 15
  | 1 => 14
  | _ => min ((arbPort a p x).base + (arbPort a p x).losses) 14

/-- A commit write loads every shadow base of an arbiter (R270). Every later access comes at least a tick after the commit write and
so after the load: the model loads with the commit (assumption log 146). -/
def commitBases (a : Nat) (s : State) : State :=
  let s := modArbiter a (fun x =>
    { (rangeFrom 0 16).foldl (fun x p => modArbPort a p (fun q => { q with base := q.baseShadow }) x) x with
      commits := (x.commits + 1) % 65536 }) s
  { s with hub.commits := satU32 (s.hub.commits + 1) }

/-- Shadow bases take their values from the configuration, with a commit where one differs (R270, 0x4010:03). -/
def loadBases (e : Entries) (s : State) : State :=
  (rangeFrom 0 4).foldl (fun s a =>
    let ps := (rangeFrom 0 16).filter fun p => portKind a p == 0
    let base (p : Nat) : Nat := entryNat e 0x4010 3 (portBase a p) a p
    if ps.all fun p => (arbPort a p (arbiter a s)).baseShadow == base p then s
    else commitBases a (modArbiter a (fun x =>
      ps.foldl (fun x p => modArbPort a p (fun q => { q with baseShadow := base p }) x) x) s)) s

/-- First port after the one granted last, ascending and wrapping, of some ports (R267). -/
def nextPort (last : Nat) (ps : List Nat) : Option Nat :=
  ((rangeFrom (last + 1) 16).map (· % 16)).find? fun p => decide (p ∈ ps)

/-- A request joins its port behind the requests of the port's other masters: each is served in turn, one burst each (R266). A
master of another port, and one that waits there already, changes nothing. -/
def joinPort (a p : Nat) (r : ArbRequest) (s : State) : State :=
  if portKind a p = 3 ∨ r.master ∉ portMasters a p then s
  else modArbiter a (modArbPort a p (fun q =>
    if q.requests.any (·.master == r.master) then q else { q with requests := q.requests ++ [r] })) s

/-- A round: the first request of `win` is granted from tick `t`, cut to the burst limit; the aging losers of `seen` age, and the
winner's losses are forgotten (R267, R269). -/
def grantRound (a win t : Nat) (seen : List Nat) (s : State) : State :=
  match (arbPort a win (arbiter a s)).requests with
  | [] => s
  | r :: rest =>
    let wait := t - r.tick
    let loser (x : Arbiter) (p : Nat) : Arbiter :=
      if p = win ∨ portKind a p ≠ 0 then x
      else modArbPort a p (fun q => { q with losses := min (q.losses + 1) 14 }) x
    let lost (x : Arbiter) (p : Nat) : Arbiter :=
      if p = win then x else modArbPort a p (fun q => { q with lost := satU32 (q.lost + 1) }) x
    modArbiter a (fun x =>
      let x := seen.foldl lost (seen.foldl loser x)
      let x := modArbPort a win (fun q => { q with
        losses := 0
        requests := rest
        grants := satU32 (q.grants + 1)
        longestWait := max q.longestWait wait }) x
      { x with
        grant := some { port := win, start := t, request := r, burst := min r.lines (burstLimit a win) }
        lastGranted := win
        waitPeak := if portKind a win = 2 then max x.waitPeak wait else x.waitPeak }) s

/-- The grant in force ends with tick `t`: what its burst left is requested again as a new burst (R269). -/
def endGrant (a t : Nat) (s : State) : State :=
  match (arbiter a s).grant with
  | none => s
  | some g =>
    let s := modArbiter a (fun x => { x with grant := none }) s
    if g.burst < g.request.lines then
      joinPort a g.port { g.request with lines := g.request.lines - g.burst, tick := t } s
    else s

/-! ### DMA chains -/

/-- A chain head register is written (R277): a chain starts with its first descriptor; nothing while one runs. Engines 0 to 3 run at
PRIV (R286). -/
def armChain (e head : Nat) (priv : Bool) (session : Option Nat) (s : State) : State :=
  { s with hub.dma := mapMod {} e (fun x : Dma =>
      if x.running then x
      else { x with
        head := head
        current := head
        running := true
        starting := true
        priv := priv || decide (e < 4)
        session := session
        behind := []
        ending := none
        waitingLock := false
        lockHeld := none
        posted := 0
        moved := 0 }) s.hub.dma }

/-! ### Locks -/

/-- Lock `k`. -/
def lockAt (k : Nat) (s : State) : Lock := mapVal {} k s.hub.locks

/-- Lock changed by `f`. -/
def modLock (k : Nat) (f : Lock → Lock) (s : State) : State := { s with hub.locks := mapMod {} k f s.hub.locks }

/-- The master may name the lock (R279): sessions and general DMA engines may not name 0 to 63. -/
def mayName (m k : Nat) : Bool := !(decide (k < 64) && (decide (0x44 ≤ m ∧ m ≤ 0x4B) || decide (0x80 ≤ m ∧ m ≤ 0x8F)))

/-- The master holds a lock numbered `k` or above (R280). -/
def holdsAbove (m k : Nat) (s : State) : Bool := s.hub.locks.any fun p => decide (k ≤ p.1) && p.2.owner == some m

/-- The master waits for some lock (R280). -/
def waitsForLock (m : Nat) (s : State) : Bool := s.hub.locks.any fun p => decide (m ∈ p.2.queue)

/-- NSP status of a session's acquisition by its result (R442, Table 10-15, Table 17-8). -/
def acquireStatus (r : Nat) : Nat := if r = 1 ∨ r = 2 then 0x00 else if r = 0x12 then 0x11 else 0x0D

/-- Result of an acquisition: kept per master; a session reads it in 0x4030:04, and a DMA engine goes on with a grant
(R277, R280). -/
def lockResult (m r : Nat) (s : State) : State :=
  let s := { s with
    hub.lockResults := mapPut 0 m r s.hub.lockResults
    hub.refusals := if r = 0x11 ∨ r = 0x13 then satU32 (s.hub.refusals + 1) else s.hub.refusals }
  if 0x80 ≤ m ∧ m ≤ 0x8F then
    let s := modSession (m - 0x80) (fun x => { x with acquire := r }) s
    if r = 0 then s else completeReply (m - 0x80) 0x4030 0x03 (acquireStatus r) s
  else if 0x40 ≤ m ∧ m ≤ 0x4B then
    { s with hub.dma := mapMod {} (m - 0x40) (fun d =>
        if d.waitingLock ∧ (r = 1 ∨ r = 2) then { d with waitingLock := false, lockHeld := some (r == 2) } else d) s.hub.dma }
  else s

/-- A free lock is granted (R280 step 3). -/
def grantLock (m k : Nat) (s : State) : State :=
  let r := if (lockAt k s).abandoned then 2 else 1
  lockResult m r (modLock k (fun l => { l with owner := some m, abandoned := false }) s)

/-- An acquisition is decided (R280): a waiting one that meets a held lock joins its queue and has no result yet. -/
def acquireLock (m k : Nat) (wait : Bool) (s : State) : State :=
  if waitsForLock m s then s
  else if mayName m k = false then lockResult m 0x13 s
  else if holdsAbove m k s then lockResult m 0x11 s
  else if (lockAt k s).owner.isNone then grantLock m k s
  else if wait then lockResult m 0 (modLock k (fun l => { l with queue := l.queue ++ [m] }) s)
  else lockResult m 0x10 s

/-- A lock that has become free goes to the head of its queue (R280 step 5). -/
def passLock (k : Nat) (s : State) : State :=
  match (lockAt k s).queue with
  | m :: r => grantLock m k (modLock k (fun l => { l with queue := r }) s)
  | [] => s

/-- Writes that a master has issued and that are not complete: the lines of a DMA engine's write buffer, and a write that waits for
the hub slot (R276). -/
def writesOutstanding (m : Nat) (s : State) : Bool :=
  (decide (0x40 ≤ m ∧ m ≤ 0x4B) && !(mapVal {} (m - 0x40) s.hub.dma : Dma).buffer.isEmpty) ||
    s.hub.waiting.any fun w => w.1.master == m && w.1.write

/-- A lock becomes free by its release (R281). -/
def freeLock (k : Nat) (s : State) : State := passLock k (modLock k (fun l => { l with owner := none, releasing := false }) s)

/-- A release by the owner, which completes after the owner's earlier writes (R276); any other master's is refused and counted
(R281). -/
def releaseLock (m k : Nat) (s : State) : State :=
  if (lockAt k s).owner = some m then
    if writesOutstanding m s then modLock k (fun l => { l with releasing := true }) s else freeLock k s
  else { s with hub.refusals := satU32 (s.hub.refusals + 1) }

/-- The releases of a master whose writes are complete take effect (R276). -/
def settleReleases (m : Nat) (s : State) : State :=
  if writesOutstanding m s then s
  else
    ((s.hub.locks.filter fun p => p.2.owner == some m && p.2.releasing).map (·.1)).foldl (fun s k => freeLock k s) s

/-- The owner was reset, has faulted or its session has ended: its locks are released with the mark set, and its waiting
acquisition is gone (R282). -/
def abandonLocks (m : Nat) (s : State) : State :=
  let held := (s.hub.locks.filter fun p => p.2.owner == some m).map (·.1)
  let s := { s with hub.locks := mapAll {} (fun _ (l : Lock) => { l with queue := l.queue.filter (· != m) }) s.hub.locks }
  held.foldl (fun s k =>
    let s := logOther .lockAbandoned [k, m] { s with hub.abandonments := satU32 (s.hub.abandonments + 1) }
    passLock k (modLock k (fun l => { l with owner := none, abandoned := true, releasing := false }) s)) s

/-- Every lock is free with its mark clear on a module that becomes active by takeover or HANDOVER (R283). -/
def freeLocks (s : State) : State := { s with hub.locks := [] }

end Sys2Proof.Machine
end

