-- ==== Sys2Proof/Machine/LineCode.lean ====
section
/-!
DEFINITION. The line code of the data store, the program store, the SRAM and the DRAM, and what a read of a line in error does
(09_diagnostics_and_safe_state.md R244–R247). Stores are numbered 0 data store, 1 program store, 2 SRAM, 3 and 4 DRAM channels.
-/
namespace Sys2Proof.Machine

/-! ### The Reed–Solomon code (R244) -/

/-- A byte times α in GF(2^8) with x^8 + x^4 + x^3 + x^2 + 1 (R244). -/
def gfDouble (b : Byte) : Byte := (b <<< 1) ^^^ (if b.getLsbD 7 then 0x1D else 0)

/-- The product in GF(2^8), over the bits of the second factor from the lowest. -/
def gfMul (a b : Byte) : Byte :=
  ((List.range 8).foldl (fun p i => (if b.getLsbD i then p.1 ^^^ p.2 else p.1, gfDouble p.2)) ((0 : Byte), a)).1

/-- α to a power. -/
def gfPow : Nat → Byte
  | 0 => 1
  | n + 1 => gfDouble (gfPow n)

/-- Coefficients of the generator with roots α^0 to α^3 below its leading one, highest first (R244). -/
def lineGenerator : List Byte := [15, 54, 120, 64]

/-- The four check bytes over the three virtual bytes of the line address and the 20 data bytes: the remainder by the generator
(R244). DEDUCED: the most significant address byte comes first (assumption log 8). -/
def lineCheck (address : Nat) (data : List Byte) : List Byte :=
  ((leBytes 3 address).reverse ++ data).foldl (fun r b =>
    match r with
    | [] => []
    | r0 :: rest =>
      let f := b ^^^ r0
      (rest ++ [0]).zipWith (fun x g => x ^^^ gfMul f g) lineGenerator) [0, 0, 0, 0]

/-- Syndromes of a line read at an address: the received word at the four roots. -/
def lineSyndromes (address : Nat) (line : List Byte) : List Byte :=
  (List.range 4).map fun k =>
    ((leBytes 3 address).reverse ++ line).foldl (fun s b => gfMul s (gfPow k) ^^^ b) 0

/-- A line stands as a codeword of its address: no symbol is in error. -/
def lineIntact (address : Nat) (line : List Byte) : Bool := (lineSyndromes address line).all (· == 0)

/-! ### Lines in error -/

/-- A store's scrubber. -/
def scrubber (k : Nat) (s : State) : Scrubber :=
  match k with
  | 0 => s.diag.scrubData | 1 => s.diag.scrubProgram | 2 => s.diag.scrubSram | 3 => s.diag.scrubDram0 | _ => s.diag.scrubDram1

/-- A scrubber changed by `f`. -/
def modScrubber (k : Nat) (f : Scrubber → Scrubber) (s : State) : State :=
  match k with
  | 0 => { s with diag.scrubData := f s.diag.scrubData }
  | 1 => { s with diag.scrubProgram := f s.diag.scrubProgram }
  | 2 => { s with diag.scrubSram := f s.diag.scrubSram }
  | 3 => { s with diag.scrubDram0 := f s.diag.scrubDram0 }
  | _ => { s with diag.scrubDram1 := f s.diag.scrubDram1 }

/-- A correction of a store is counted (R245, 0xA001). -/
def countCorrection (k : Nat) (s : State) : State :=
  match k with
  | 0 => { s with diag.dataCorrections := satU32 (s.diag.dataCorrections + 1) }
  | 1 => { s with diag.programCorrections := satU32 (s.diag.programCorrections + 1) }
  | 2 => { s with diag.sramCorrections := satU32 (s.diag.sramCorrections + 1) }
  | _ => { s with diag.dramCorrections := satU32 (s.diag.dramCorrections + 1) }

/-- Key of a line of a store among the lines in error. -/
def lineKey (k line : Nat) : Nat := 268435456 * k + line

/-- Symbols in error of a stored line (R245). -/
def upsetOf (k line : Nat) (s : State) : Nat := mapVal 0 (lineKey k line) s.diag.upsets

/-- A stored line has some symbols in error; 0 after it has been rewritten. -/
def setUpset (k line symbols : Nat) (s : State) : State :=
  { s with diag.upsets := mapPut 0 (lineKey k line) symbols s.diag.upsets }

/-- What reaches a stored line from outside: `symbols` of it are now in error; 0 leaves it as it is. -/
def meetUpset (k line symbols : Nat) (s : State) : State := if symbols = 0 then s else setUpset k line symbols s

/-- An uncorrectable line of a store (Table 9-3); a DRAM codeword is rewritten with zeros. -/
def lineLost (k line : Nat) (s : State) : State :=
  match k with
  | 0 => enterFault 0x1103 line s
  | 1 => enterFault 0x1104 (line / 262144 * 2 ^ 24 + line % 262144) s
  | 2 => enterFault 0x1107 line s
  | _ => dramError (k - 3) line (setUpset k line 0 s)

/-- Every read of a line is decoded (R245, R246): nothing in error; up to two symbols are corrected, counted, and the line is queued
for its rewrite; more are lost. -/
def decodeLine (k line : Nat) (s : State) : State :=
  let n := upsetOf k line s
  if n = 0 then s
  else if n ≤ 2 then
    countCorrection k (modScrubber k (fun x => { x with
      rewrites := if line ∈ x.rewrites then x.rewrites else x.rewrites ++ [line] }) s)
  else lineLost k line s

/-- Several lines of a store are read, in order. -/
def decodeLines (k : Nat) (lines : List Nat) (s : State) : State := lines.foldl (fun s n => decodeLine k n s) s

/-- A line is written back whole after its read-modify-write (R106, R260): its symbols stand right again. -/
def rewriteLine (k line : Nat) (s : State) : State := if upsetOf k line s = 0 then s else setUpset k line 0 s

end Sys2Proof.Machine
end

