-- ==== Sys2Proof/Machine/Local.lean ====
section
/-!
DEFINITION. The local field I/O front end: channels, applied values, the words that the program sees, acknowledgements
(16_local_io.md R403–R418).
-/
namespace Sys2Proof.Machine

/-- Analogue input `n`, 1 to 8. -/
def analogIn (n : Nat) (s : State) : AnalogIn := mapVal {} n s.localIo.ai

/-- Analogue output `n`, 1 to 8. -/
def analogOut (n : Nat) (s : State) : AnalogOut := mapVal {} n s.localIo.ao

/-- Safety input `n`, 1 to 8. -/
def safetyIn (n : Nat) (s : State) : SafetyIn := mapVal {} n s.localIo.sdi

/-- Safety output `n`, 1 to 4. -/
def safetyOut (n : Nat) (s : State) : SafetyOut := mapVal {} n s.localIo.sdo

/-- Analogue input `n` changed by `f`. -/
def modAi (n : Nat) (f : AnalogIn → AnalogIn) (s : State) : State :=
  { s with localIo.ai := mapMod {} n f s.localIo.ai }

/-- Analogue output `n` changed by `f`. -/
def modAo (n : Nat) (f : AnalogOut → AnalogOut) (s : State) : State :=
  { s with localIo.ao := mapMod {} n f s.localIo.ao }

/-- Safety input `n` changed by `f`. -/
def modSdi (n : Nat) (f : SafetyIn → SafetyIn) (s : State) : State :=
  { s with localIo.sdi := mapMod {} n f s.localIo.sdi }

/-- Safety output `n` changed by `f`. -/
def modSdo (n : Nat) (f : SafetyOut → SafetyOut) (s : State) : State :=
  { s with localIo.sdo := mapMod {} n f s.localIo.sdo }

/-- A corrected current: x + Z + (x − 160,000) × (S − Z) / 640,000, truncated toward zero (R410). Channels 1–8 are
inputs, 9–16 outputs. -/
def corrected (channel : Nat) (x : Int) (s : State) : Int :=
  let z := mapVal 0 channel s.localIo.zero
  let sp := mapVal 0 channel s.localIo.span
  x + z + ((x - 160000) * (sp - z)).tdiv 640000

/-- The commanded current of MODE 0 before its limits (R408). -/
def driveCurrent (n : Nat) (v : Word) (s : State) : Int :=
  let u := cfgAoFormat s.nsp.inForce n == 1
  let lo := wordVal u (BitVec.ofNat 20 (cfgAoLow s.nsp.inForce n))
  let hi := wordVal u (BitVec.ofNat 20 (cfgAoHigh s.nsp.inForce n))
  160000 + ((wordVal u v - lo) * 640000).tdiv (hi - lo)

/-- Commanded current C of a channel and whether a limit acts (R408, Table 16-2, Table 9-5). -/
def commandedCurrent (n : Nat) (a : AnalogOut) (s : State) : Nat × Bool :=
  if a.mismatch then (144000, false)
  else if a.mode = 0 then
    let c := driveCurrent n a.value s
    if c < 152000 then (152000, true) else if 820000 < c then (820000, true) else (c.toNat, false)
  else if a.mode = 2 then (860000, false)
  else (144000, false)

/-- The current a channel applies: at most 3.6 mA under KICKSTAND control or with the latch set, a reaction current, or
the corrected command (R56, R240, R408, R409). -/
def applyAnalog (n : Nat) (a : AnalogOut) (s : State) : AnalogOut :=
  let c := commandedCurrent n a s
  let v : Int :=
    if s.diag.latch || !s.localIo.underProgram then 144000
    else match a.reaction with
      | some r => Int.ofNat r
      | none => corrected (n + 8) (Int.ofNat c.1) s
  { a with
    commanded := c.1
    clamped := c.2
    applied := v
    appliedAt := if v = a.applied then a.appliedAt else s.network.time.now }

/-- Output `n` applies what its registers command. -/
def refreshAo (n : Nat) (s : State) : State := modAo n (fun a => applyAnalog n a s) s

/-- The value a safety output applies: its command, unless a fault code, the latch or KICKSTAND control holds it off
(R56, R240, R416). -/
def applySafety (o : SafetyOut) (s : State) : SafetyOut :=
  let v := o.command && o.fault == 0 && !s.diag.latch && s.localIo.underProgram
  { o with
    applied := v
    appliedAt := if v = o.applied then o.appliedAt else s.network.time.now }

/-- Safety output `n` applies what is commanded. -/
def refreshSdo (n : Nat) (s : State) : State := modSdo n (fun o => applySafety o s) s

/-- Every local output applies what is commanded. -/
def refreshOutputs (s : State) : State :=
  (rangeFrom 1 4).foldl (fun s n => refreshSdo n s) ((rangeFrom 1 8).foldl (fun s n => refreshAo n s) s)

/-- A command for a safety output; one that would energise it takes fault code 2 while the SDO_24V supply is low (R416). -/
def commandSdo (on supplyLow : Bool) (o : SafetyOut) : SafetyOut :=
  { o with
    command := on
    fault := if on && supplyLow && o.fault == 0 then 2 else o.fault }

/-- The front end latches an output word into its channel's register (R404, Table 16-1). -/
def latchWord (a : Nat) (v : Word) (s : State) : State :=
  if s.localIo.underProgram then
    if 0x0F040 ≤ a ∧ a ≤ 0x0F047 then
      let n := a - 0x0F03F
      refreshAo n (modAo n (fun x => { x with value := v }) s)
    else if 0x0F048 ≤ a ∧ a ≤ 0x0F04F then
      let n := a - 0x0F047
      refreshAo n (modAo n (fun x => { x with mode := v.setWidth 2 }) s)
    else if a = 0x0F050 then
      (rangeFrom 1 4).foldl (fun s n => refreshSdo n (modSdo n (commandSdo (v.getLsbD (n - 1)) s.localIo.supplyLow) s)) s
    else s
  else s

/-- Scaled input value (R406). -/
def scaledInput (n : Nat) (i : Int) (s : State) : Word :=
  let u := cfgAiFormat s.nsp.inForce n == 1
  let lo := wordVal u (BitVec.ofNat 20 (cfgAiLow s.nsp.inForce n))
  let hi := wordVal u (BitVec.ofNat 20 (cfgAiHigh s.nsp.inForce n))
  (narrow u (lo + ((i - 160000) * (hi - lo)).tdiv 640000)).1

/-- Sum of some currents divided by their number, truncated; 0 of none. DEDUCED: R405 states no rounding
(assumption log 17). -/
def meanOf (l : List Int) : Int := l.sum.tdiv (Int.ofNat l.length)

/-- An analogue input classed by its corrected current (Table 16-4). -/
def classInput (n : Nat) (a : AnalogIn) (s : State) : AnalogIn :=
  let i := a.current
  let held := match a.lastGood with | some w => w | none => 0
  let base := { a with failHigh := false, failLow := false, overTop := false, under := false }
  if 152000 ≤ i ∧ i ≤ 820000 then
    let v := scaledInput n (Int.ofNat i) s
    { base with value := v, lastGood := some v, quality := 3, failed := false }
  else if 144000 ≤ i ∧ i ≤ 840000 then
    { base with value := held, quality := 2, failed := false, under := decide (i < 152000), overTop := decide (820000 < i) }
  else
    let b := { base with failLow := decide (i < 144000), failHigh := decide (840000 < i) }
    if a.failed || cfgAiDelay s.nsp.inForce n == 0 then
      if cfgAiFaultMode s.nsp.inForce n = 1 then
        { b with value := BitVec.ofNat 20 (cfgAiSubstitute s.nsp.inForce n), quality := 1, failed := true }
      else { b with quality := 0, failed := true }
    else { b with value := held, quality := 2 }

/-- A set of sampled raw currents of one input (R405): the mean of the last four after correction. -/
def sampleAnalog (n raw : Nat) (a : AnalogIn) (s : State) : AnalogIn :=
  let l := raw :: a.samples.take 3
  let m := meanOf (l.map fun x => corrected n (Int.ofNat x) s)
  classInput n { a with samples := l, current := min 1048575 m.toNat } s

/-- Quality of an analogue output (Table 16-5). -/
def outputQuality (n : Nat) (a : AnalogOut) (s : State) : BitVec 2 :=
  if !s.localIo.underProgram || a.mismatch || a.openLoop ||
      (a.shortfall && cfgAoReaction s.nsp.inForce n == 0) then 0
  else if a.reaction.isSome || a.mode = 1 || a.mode = 2 || a.mode = 3 || a.clamped then 1
  else 3

/-- The safety input has a source (R413): configured, or observed under KICKSTAND control (R418). 0 SDI_TP1, 1 SDI_TP2,
2 none. -/
def inputSource (n : Nat) (s : State) : Nat :=
  if s.localIo.configuredRules then cfgSdiSource s.nsp.inForce n
  else
    let seen := (safetyIn n s).seen
    if seen.getLsbD 0 then 0 else if seen.getLsbD 1 then 1 else 2

/-- Pair mode (R414); every pair is equivalent under KICKSTAND control (R418). Pairs 0 to 3. -/
def pairMode (pair : Nat) (s : State) : Nat :=
  if s.localIo.configuredRules then cfgPairMode s.nsp.inForce pair else 1

/-- The SDO_24V supply is low and the input has a source: it reads 0 and BAD without a fault code (R414). -/
def supplyBlinds (n : Nat) (s : State) : Bool := s.localIo.supplyLow && inputSource n s != 2

/-- STATE as the program reads it (R414, R415, Table 16-3). -/
def sdiReads (n : Nat) (s : State) : Bool :=
  let i := safetyIn n s
  i.state && i.fault == 0 && !supplyBlinds n s

/-- AI_STATUS word (Table 16-2). -/
def aiStatus (n : Nat) (s : State) : Word :=
  let a := analogIn n s
  let t := s.localIo.target
  BitVec.ofNat 20 (a.quality.toNat * 2 ^ 18 + a.failHigh.toNat * 2 ^ 17 + a.failLow.toNat * 2 ^ 16 +
    a.overTop.toNat * 2 ^ 15 + a.under.toNat * 2 ^ 14 + (decide (t ≠ 0 ∧ (t - 1) % 16 + 1 = n)).toNat * 2 ^ 13)

/-- AO_STATUS word (Table 16-2). -/
def aoStatus (n : Nat) (s : State) : Word :=
  let a := analogOut n s
  let t := s.localIo.target
  BitVec.ofNat 20 ((outputQuality n a s).toNat * 2 ^ 18 + a.shortfall.toNat * 2 ^ 17 + a.openLoop.toNat * 2 ^ 16 +
    a.mismatch.toNat * 2 ^ 15 + a.reaction.isSome.toNat * 2 ^ 14 + a.clamped.toNat * 2 ^ 13 +
    (decide (t ≠ 0 ∧ (t - 1) % 16 + 1 = n + 8)).toNat * 2 ^ 12)

/-- SDI_STATUS word (Table 16-3). -/
def sdiStatus (n : Nat) (s : State) : Word :=
  let i := safetyIn n s
  let good := i.fault == 0 && !supplyBlinds n s
  BitVec.ofNat 20 ((if good then 3 else 0) * 2 ^ 18 + (sdiReads n s).toNat * 2 ^ 17 + i.fault * 2 ^ 14 +
    i.seen.toNat * 2 ^ 12)

/-- SDO_STATUS word (Table 16-3). -/
def sdoStatus (n : Nat) (s : State) : Word :=
  let o := safetyOut n s
  let good := o.fault == 0 && s.localIo.underProgram
  BitVec.ofNat 20 ((if good then 3 else 0) * 2 ^ 18 + o.applied.toNat * 2 ^ 17 + o.readback.toNat * 2 ^ 16 +
    o.fault * 2 ^ 14)

/-- LOCAL_STATUS word (Table 16-3). -/
def localStatus (s : State) : Word :=
  BitVec.ofNat 20 (s.localIo.fromKickstand.toNat * 2 ^ 19 + s.front.coverOpen.toNat * 2 ^ 18 +
    s.localIo.supplyLow.toNat * 2 ^ 17 + min 511 (s.localIo.supply / 100) * 2 ^ 8)

/-- Present value of an input word at the front end; reserved words read as zero (R403, Table 16-1). -/
def localWord (a : Nat) (s : State) : Word :=
  let k := a - 0x0F000
  if a < 0x0F000 then 0
  else if k < 8 then (analogIn (k + 1) s).value
  else if k < 16 then aiStatus (k - 7) s
  else if k < 24 then BitVec.ofNat 20 (analogIn (k - 15) s).current
  else if k < 32 then BitVec.ofNat 20 (analogOut (k - 23) s).readback
  else if k < 40 then aoStatus (k - 31) s
  else if k < 48 then sdiStatus (k - 39) s
  else if k < 52 then sdoStatus (k - 47) s
  else if k = 52 then localStatus s
  else 0

/-- The front end reports the channel of an input word valid: its QUALITY is GOOD; LOCAL_STATUS always (R404). -/
def localValid (a : Nat) (s : State) : Bool :=
  let k := a - 0x0F000
  if k < 24 then (analogIn (k % 8 + 1) s).quality == 3
  else if k < 40 then outputQuality (k % 8 + 1) (analogOut (k % 8 + 1) s) s == 3
  else if k < 48 then
    let n := k - 39
    (safetyIn n s).fault == 0 && !supplyBlinds n s
  else if k < 52 then (safetyOut (k - 47) s).fault == 0 && s.localIo.underProgram
  else true

/-- A safety input fault is recorded: code, count, alarm and event (R413–R415). -/
def faultInput (n code : Nat) (s : State) : State :=
  let s := modSdi n (fun i => { i with
    fault := code
    causeCode := code
    state := false
    filtering := false
    causeAbsent := false
    faults := satU32 (i.faults + 1) }) s
  logOther .localInputFault [n, code] (raiseAlarm .localInputFault n s)

/-- A safety input shows the cause `code`: a fault of its own when it has none, else the cause stands (R415). -/
def showCause (n code : Nat) (s : State) : State :=
  let i := safetyIn n s
  if i.fault = 0 then faultInput n code s
  else if i.causeCode = code then modSdi n (fun i => { i with causeAbsent := false }) s else s

/-- The STATE values of a pair break its mode (R414). -/
def pairBroken (pair : Nat) (s : State) : Bool :=
  let a := safetyIn (2 * pair + 1) s
  let b := safetyIn (2 * pair + 2) s
  let m := pairMode pair s
  if a.fault ≠ 0 ∨ b.fault ≠ 0 ∨ s.localIo.supplyLow then false
  else if m = 1 then a.state != b.state
  else if m = 2 then a.state == b.state
  else false

/-- Pairs in discrepancy, from the present STATE values (R414). -/
def refreshPairs (s : State) : State :=
  { s with localIo.discrepant := (List.range 4).filter fun p => pairBroken p s }

/-- An acknowledgement edge of one channel; bits as LOCAL_ACK numbers them (R409, R415–R417, Table 9-5). -/
def acknowledge (bit : Nat) (s : State) : State :=
  if bit < 8 then
    let n := bit + 1
    let i := safetyIn n s
    if i.fault = 4 ∧ i.causeAbsent then
      clearAlarm .localInputFault n (modSdi n (fun i => { i with
        fault := 0
        causeCode := 0
        missed := 0
        causeAbsent := false }) s)
    else s
  else if bit < 12 then
    let n := bit - 7
    let o := safetyOut n s
    if o.fault = 1 ∨ o.fault = 3 then
      clearAlarm .safetyOutputFailedOff n (refreshSdo n (modSdo n (fun o => { o with fault := 0, mismatchRun := 0 }) s))
    else s
  else
    let n := bit - 11
    refreshAo n (modAo n (fun a => { a with reaction := none, mismatch := false, mismatchRun := 0 }) s)

/-- The acknowledgement edges of an output phase: bits that are 1 and were 0 in the previous one (R417). -/
def takeAcks (v : Word) (s : State) : State :=
  let edges := (List.range 20).filter fun b => v.getLsbD b && !s.localIo.ackPrevious.getLsbD b
  { edges.foldl (fun s b => acknowledge b s) s with localIo.ackPrevious := v }

/-- From the XCH phase of the second cycle under program control the configured rules apply (R418). -/
def applyConfiguredRules (s : State) : State :=
  let s := { s with localIo.configuredRules := true }
  let drop (s : State) (p : Nat) : State :=
    if cfgPairMode s.nsp.inForce p = 1 then s
    else
      let clear (i : SafetyIn) : SafetyIn :=
        if i.causeCode = 3 ∧ i.fault ≠ 0 then { i with fault := 0, causeCode := 0, causeAbsent := false } else i
      let one (s : State) (n : Nat) : State :=
        if (safetyIn n s).causeCode = 3 then clearAlarm .localInputFault n (modSdi n clear s) else s
      one (one s (2 * p + 1)) (2 * p + 2)
  let s := (List.range 4).foldl drop s
  let check (s : State) (n : Nat) : State :=
    let i := safetyIn n s
    let want : BitVec 2 := match cfgSdiSource s.nsp.inForce n with | 0 => 1 | 1 => 2 | _ => 0
    if i.level && i.fault == 0 && i.seen != want then faultInput n 2 s else s
  refreshPairs ((rangeFrom 1 8).foldl check s)

/-- Control of the local outputs passes to the program (R27, R55, R418). -/
def takeProgramControl (s : State) : State :=
  if s.localIo.underProgram then s
  else refreshOutputs { s with
    localIo.underProgram := true
    localIo.fromKickstand := true
    localIo.configuredRules := false }

/-- Control of the local outputs passes back to the KICKSTAND function (R55, R56). -/
def releaseProgramControl (s : State) : State := refreshOutputs (localSafe s)

/-- One safety output held against its readback (R250, Table 9-5): the FAULT cause it leads to, or none. -/
def compareSdo (n : Nat) (s : State) : State × List (Nat × Nat) :=
  let o := safetyOut n s
  if s.network.time.now < o.appliedAt + 1000000 then (s, [])
  else if o.applied = o.readback then (modSdo n (fun o => { o with mismatchRun := 0 }) s, [])
  else
    if o.mismatchRun = 0 then (modSdo n (fun o => { o with mismatchRun := 1 }) s, []) else
    let s := { s with diag.mismatches := satU32 (s.diag.mismatches + 1) }
    if o.applied then
      let s := modSdo n (fun o => { o with fault := 1, faults := satU32 (o.faults + 1), mismatchRun := 0 }) s
      (raiseAlarm .safetyOutputFailedOff n (refreshSdo n s), [])
    else (s, [(0x1401, n)])

/-- One analogue output held against its readback (R250, R409, Table 9-5). -/
def compareAo (n : Nat) (s : State) : State × List (Nat × Nat) :=
  let a := analogOut n s
  if s.network.time.now < a.appliedAt + 1000000 then (s, [])
  else
    let high := s.diag.latch && decide (144000 < a.readback)
    let off := decide (8000 < (Int.ofNat a.readback - a.applied).natAbs) && !a.shortfall
    if high || off then
      if a.mismatchRun = 0 then (modAo n (fun a => { a with mismatchRun := 1 }) s, []) else
      let s := { s with diag.mismatches := satU32 (s.diag.mismatches + 1) }
      if high then (s, [(0x1402, n)])
      else (refreshAo n (modAo n (fun a => { a with mismatch := true, mismatchRun := 0 }) s), [])
    else (modAo n (fun a => { a with mismatchRun := 0 }) s, [])

/-- The readback comparison of all local outputs (R250); several causes are taken lowest first (R253). -/
def compareReadback (s : State) : State :=
  let step (f : Nat → State → State × List (Nat × Nat)) (p : State × List (Nat × Nat)) (n : Nat) :
      State × List (Nat × Nat) :=
    let r := f n p.1
    (r.1, p.2 ++ r.2)
  let p := (rangeFrom 1 4).foldl (step compareSdo) (s, [])
  let p := (rangeFrom 1 8).foldl (step compareAo) p
  enterFaults p.2 p.1

end Sys2Proof.Machine
end

