-- ==== Sys2Proof/Machine/Operands.lean ====
section
/-!
DEFINITION. What every solver instruction is made of: the place it runs at, operand addresses and indexing, reads and
writes of the data store, costs, signatures and windows, breaks and solo faults (04_logic_solver.md R83–R107,
05_instruction_set.md R125–R129, 09_diagnostics_and_safe_state.md R236–R238, 11_protection_and_lifecycle.md R288).
-/
namespace Sys2Proof.Machine

/-- The lane state of place `p`: 0–15 joined tandem, 16 + n solo n. -/
def laneAt (p : Nat) (s : State) : Lane := mapVal {} p s.solver.places

/-- Place `p` changed by `f`. -/
def modLane (p : Nat) (f : Lane → Lane) (s : State) : State :=
  { s with solver.places := mapMod {} p f s.solver.places }

/-- Place `p` runs a partition in the solve phase (R93, R151). -/
def laneRuns (p : Nat) (s : State) : Bool := s.cycle.phase == .solve && (laneAt p s).running.isSome

/-- The place is a joined tandem (0x2011:04). -/
def isTandem (p : Nat) : Bool := p < 16

/-- IX: the index of the innermost open LOOP, 0 outside every LOOP (R128, R139). -/
def indexOf (l : Lane) : Nat := match l.loops with | e :: _ => e.index | [] => 0

/-- Effective word address of a word operand; it wraps in 20 bits (R128). -/
def wordAddress (o : WordOperand) (l : Lane) : Word :=
  match o.stride with
  | none => o.word
  | some k => o.word + BitVec.ofNat 20 (indexOf l * 2 ^ k.val)

/-- Effective word address and bit index of a bit operand (R128): stride code 7 is the bit walk. -/
def bitAddress (o : BitOperand) (l : Lane) : Word × Nat :=
  match o.stride with
  | none => (o.word, o.bit.val)
  | some k =>
    if k.val = 7 then
      let q := o.bit.val + indexOf l
      (o.word + BitVec.ofNat 20 (q / 20), q % 20)
    else (o.word + BitVec.ofNat 20 (indexOf l * 2 ^ k.val), o.bit.val)

/-- An indexed operand adds 1 solver cycle (R129). -/
def surcharge {α : Type} (stride : Option α) : Nat := if stride.isSome then 1 else 0

/-- Value of a data store word (R105). -/
def storeAt (a : Nat) (s : State) : Word := mapVal 0 a s.solver.store

/-- The windows of a place in the plan in force (R287, R289). -/
def windowsOf (p : Nat) (s : State) : List (Nat × Nat) :=
  match (planFigures s).windows.find? fun w => w.1 == p with
  | some w => w.2
  | none => []

/-- The address lies in a window of the place (R288). -/
def inWindow (p a : Nat) (s : State) : Bool := (windowsOf p s).any fun w => decide (w.1 ≤ a ∧ a ≤ w.2)

/-- What a read at place `p` returns: the current value on the owner's place, else the value at the start of the solve
phase where the word is shared and has been written (R95, R107). -/
def readWord (p : Nat) (a : Word) (s : State) : Word :=
  match mapVal none a.toNat s.solver.before with
  | some v => if inWindow p a.toNat s then storeAt a.toNat s else v
  | none => storeAt a.toNat s

/-- A signature after one event record of 48 bits (R236, Table 9-1). -/
def signEvent (kind : Nat) (value : Word) (address : Word) (sig : BitVec 32) : BitVec 32 :=
  (leBytes 6 (kind * 2 ^ 44 + value.toNat * 2 ^ 20 + address.toNat)).foldl (crcByteLsb polySignature) sig

/-- An event enters the signatures of both lanes of a joined tandem; a solo keeps none (R85, R103, R236). -/
def signAt (p kind : Nat) (value address : Word) (s : State) : State :=
  if isTandem p then
    modLane p (fun l => { l with
      sigLead := signEvent kind value address l.sigLead
      sigTrail := signEvent kind value address l.sigTrail }) s
  else s

/-- The store takes a value and the written-word logger records it; the first write of a shared word keeps its old
value in the before-image store (R18, R95, R105). -/
def putWord (a : Nat) (v : Word) (s : State) : State :=
  let keep := decide (a ∈ (planFigures s).shared) && (mapVal none a s.solver.before).isNone
  { s with
    solver.before := if keep then mapPut none a (some (storeAt a s)) s.solver.before else s.solver.before
    solver.store := mapPut 0 a v s.solver.store
    solver.written := insertNat a s.solver.written }

/-- A protection notice: the ring of 16, the counters and the quilt (R297, Table 11-9). -/
def addNotice (n : Notice) (s : State) : State :=
  logEvent (.notice n) { s with
    protection.ring := (n :: s.protection.ring).take 16
    protection.notices := satU32 (s.protection.notices + 1)
    protection.imprecise := if n.imprecise then satU32 (s.protection.imprecise + 1) else s.protection.imprecise }

/-- A notice for an access at the present cycle and epoch. -/
def noticeFor (master address region reason kind : Nat) (priv imprecise : Bool) (descriptor : Nat) (s : State) :
    Notice :=
  { cycle := s.cycle.counter.setWidth 32, address := BitVec.ofNat 32 address
    epoch := s.protection.epoch.setWidth 8, master := master, region := region, reason := reason, kind := kind
    priv := priv, imprecise := imprecise, descriptor := BitVec.ofNat 32 descriptor }

/-- Partitions that the plan in force assigns to place `p` (R92). -/
def partitionsAt (p : Nat) (s : State) : List Partition :=
  match activeImage s with
  | some i => i.partitions.filter fun q => q.places.getD s.solver.plan 99 == p
  | none => []

/-- The fault bits of some partitions are set (R104). -/
def setFaultBits (ns : List Nat) (m : BitVec 256) : BitVec 256 := ns.foldl (fun m n => m ||| (1#256 <<< n)) m

/-- Failed lanes are marked (R99, R102, R104). -/
def failLanes (ls : List Nat) (s : State) : State :=
  { s with solver.failedLanes := ls.foldl (fun m n => m ||| (1#32 <<< n)) s.solver.failedLanes }

/-- Some partitions become faulted: bits, alarm and event (R104). -/
def faultPartitions (ns : List Nat) (s : State) : State :=
  if ns = [] then s
  else logOther .partitionFaulted ns (raiseAlarm .partitionFaulted 0
    { s with solver.faulted := setFaultBits ns s.solver.faulted })

/-- A solo fault of lane `n` (R104): it stops at once, its lane is marked failed, its partitions become faulted. -/
def soloFault (n : Nat) (s : State) : State :=
  let s := modLane (16 + n) (fun _ => {}) s
  faultPartitions ((partitionsAt (16 + n) s).map (·.number)) (failLanes [n] s)

/-- A break of a stack rule, of the path watchdog or of an encoding (R88, R89, R148). -/
def breakAt (p : Nat) (s : State) : State :=
  if isTandem p then enterFault 0x1102 (p * 2 ^ 24 + (laneAt p s).pc.toNat) s else soloFault (p - 16) s

/-- The address breaks a window: the write is not performed (R288, R297). Lane 2t reports for a tandem. -/
def windowViolation (p a : Nat) (s : State) : State :=
  let lane := if isTandem p then 2 * p else p - 16
  let s := addNotice (noticeFor (0x20 + lane) a 0xFF 0 1 false false 0 s) s
  if isTandem p then enterFault 0x1601 (p * 2 ^ 24 + a) s else soloFault (p - 16) s

/-- A word write of an instruction: checked, performed, signed (R85, R288). `then'` runs only when it was performed. -/
def writeThen (p : Nat) (a v : Word) (then' : State → State) (s : State) : State :=
  if inWindow p a.toNat s then then' (signAt p 1 v a (putWord a.toNat v s)) else windowViolation p a.toNat s

/-- The instruction ends: its cost is counted and the next one follows (R129). -/
def advance (p cost : Nat) (s : State) : State :=
  modLane p (fun l => { l with
    pc := l.pc + 1
    window := l.window + cost
    path := l.path + cost }) s

/-- The lane state at the start of a partition (Table 4-1, R87, R236). -/
def startState (q : Partition) (l : Lane) : Lane :=
  { pc := BitVec.ofNat 20 q.entry, running := some q.number, waiting := l.waiting.drop 1, posts := l.posts
    sigLead := 0xFFFFFFFF ^^^ BitVec.ofNat 32 q.number, sigTrail := 0xFFFFFFFF ^^^ BitVec.ofNat 32 q.number }

/-- The next waiting partition starts, or the place has ended its partitions (R93). -/
def startNext (p : Nat) (s : State) : State :=
  let l := laneAt p s
  match l.waiting with
  | [] => modLane p (fun l => { posts := l.posts }) s
  | n :: _ =>
    match (partitionsAt p s).find? fun q => q.number == n with
    | some q => modLane p (startState q) s
    | none => modLane p (fun l => { posts := l.posts }) s

/-- A pair of snapshots goes to the comparator and to the stream of the tandem (R85, R237, R238). -/
def pushSnapshot (t : Nat) (lead trail : BitVec 32) (s : State) : State :=
  { s with
    diag.streams := mapMod [] t (fun q => q ++ [{ lead := lead, trail := trail, inSolve := s.cycle.phase == .solve }]) s.diag.streams
    diag.verdicts := mapMod [] t (fun q => q ++ [lead == trail]) s.diag.verdicts }

/-- The stream of a tandem holds its 64 pairs; a lane that would write the next waits (Table 12-3, Table 12-4). -/
def streamFull (t : Nat) (s : State) : Bool := decide (64 ≤ (mapVal [] t s.diag.streams).length)

/-- The pair of a tandem's built-in test: 0 and what a disturbance of one lane makes of it (R99, R100, R238). -/
def pushTest (t : Nat) (disturbance : BitVec 32) (s : State) : State := pushSnapshot t 0 disturbance s

/-- Both lanes snapshot their signatures and the tandem compares them: a mismatch is FAULT 0x1101, a pass frees the posts
of the window for their latch (R85, R86, R144). -/
def closeWindow (t : Nat) (s : State) : State :=
  let l := laneAt t s
  let s := pushSnapshot t l.sigLead l.sigTrail s
  if l.sigLead = l.sigTrail then
    modLane t (fun l => { l with posts := l.posts.map fun q => { q with passed := true } }) s
  else enterFault 0x1101 t s

/-- The posts of a place that have passed are latched at the front end, in program order (R144). -/
def latchPosts (p : Nat) (s : State) : State :=
  let l := laneAt p s
  let s := (l.posts.filter (·.passed)).foldl (fun s q => latchWord q.address.toNat q.value s) s
  modLane p (fun l => { l with posts := l.posts.filter fun q => !q.passed }) s

/-- Program store line that an instruction at address `pc` of the active bank is fetched from (R121, R122). -/
def fetchLine (pc : Word) (s : State) : Nat := 262144 * s.solver.activeBank.val + pc.toNat / 4

/-- An instruction runs at place `p` in its solve phase; elsewhere nothing happens (R93). The line that it is fetched from and those
of the words that it reads are decoded first; an uncorrectable one is FAULT 0x1104 or 0x1103, and the instruction does not run
(R123, R245, Table 9-3). -/
def runReading (p : Place) (reads : Lane → List Word) (f : Lane → State → State) (s : State) : Host.Outcome State Fault Refusal :=
  if laneRuns p.val s then
    let l := laneAt p.val s
    let d := decodeLines 0 ((reads l).map fun a => a.toNat / 8) (decodeLine 1 (fetchLine l.pc s) s)
    .next (if s.modes.mode != .fault && d.modes.mode == .fault then d else f l d)
  else .next s

/-- An instruction that reads no data store word. -/
def runAt (p : Place) (f : Lane → State → State) (s : State) : Host.Outcome State Fault Refusal := runReading p (fun _ => []) f s

/-- An instruction without operand that changes only its lane's registers. -/
def runRegs (p : Place) (cost : Nat) (f : Lane → Lane) (s : State) : Host.Outcome State Fault Refusal :=
  runAt p (fun _ s => advance p.val cost (modLane p.val f s)) s

/-- Value of a bit operand, inverted by N (R131). -/
def bitOperand (p : Nat) (n : Bool) (o : BitOperand) (l : Lane) (s : State) : Bool :=
  let a := bitAddress o l
  (readWord p a.1 s).getLsbD a.2 != n

/-- A word with one bit set to a value (R105). -/
def withBit (w : Word) (b : Nat) (v : Bool) : Word :=
  if v then w ||| (1#20 <<< b) else w &&& ~~~(1#20 <<< b)

/-- Quality word of a point (R111). -/
def qualityWord (point : Nat) : Nat := 0x0A000 + point / 10

/-- Quality code of a point from its word (R111, Table 4-6). -/
def qualityOf (point : Nat) (w : Word) : BitVec 2 := (w >>> (2 * (point % 10))).setWidth 2

/-- Point whose value lies at a word and bit (R110, Table 4-5). -/
def pointAt (a b : Nat) : Nat :=
  if a < 0x01000 then a * 20 + b
  else if a < 0x02000 then 81920 + (a - 0x01000) * 20 + b
  else if a < 0x06000 then 163840 + (a - 0x02000)
  else 180224 + (a - 0x06000)

/-- Edge bit number of an edge operand (R116). -/
def edgeNumber (a : Word) (b : Nat) : Nat := (a.toNat - 0x80000) * 20 + b

/-- CYCLE_DELTA of the present cycle, µs (W#0xF0002, Table 4-10). -/
def cycleDelta (s : State) : Nat := (storeAt 0xF0002 s).toNat

end Sys2Proof.Machine
end

