-- ==== Sys2Proof/Machine/BitLogic.lean ====
section
/-!
DEFINITION. Meanings of the bit logic, branch and edge instructions (05_instruction_set.md R131–R133, Table 5-3,
Table 5-4).
-/
namespace Sys2Proof.Machine

/-- NOP. -/
def execNop (p : Place) (s : State) : Host.Outcome State Fault Refusal := runRegs p 1 id s

/-- LD, AND, OR, XOR: ACC takes a function of ACC and the bit operand (Table 5-3). -/
def bitLogic (p : Place) (n : Bool) (o : BitOperand) (f : Bool → Bool → Bool) (s : State) :
    Host.Outcome State Fault Refusal :=
  runReading p (fun l => [(bitAddress o l).1]) (fun l s =>
    let b := bitOperand p.val n o l s
    advance p.val (2 + surcharge o.stride) (modLane p.val (fun l => { l with acc := f l.acc b }) s)) s

/-- LD. -/
def execLd (p : Place) (n : Bool) (o : BitOperand) (s : State) : Host.Outcome State Fault Refusal :=
  bitLogic p n o (fun _ b => b) s

/-- AND. -/
def execAndB (p : Place) (n : Bool) (o : BitOperand) (s : State) : Host.Outcome State Fault Refusal :=
  bitLogic p n o (fun a b => a && b) s

/-- OR. -/
def execOrB (p : Place) (n : Bool) (o : BitOperand) (s : State) : Host.Outcome State Fault Refusal :=
  bitLogic p n o (fun a b => a || b) s

/-- XOR. -/
def execXorB (p : Place) (n : Bool) (o : BitOperand) (s : State) : Host.Outcome State Fault Refusal :=
  bitLogic p n o (fun a b => a != b) s

/-- ST, SET, RST: the bit takes a function of ACC and its present value; the whole word is written in every case
(Table 5-3, R105, R131). -/
def bitStore (p : Place) (o : BitOperand) (f : Bool → Bool → Bool) (s : State) : Host.Outcome State Fault Refusal :=
  runReading p (fun l => [(bitAddress o l).1]) (fun l s =>
    let a := bitAddress o l
    let w := storeAt a.1.toNat s
    writeThen p.val a.1 (withBit w a.2 (f l.acc (w.getLsbD a.2))) (advance p.val (2 + surcharge o.stride)) s) s

/-- ST. -/
def execSt (p : Place) (n : Bool) (o : BitOperand) (s : State) : Host.Outcome State Fault Refusal :=
  bitStore p o (fun a _ => a != n) s

/-- SET. -/
def execSetB (p : Place) (o : BitOperand) (s : State) : Host.Outcome State Fault Refusal :=
  bitStore p o (fun a b => a || b) s

/-- RST. -/
def execRstB (p : Place) (o : BitOperand) (s : State) : Host.Outcome State Fault Refusal :=
  bitStore p o (fun a b => !a && b) s

/-- NOT. -/
def execNotA (p : Place) (s : State) : Host.Outcome State Fault Refusal :=
  runRegs p 1 (fun l => { l with acc := !l.acc }) s

/-- SETA. -/
def execSeta (p : Place) (s : State) : Host.Outcome State Fault Refusal :=
  runRegs p 1 (fun l => { l with acc := true }) s

/-- CLRA. -/
def execClra (p : Place) (s : State) : Host.Outcome State Fault Refusal :=
  runRegs p 1 (fun l => { l with acc := false }) s

/-- LSAT. -/
def execLsat (p : Place) (s : State) : Host.Outcome State Fault Refusal :=
  runRegs p 1 (fun l => { l with acc := l.sat }) s

/-- BR: a push onto a full stack is a break (R88, R132). -/
def execBr (p : Place) (s : State) : Host.Outcome State Fault Refusal :=
  runAt p (fun l s =>
    if 16 ≤ l.branch.length then breakAt p.val s
    else advance p.val 1 (modLane p.val (fun l => { l with branch := l.acc :: l.branch }) s)) s

/-- BCA, BCO, BCX: the popped result and r are combined; a pop from an empty stack is a break (Table 5-4). -/
def branchClose (p : Place) (n : Bool) (f : Bool → Bool → Bool) (s : State) : Host.Outcome State Fault Refusal :=
  runAt p (fun l s =>
    match l.branch with
    | [] => breakAt p.val s
    | b :: r => advance p.val 1 (modLane p.val (fun l => { l with branch := r, acc := f b (l.acc != n) }) s)) s

/-- BCA. -/
def execBca (p : Place) (n : Bool) (s : State) : Host.Outcome State Fault Refusal :=
  branchClose p n (fun a b => a && b) s

/-- BCO. -/
def execBco (p : Place) (n : Bool) (s : State) : Host.Outcome State Fault Refusal :=
  branchClose p n (fun a b => a || b) s

/-- BCX. -/
def execBcx (p : Place) (n : Bool) (s : State) : Host.Outcome State Fault Refusal :=
  branchClose p n (fun a b => a != b) s

/-- BRT: no pop; an empty stack is a break (R132). -/
def execBrt (p : Place) (s : State) : Host.Outcome State Fault Refusal :=
  runAt p (fun l s =>
    match l.branch with
    | [] => breakAt p.val s
    | b :: _ => advance p.val 1 (modLane p.val (fun l => { l with acc := b }) s)) s

/-- No edge is reported: the first cycle after a start, or a new edge cell in the first cycle after a change (R77, R188). -/
def edgeMasked (e : Nat) (s : State) : Bool := s.modes.edgeFirst || decide (e ∈ s.change.maskEdges)

/-- RE, FE (R133). -/
def edgeStep (p : Place) (o : BitOperand) (f : Bool → Bool → Bool) (s : State) : Host.Outcome State Fault Refusal :=
  runReading p (fun l => [(bitAddress o l).1]) (fun l s =>
    let a := bitAddress o l
    let w := storeAt a.1.toNat s
    let out := f l.acc (w.getLsbD a.2) && !edgeMasked (edgeNumber a.1 a.2) s
    writeThen p.val a.1 (withBit w a.2 l.acc)
      (fun s => advance p.val (3 + surcharge o.stride) (modLane p.val (fun l => { l with acc := out }) s)) s) s

/-- RE. -/
def execRe (p : Place) (o : BitOperand) (s : State) : Host.Outcome State Fault Refusal :=
  edgeStep p o (fun acc prev => acc && !prev) s

/-- FE. -/
def execFe (p : Place) (o : BitOperand) (s : State) : Host.Outcome State Fault Refusal :=
  edgeStep p o (fun acc prev => prev && !acc) s

end Sys2Proof.Machine
end

