-- ==== Sys2Proof/Machine/Encoding.lean ====
section
/-!
DEFINITION. The 40-bit instruction: its fields, the opcode tables with operand kinds, modifiers and costs, and what makes
an encoding illegal (05_instruction_set.md R125–R129, R146, Table 5-1 to Table 5-9).
-/
namespace Sys2Proof.Machine

/-- Kinds of operand that the instruction tables name (R127, R133–R138, R143). -/
inductive OperandKind where
  | none | bit | word | edge | timer | countCell | loadCell | immediate | shift | scl | point | address | loopCount | xch
  deriving DecidableEq, Repr

/-- One row of the instruction tables (Table 5-3 to Table 5-9). -/
structure OpRow where
  /-- OP. -/
  op : Nat
  /-- Operand. -/
  kind : OperandKind
  /-- Cost in solver cycles with X 0 and FN 0. -/
  cost : Nat
  /-- N is allowed. -/
  n : Bool := false
  /-- U is allowed. -/
  u : Bool := false
  /-- Largest FN. -/
  fnMax : Nat := 0
  deriving DecidableEq, Repr

/-- Bit logic, branches, edges, timers and counters (Table 5-3 to Table 5-5, R133, R134). -/
def bitRows : List OpRow :=
  [{ op := 0x01, kind := .none, cost := 1 }, { op := 0x02, kind := .none, cost := 7 },
   { op := 0x04, kind := .bit, cost := 2, n := true }, { op := 0x05, kind := .bit, cost := 2, n := true },
   { op := 0x06, kind := .bit, cost := 2, n := true }, { op := 0x07, kind := .bit, cost := 2, n := true },
   { op := 0x08, kind := .bit, cost := 2, n := true }, { op := 0x09, kind := .bit, cost := 2 },
   { op := 0x0A, kind := .bit, cost := 2 }, { op := 0x0C, kind := .none, cost := 1 },
   { op := 0x0D, kind := .none, cost := 1 }, { op := 0x0E, kind := .none, cost := 1 },
   { op := 0x0F, kind := .none, cost := 1 }, { op := 0x10, kind := .none, cost := 1 },
   { op := 0x11, kind := .none, cost := 1, n := true }, { op := 0x12, kind := .none, cost := 1, n := true },
   { op := 0x13, kind := .none, cost := 1, n := true }, { op := 0x14, kind := .none, cost := 1 },
   { op := 0x18, kind := .edge, cost := 3 }, { op := 0x19, kind := .edge, cost := 3 },
   { op := 0x1C, kind := .timer, cost := 12 }, { op := 0x1D, kind := .timer, cost := 12 },
   { op := 0x1E, kind := .timer, cost := 12 }, { op := 0x20, kind := .countCell, cost := 6 },
   { op := 0x21, kind := .countCell, cost := 6 }, { op := 0x22, kind := .loadCell, cost := 4 },
   { op := 0x23, kind := .loadCell, cost := 4 }]

/-- Word instructions (Table 5-6). -/
def wordRows : List OpRow :=
  [{ op := 0x28, kind := .word, cost := 2 }, { op := 0x29, kind := .word, cost := 2 },
   { op := 0x2A, kind := .word, cost := 2 }, { op := 0x2B, kind := .word, cost := 2 },
   { op := 0x2C, kind := .immediate, cost := 1 }, { op := 0x2D, kind := .immediate, cost := 1 },
   { op := 0x2E, kind := .none, cost := 1 }, { op := 0x2F, kind := .none, cost := 1 },
   { op := 0x30, kind := .none, cost := 1, u := true }, { op := 0x31, kind := .none, cost := 1, u := true },
   { op := 0x32, kind := .none, cost := 3, u := true }, { op := 0x33, kind := .none, cost := 22, u := true },
   { op := 0x34, kind := .none, cost := 22, u := true }, { op := 0x35, kind := .none, cost := 1, u := true },
   { op := 0x36, kind := .none, cost := 1, u := true }, { op := 0x37, kind := .none, cost := 1, u := true },
   { op := 0x38, kind := .none, cost := 1, u := true }, { op := 0x39, kind := .none, cost := 1 },
   { op := 0x3A, kind := .none, cost := 1 }, { op := 0x3B, kind := .none, cost := 1 },
   { op := 0x3C, kind := .shift, cost := 1 }, { op := 0x3D, kind := .shift, cost := 1, u := true }]

/-- Scaling, compare, quality test, control, XCH and FENCE (R137–R145, Table 5-8, Table 5-9). -/
def controlRows : List OpRow :=
  [{ op := 0x40, kind := .scl, cost := 30, u := true, fnMax := 1 },
   { op := 0x44, kind := .none, cost := 1, u := true }, { op := 0x45, kind := .none, cost := 1, u := true },
   { op := 0x46, kind := .none, cost := 1, u := true }, { op := 0x47, kind := .none, cost := 1, u := true },
   { op := 0x48, kind := .none, cost := 1, u := true }, { op := 0x49, kind := .none, cost := 1, u := true },
   { op := 0x4C, kind := .point, cost := 3, fnMax := 3 },
   { op := 0x50, kind := .address, cost := 2 }, { op := 0x51, kind := .address, cost := 2 },
   { op := 0x52, kind := .address, cost := 2 }, { op := 0x54, kind := .loopCount, cost := 2 },
   { op := 0x55, kind := .none, cost := 2 }, { op := 0x58, kind := .address, cost := 3 },
   { op := 0x59, kind := .none, cost := 3 }, { op := 0x5C, kind := .xch, cost := 64, fnMax := 1 },
   { op := 0x5E, kind := .none, cost := 128 }]

/-- Row of an opcode; none where it is unassigned (R126). -/
def opRow (op : Nat) : Option OpRow := (bitRows ++ wordRows ++ controlRows).find? fun r => r.op == op

/-- Fields of an instruction (Table 5-1, Table 5-2). -/
structure Fields where
  /-- OP. -/
  op : Nat
  /-- BIT. -/
  bit : Nat
  /-- N. -/
  n : Bool
  /-- X. -/
  x : Bool
  /-- STR. -/
  str : Nat
  /-- U. -/
  u : Bool
  /-- FN. -/
  fn : Nat
  /-- OPERAND. -/
  operand : Nat
  deriving DecidableEq, Repr

/-- Fields of a code (Table 5-1, Table 5-2). -/
def fieldsOf (c : Code) : Fields :=
  let v := c.toNat
  { op := bitsOf v 33 7, bit := bitsOf v 28 5, n := v.testBit 27, x := v.testBit 26, str := bitsOf v 23 3
    u := v.testBit 22, fn := bitsOf v 20 2, operand := bitsOf v 0 20 }

/-- The operand may be indexed (Table 5-3 to Table 5-9, column Modifiers). -/
def allowsIndex (k : OperandKind) : Bool :=
  match k with
  | .bit | .word | .edge | .timer | .countCell | .loadCell | .scl | .point | .xch => true
  | .none | .immediate | .shift | .address | .loopCount => false

/-- BIT is a field that the instruction uses (R126, R127, R138). -/
def usesBit (k : OperandKind) : Bool :=
  match k with
  | .bit | .edge | .point | .shift => true
  | _ => false

/-- The bit walk is allowed: a bit operand, or QTS (R128). -/
def allowsWalk (k : OperandKind) : Bool :=
  match k with
  | .bit | .edge | .point => true
  | _ => false

/-- An instruction is legal: none of the cases of R146 holds. -/
def legalFields (f : Fields) (r : OpRow) : Bool :=
  decide (f.bit ≤ 19) && (usesBit r.kind || f.bit == 0) && (r.n || !f.n) && (r.u || !f.u) && decide (f.fn ≤ r.fnMax) &&
    (allowsIndex r.kind || !f.x) && (f.x || f.str == 0) && (allowsWalk r.kind || f.str != 7) &&
    ((r.kind != .none && r.kind != .shift) || f.operand == 0)

/-- A code with its row when its encoding is legal (R146). -/
def decodeCode (c : Code) : Option (Fields × OpRow) :=
  let f := fieldsOf c
  match opRow f.op with
  | some r => if legalFields f r then some (f, r) else none
  | none => none

/-- Cost in solver cycles: XCH.F1 costs 8, an indexed operand adds 1 (R129, Table 5-9). -/
def costOf (f : Fields) (r : OpRow) : Nat :=
  (if r.kind = .xch ∧ f.fn = 1 then 8 else r.cost) + (if f.x then 1 else 0)

/-- Cost of an opcode with X 0 and FN 0; 0 for an illegal one (0x2020:04). -/
def costQuery (op : Nat) : Nat := match opRow op with | some r => r.cost | none => 0

/-- Effective word address and bit index of an operand at index `ix`, not wrapped (R128). -/
def effective (f : Fields) (ix : Nat) : Nat × Nat :=
  if !f.x then (f.operand, f.bit)
  else if f.str = 7 then (f.operand + (f.bit + ix) / 20, (f.bit + ix) % 20)
  else (f.operand + ix * 2 ^ f.str, f.bit)

end Sys2Proof.Machine
end

