-- ==== Sys2Proof/WellFormed.lean ====
section
/-!
DEFINITION. Which command terms stand for something that can reach the module: every number lies in the width of the
field the manual gives it, every list of samples has one entry per sensor, a frame is no longer than its format allows.
`exec` is total and asks for none of this; statements that need it name it.
-/
namespace Sys2Proof

/-- A number fits a field of `bits` bits. -/
def fits (bits n : Nat) : Bool := n < 2 ^ bits

/-- The hub masters that make requests (Table 10-2). -/
def hubMaster (n : Nat) : Bool :=
  (0x40 ≤ n && n ≤ 0x4B) || (0x50 ≤ n && n ≤ 0x55) || n == 0x58 || n == 0x60 || n == 0x61 || (0x70 ≤ n && n ≤ 0x72)

/-- The masters that own locks: hub masters and NSP sessions (Table 10-2). -/
def lockMaster (n : Nat) : Bool := hubMaster n || (0x80 ≤ n && n ≤ 0x8F)

/-- Field widths of a pair message (Table 8-3). -/
def pairMsgOk (m : PairMsg) : Bool := fits 8 m.kind && fits 8 m.mode && fits 8 m.slot && m.send < 2 ^ 48 * 1000000000

/-- Field widths of a seam block; the payload is 0 to 1,024 bytes (Table 8-1). -/
def seamBlockOk (b : SeamBlock) : Bool := fits 8 b.type && fits 32 b.offset && b.payload.length ≤ 1024

/-- Field widths of a station frame; LENGTH is at most 1,456 (Table 15-1). -/
def stationFrameOk (f : StationFrame) : Bool :=
  fits 8 f.kind && fits 16 f.station && f.time < 2 ^ 48 * 1000000000 && f.payload.length ≤ 1456

/-- A CAN frame carries at most 8 bytes, a CAN FD frame one of the FD lengths; an 11-bit identifier is below 2,048 (R356). -/
def canFrameOk (f : CanFrame) : Bool :=
  (f.ide || decide (f.id.toNat < 2048)) &&
    (decide (f.data.length ≤ 8) || f.fdf && [12, 16, 20, 24, 32, 48, 64].contains f.data.length)

/-- Field widths of an NSP request; LENGTH counts the body (Table 17-4). -/
def nspReqOk (q : NspReq) : Bool :=
  fits 8 q.version && fits 8 q.session && q.length == q.body.length && fits 16 q.length && fits 8 q.status &&
    fits 32 q.offset && fits 32 q.total && fits 32 q.reserved

/-- A hub request: a master of Table 10-2, an address of 36 bits, at least one byte, and a write carries its bytes (R259, R264). -/
def hubAccessOk (a : HubAccess) : Bool :=
  hubMaster a.master && fits 36 a.address && 1 ≤ a.size && (a.write == false || a.data.length == a.size)

/-- A partition has a number up to 255, a name of up to 32 characters and a body in the program store of 1,048,576 instructions
(R25, R92). -/
def partitionOk (p : Partition) : Bool := fits 8 p.number && p.name.length ≤ 32 && fits 20 p.entry && fits 20 p.last

/-- An image has 1 to 256 partitions with numbers of their own, its instructions lie in the program store, it names a place for each
partition in each of its 1 to 4 lane plans, and a plan names the state of 16 tandems (R25, R92, R96). -/
def imageOk (i : Image) : Bool :=
  1 ≤ i.plans.length && i.plans.length ≤ 4 && i.plans.all (fun p => p.length == 16) &&
    1 ≤ i.partitions.length && i.partitions.length ≤ 256 && (i.partitions.map (·.number)).Nodup &&
    i.partitions.all (fun p => partitionOk p && p.places.length == i.plans.length && p.places.all (· < 48)) &&
    i.functions.all (fun f => fits 20 f.first && fits 20 f.last) && i.code.all (fun c => fits 20 c.1)

/-- An item of a service transfer. -/
def serviceOk : Service → Bool
  | .configuration _ format _ _ => fits 16 format
  | .banks a b => (a.map imageOk).getD true && (b.map imageOk).getD true
  | .changeState n => fits 8 n
  | .changeImage i => imageOk i
  | .changeResult _ _ | .plan _ | .ruleSet _ | .firmware _ | .stagingResult _ | .firmwareConfirm |
    .resyncEnd => true

/-- The command stands for something that can reach the module. -/
def wellFormed : Instr → Bool
  | .selftestCheckDone _ _ c => fits 32 c
  | .clockMonitorInterval counts => counts.length == 8
  | .clockDeviationCheck ppm => ppm.length == 9
  | .railSample v => v.length == 6
  | .junctionRead v => v.length == 4
  | .supervisorReadback _ ao => ao.length == 8
  | .aiSample raw => raw.length == 8
  | .hello _ m | .boundary m _ | .resyncRequest m _ => pairMsgOk m
  | .heartbeat _ m _ _ | .fault _ m _ _ | .leaving _ m _ _ | .handoverConfirm _ m _ _ => pairMsgOk m
  | .seamBlockReceived _ b _ _ => seamBlockOk b
  | .changeImageWrite i => imageOk i
  | .serviceTransferReceived item _ => serviceOk item
  | .announce f _ _ | .input f _ _ | .event f _ _ | .stationLeaving f _ _ | .guestAnnounce f _ _ | .guestInput f _ _ =>
    stationFrameOk f
  | .canFrameReceived _ f _ _ => canFrameOk f
  | .hubRequest a _ => hubAccessOk a
  | .arbiterDecision _ requests _ _ => (requests.map fun r => (r.port, r.master)).Nodup && requests.all fun r => hubMaster r.master && 1 ≤ r.lines
  | .scrubStep k l => l.length ≤ if k.val ≤ 2 then 1 else 2
  | .fixed15Revoke _ r tick => hubMaster r.master && 1 ≤ r.lines && r.tick ≤ tick
  | .lockTry m _ | .lockWait m _ | .lockRelease m _ | .lockWaitTimeout m _ => lockMaster m
  | .registerWrite m _ _ => hubMaster m
  | .firmwareImageWrite _ offset total data last => offset + data.length ≤ total && (last == false || offset + data.length == total)
  | .nspRead q _ | .nspWrite q _ | .groupRead q _ | .groupWrite q _ | .describe q _ | .dataRead q _ | .dataWrite q _
  | .dataWriteMasked q _ | .openS q _ _ | .prove q _ | .close q _ | .keepalive q _ | .abort q _ => nspReqOk q
  | .debugPortAccess write a data size => (a.map (fits 36)).getD (size == 4) && 1 ≤ size && (write == false || data.length == size)
  | _ => true

end Sys2Proof
end

