-- ==== Sys2Proof/Machine/Loader.lean ====
section
/-!
DEFINITION. The loader's checks of an image: encodings, structure of bodies, every path of every partition with its cost,
stacks and addresses, placement, ownership, shared words, write windows and the state map (05_instruction_set.md
R139–R150, R493; 04_logic_solver.md R88, R92–R95, R113, R492; 07_online_change.md R183; 11_protection_and_lifecycle.md
R287; 15_stations_and_io_exchange.md R388).
-/
namespace Sys2Proof.Machine

/-- A body of the image: of a partition, with its number, or of a function (R139). -/
structure Body where
  /-- Partition number; none for a function body. -/
  part : Option Nat
  /-- First instruction address. -/
  first : Nat
  /-- Last instruction address. -/
  last : Nat
  deriving DecidableEq, Repr

/-- Every body: partitions in the image's order, then functions. -/
def bodiesOf (i : Image) : List Body :=
  i.partitions.map (fun p => { part := some p.number, first := p.entry, last := p.last }) ++
    i.functions.map fun f => { part := none, first := f.first, last := f.last }

/-- Instruction addresses of a body. -/
def bodyAddresses (b : Body) : List Nat := rangeFrom b.first (b.last + 1 - b.first)

/-- The instruction at an address, when its encoding is legal; an address that nothing fills holds opcode 0 (R127). -/
def instrAt (i : Image) (a : Nat) : Option (Fields × OpRow) := decodeCode (mapVal 0 a i.code)

/-- Code of a traffic class. -/
def classCode : TClass → Nat
  | .s => 0 | .a => 1 | .b => 2 | .c => 3

/-- PARTITION of a finding at an instruction of a body: none for a function body. -/
def bodyPart (b : Body) : Nat := b.part.getD 0xFFFF

/-- Finding of an instruction (Table 6-5). -/
def at' (code : Nat) (b : Body) (a : Nat) (value limit : Nat := 0) : Finding :=
  { code := code, part := bodyPart b, location := a, value := value, limit := limit }

/-- Addresses that the instruction at an address can lead to: its jump or call target, and the next one but behind END, JMP and
RET (R139). -/
def successors (i : Image) (a : Nat) : List Nat :=
  match instrAt i a with
  | none => []
  | some (f, r) =>
    (if r.kind = .address then [f.operand] else []) ++ (if f.op = 0x02 ∨ f.op = 0x50 ∨ f.op = 0x59 then [] else [a + 1])

/-- An address lies in a body. -/
def inBody (bs : List Body) (a : Nat) : Bool := bs.any fun b => decide (b.first ≤ a ∧ a ≤ b.last)

/-- Addresses outside the bodies that some addresses lead to, directly or onward: `seen` so far, at most `fuel` steps more. -/
def reachOutside (i : Image) (bs : List Body) : Nat → List Nat → List Nat → List Nat
  | 0, seen, _ => seen
  | n + 1, seen, front =>
    let fresh := (front.flatMap (successors i)).foldl (fun l a =>
      if inBody bs a || seen.contains a || l.contains a then l else l ++ [a]) []
    if fresh = [] then seen else reachOutside i bs n (seen ++ fresh) fresh

/-- Illegal encodings in every body and at every address reachable from one (R146). -/
def encodingFindings (i : Image) : List Finding :=
  let bs := bodiesOf i
  let inside := bs.flatMap fun b => ((bodyAddresses b).filter fun a => (instrAt i a).isNone).map (at' 0x02 b)
  let outside := reachOutside i bs (i.code.length + 1) [] (bs.flatMap bodyAddresses)
  inside ++ (outside.filter fun t => (instrAt i t).isNone).map fun t => { code := 0x02, location := t }

/-- LOOPs open at each address from `a` on, and those left open at the end; an ENDL lies inside the LOOP it closes
(R140). -/
def nestFrom (i : Image) : List Nat → List Nat → List (Nat × List Nat) × List Nat
  | [], open' => ([], open')
  | a :: rest, open' =>
    let op := match instrAt i a with | some (f, _) => f.op | none => 0
    let next := if op = 0x54 then a :: open' else if op = 0x55 then open'.drop 1 else open'
    let r := nestFrom i rest next
    ((a, open') :: r.1, r.2)

/-- Nesting recorded for an address. -/
def nestAt (l : List (Nat × List Nat)) (a : Nat) : Option (List Nat) := (l.find? fun p => p.1 == a).map (·.2)

/-- Function bodies that a body calls. -/
def callsOf (i : Image) (b : Body) : List Nat :=
  (bodyAddresses b).filterMap fun a => match instrAt i a with
    | some (f, _) => if f.op = 0x58 ∧ i.functions.any (fun g => g.first == f.operand) then some f.operand else none
    | none => none

/-- The body of the function that starts at an address. -/
def functionAt (i : Image) (a : Nat) : Option Body :=
  (i.functions.find? fun f => f.first == a).map fun f => { part := none, first := f.first, last := f.last }

/-- Functions reached from some, in at most `fuel` further calls. -/
def reachFrom (i : Image) : Nat → List Nat → List Nat
  | 0, l => l
  | n + 1, l =>
    reachFrom i n (l.foldl (fun acc a => match functionAt i a with
      | some b => (callsOf i b).foldl (fun acc t => insertNat t acc) acc
      | none => acc) l)

/-- A jump of R140 at address `a` to `t`, by place and nesting; depths are judged along the paths. -/
def jumpOk (b : Body) (nest : List (Nat × List Nat)) (a t : Nat) : Bool :=
  decide (a < t ∧ t ≤ b.last) && (nestAt nest t).isSome && nestAt nest t == nestAt nest a

/-- Functions that a class B or C partition can call (R143). -/
def lowClassFunctions (i : Image) : List Nat :=
  (i.partitions.filter fun p => p.cls == .b || p.cls == .c).foldl (fun acc p =>
    (reachFrom i i.functions.length (callsOf i { part := some p.number, first := p.entry, last := p.last })).foldl
      (fun acc t => insertNat t acc) acc) []

/-- XCH is banned in a body (R143). -/
def xchBannedIn (i : Image) (b : Body) : Bool :=
  match b.part with
  | some n => i.partitions.any fun p => p.number == n && (p.cls == .b || p.cls == .c)
  | none => decide (b.first ∈ lowClassFunctions i)

/-- XCH of a direct operand names an input word (FN 0) or an output word (FN 1) of the local I/O block (R143). -/
def xchWordOk (fn : Nat) (x : Nat) : Bool :=
  if fn = 0 then decide (0x0F000 ≤ x ∧ x ≤ 0x0F034) else decide (0x0F040 ≤ x ∧ x ≤ 0x0F051)

/-- Jump, loop, call, XCH and body findings of one body, whether a path reaches the instruction or not (R140–R143, R493). -/
def structureFindings (i : Image) (b : Body) : List Finding :=
  let n := nestFrom i (bodyAddresses b) []
  let here (a : Nat) : List Finding :=
    match instrAt i a with
    | none => []
    | some (f, _) =>
      let bad : Bool :=
        if f.op = 0x54 then f.operand == 0
        else if f.op = 0x55 then nestAt n.1 a == some []
        else if f.op = 0x50 ∨ f.op = 0x51 ∨ f.op = 0x52 then !jumpOk b n.1 a f.operand
        else if f.op = 0x58 then
          (functionAt i f.operand).isNone ||
            (b.part.isNone && decide (b.first ∈ reachFrom i i.functions.length [f.operand]))
        else if f.op = 0x59 then b.part.isNone && nestAt n.1 a != some []
        else if f.op = 0x5C then xchBannedIn i b || (!f.x && !xchWordOk f.fn f.operand)
        else false
      if bad then [at' 0x04 b a] else []
  let ends : Nat := match b.part with | some _ => 0x02 | none => 0x59
  let last : List Finding := match instrAt i b.last with
    | some (f, _) => if f.op = ends then [] else [at' 0x04 b b.last]
    | none => [at' 0x04 b b.last]
  (bodyAddresses b).flatMap here ++ n.2.map (at' 0x04 b) ++ last

/-- What the walk of one partition gathers. Keys pack an instruction address into the low 20 bits. -/
structure Gathered where
  /-- Findings. -/
  findings : List Finding := []
  /-- Words written, with the instruction. -/
  writes : List Nat := []
  /-- Words read, with the instruction. -/
  reads : List Nat := []
  /-- Cells addressed: kind 0 timer, 1 CTU, 2 CTD, 3 edge, 4 CLD or CRS; then the address or the bit, and the
  instruction. -/
  cells : List Nat := []
  deriving DecidableEq, Repr

/-- Word or cell and instruction as one key. -/
def packKey (x a : Nat) : Nat := x * 1048576 + a

/-- Word or cell of a key. -/
def keyItem (k : Nat) : Nat := k / 1048576

/-- Instruction address of a key. -/
def keyInstr (k : Nat) : Nat := k % 1048576

/-- A cell with its kind. -/
def cellItem (kind x : Nat) : Nat := kind * 67108864 + x

/-- Words that an operand of a kind spans (R134, R135, R137). -/
def spanOf (k : OperandKind) : Nat :=
  match k with
  | .timer | .scl => 4
  | .countCell | .loadCell => 2
  | _ => 1

/-- Offsets from the effective address that an instruction writes (R131–R136, R143). -/
def writeOffsets (f : Fields) (r : OpRow) : List Nat :=
  match r.kind with
  | .edge => [0]
  | .timer => [0, 2, 3]
  | .countCell => [0, 1]
  | .loadCell => [0]
  | .bit => if f.op = 0x08 ∨ f.op = 0x09 ∨ f.op = 0x0A then [0] else []
  | .word => if f.op = 0x2A ∨ f.op = 0x2B then [0] else []
  | .xch => if f.fn = 1 then [0] else []
  | _ => []

/-- Offsets that an instruction reads. -/
def readOffsets (f : Fields) (r : OpRow) : List Nat :=
  match r.kind with
  | .edge | .bit | .loadCell => [0]
  | .timer | .scl => [0, 1, 2, 3]
  | .countCell => [0, 1]
  | .word => if f.op = 0x28 ∨ f.op = 0x29 then [0] else []
  | _ => []

/-- TYPE that a timer instruction writes (R134). -/
def timerOpType (op : Nat) : Nat := op - 0x1C

/-- TYPE of the constant word of a CONTROL; 0 without one (R113). -/
def constantType (i : Image) (a : Nat) : Nat := bitsOf (mapVal 0 a i.constants).toNat 15 2

/-- The first address that breaks a check gives a finding. -/
def breach (code : Nat) (b : Body) (a : Nat) (bad : Nat × Nat → Bool) (es : List (Nat × Nat)) : List Finding :=
  match es.find? bad with
  | some e => [at' code b a e.1]
  | none => []

/-- The operand checks of R147, R113 and R143 over every effective address. -/
def operandFindings (e : Entries) (i : Image) (b : Body) (a : Nat) (f : Fields) (r : OpRow)
    (es : List (Nat × Nat)) : List Finding :=
  let ws := es.flatMap fun x => (writeOffsets f r).map fun o => (x.1 + o, x.2)
  let range := breach 0x03 b a (fun x => decide (0xFFFFF < x.1 + spanOf r.kind - 1)) es
  let ro := breach 0x03 b a (fun x => decide (x.1 ≤ 0xFFFFF) && !isWritable e x.1) ws
  let cell : List Finding := match r.kind with
    | .timer =>
      let badCell (x : Nat × Nat) : Bool := !(decide (0x50000 ≤ x.1 ∧ x.1 ≤ 0x6FFFF) && x.1 % 4 == 0)
      breach 0x03 b a badCell es ++
        breach 0x03 b a (fun x => !badCell x && constantType i x.1 != timerOpType f.op) es
    | .countCell | .loadCell =>
      breach 0x03 b a (fun x => !(decide (0x70000 ≤ x.1 ∧ x.1 ≤ 0x7FFFF) && x.1 % 2 == 0)) es
    | .edge => breach 0x03 b a (fun x => !decide (0x80000 ≤ x.1 ∧ x.1 ≤ 0x87FFF)) es
    | .point =>
      if f.x ∧ f.str = 7 then breach 0x03 b a (fun x => decide (0x01FFF < x.1)) es
      else breach 0x03 b a (fun x => decide (0x09FFF < x.1 ∨ (0x02000 ≤ x.1 ∧ f.bit ≠ 0))) es
    | _ => []
  let xch : List Finding := if r.kind = .xch ∧ es.any fun x => !xchWordOk f.fn x.1 then [at' 0x04 b a] else []
  range ++ ro ++ cell ++ xch

/-- Cells that an instruction addresses at an effective address. -/
def cellOf (f : Fields) (r : OpRow) (x : Nat × Nat) : List Nat :=
  match r.kind with
  | .timer => [cellItem 0 x.1]
  | .countCell => [cellItem (f.op - 0x1F) x.1]
  | .loadCell => [cellItem 4 x.1]
  | .edge => [cellItem 3 (x.1 * 20 + x.2)]
  | _ => []

/-- An instruction with its operand enters what the walk gathers. -/
def gather (e : Entries) (i : Image) (b : Body) (a ixCount : Nat) (f : Fields) (r : OpRow)
    (g : Gathered) : Gathered :=
  if allowsIndex r.kind then
    let es := if f.x then (List.range ixCount).map (effective f) else [effective f 0]
    let add (os : List Nat) (l : List Nat) : List Nat :=
      es.foldr (fun x l => os.foldr (fun o l => insertNat (packKey (x.1 + o) a) l) l) l
    { findings := g.findings ++ operandFindings e i b a f r es
      writes := add (writeOffsets f r) g.writes
      reads := add (readOffsets f r) g.reads
      cells := es.foldr (fun x l => (cellOf f r x).foldr (fun c l => insertNat (packKey c a) l) l) g.cells }
  else g

/-- Branch depth and cost at a point of a path. -/
structure Live where
  /-- Branch stack depth. -/
  depth : Nat
  /-- Longest cost so far, from the start of the body or of the innermost LOOP's body. -/
  cost : Nat
  deriving DecidableEq, Repr

/-- An open LOOP of the body under walk. -/
structure LoopFrame where
  /-- Count. -/
  count : Nat
  /-- Branch stack depth at the LOOP. -/
  depth : Nat
  /-- Cost up to and including the LOOP; none when no path reaches it. -/
  cost : Option Nat
  deriving DecidableEq, Repr

/-- State of the walk along one body. -/
structure Walk where
  /-- What falls through to the next address. -/
  live : Option Live
  /-- Jumps under way: target, jump, and what arrives. -/
  arrivals : List (Nat × Nat × Live) := []
  /-- Open LOOPs, innermost first. -/
  frames : List LoopFrame := []
  /-- Longest path to an END or RET. -/
  longest : Option Nat := none
  /-- Gathered so far. -/
  got : Gathered
  deriving DecidableEq, Repr

/-- How a body is entered. -/
structure Entry where
  /-- Branch stack depth. -/
  depth : Nat := 0
  /-- LOOPs open in the callers. -/
  loops : Nat := 0
  /-- Values of IX at the entry. -/
  ixCount : Nat := 1
  /-- Call depth. -/
  calls : Nat := 0
  deriving DecidableEq, Repr

/-- A finding joins the walk. -/
def Walk.note (w : Walk) (f : Finding) : Walk := { w with got.findings := w.got.findings ++ [f] }

/-- The arrivals at an address merge with what falls through; a jump that brings another depth is a finding (R140). -/
def mergeArrivals (b : Body) (a : Nat) (w : Walk) : Walk :=
  let here := w.arrivals.filter fun x => x.1 == a
  here.foldl (fun w x =>
    match w.live with
    | none => { w with live := some x.2.2 }
    | some l =>
      let w := if l.depth = x.2.2.depth then w else w.note (at' 0x04 b x.2.1)
      { w with live := some { l with cost := max l.cost x.2.2.cost } }) { w with arrivals := w.arrivals.filter (·.1 ≠ a) }

/-- The path ends with the cost of its last instruction. -/
def endPath (l : Live) (cost : Nat) (w : Walk) : Walk :=
  { w with live := none, longest := some (max (w.longest.getD 0) (l.cost + cost)) }

/-- One branch instruction: a push, a pop or BRT (R132, R88). -/
def walkBranch (b : Body) (a op : Nat) (l : Live) (w : Walk) : Walk :=
  let l1 := { l with cost := l.cost + 1 }
  if op = 0x10 then
    if 16 ≤ l.depth then { w.note (at' 0x05 b a 17 16) with live := some l1 }
    else { w with live := some { l1 with depth := l.depth + 1 } }
  else if l.depth = 0 then { w.note (at' 0x05 b a 0 0) with live := some l1 }
  else if op = 0x14 then { w with live := some l1 }
  else { w with live := some { l1 with depth := l.depth - 1 } }

/-- END or RET (R88, R139, R493). -/
def walkEnd (b : Body) (n : Entry) (a op : Nat) (l : Live) (w : Walk) : Walk :=
  if op = 0x02 then
    let bad := (if n.calls ≠ 0 then [at' 0x05 b a n.calls 0] else []) ++
      (if n.calls = 0 ∧ l.depth ≠ 0 then [at' 0x05 b a l.depth 0] else []) ++
      (if n.calls = 0 ∧ w.frames ≠ [] then [at' 0x05 b a w.frames.length 0] else [])
    endPath l 7 (bad.foldl Walk.note w)
  else
    let w := if b.part.isSome then w.note (at' 0x05 b a 0 0)
      else if l.depth ≠ n.depth then w.note (at' 0x05 b a l.depth n.depth) else w
    endPath l 3 w

/-- LOOP and ENDL (R88, R141, R149). -/
def walkLoop (b : Body) (n : Entry) (a : Nat) (f : Fields) (w : Walk) : Walk :=
  if f.op = 0x54 then
    let fr : LoopFrame := { count := f.operand, depth := (w.live.map (·.depth)).getD 0, cost := w.live.map (·.cost + 2) }
    let w := if w.live.isSome ∧ 4 ≤ n.loops + w.frames.length then w.note (at' 0x05 b a 5 4) else w
    { w with frames := fr :: w.frames, live := w.live.map fun l => { l with cost := 0 } }
  else
    match w.frames with
    | [] => { w with live := w.live.map fun l => { l with cost := l.cost + 2 } }
    | fr :: rest =>
      let w := match w.live with
        | some l => if l.depth ≠ fr.depth then w.note (at' 0x04 b a) else w
        | none => w
      let out : Option Live := match w.live, fr.cost with
        | some l, some c => some { l with cost := c + fr.count * (l.cost + 2) }
        | _, _ => none
      { w with frames := rest, live := out }

/-- The walk of a called body: its longest path and what it gathers. -/
abbrev Callee := Body → Entry → Gathered → Option Nat × Gathered

/-- CALL: a fifth level is a finding (R88, R142, R149). -/
def walkCall (i : Image) (callee : Callee) (b : Body) (n : Entry) (a target ix : Nat) (l : Live) (w : Walk) : Walk :=
  if 4 ≤ n.calls then { w.note (at' 0x05 b a 5 4) with live := some { l with cost := l.cost + 3 } }
  else match functionAt i target with
    | none => { w with live := some { l with cost := l.cost + 3 } }
    | some g =>
      let r := callee g { depth := l.depth, loops := n.loops + w.frames.length, ixCount := ix, calls := n.calls + 1 } w.got
      { w with got := r.2, live := r.1.map fun c => { l with cost := l.cost + 3 + c } }

/-- One instruction of a body along the walk. -/
def walkInstr (e : Entries) (i : Image) (callee : Callee) (b : Body)
    (nest : List (Nat × List Nat)) (n : Entry) (w : Walk) (a : Nat) : Walk :=
  let w := mergeArrivals b a w
  match instrAt i a with
  | none => w
  | some (f, r) =>
    if f.op = 0x54 ∨ f.op = 0x55 then walkLoop b n a f w
    else match w.live with
    | none => w
    | some l =>
      let ix := match w.frames with | fr :: _ => fr.count | [] => n.ixCount
      let w := { w with got := gather e i b a ix f r w.got }
      if 0x10 ≤ f.op ∧ f.op ≤ 0x14 then walkBranch b a f.op l w
      else if f.op = 0x02 ∨ f.op = 0x59 then walkEnd b n a f.op l w
      else if f.op = 0x50 ∨ f.op = 0x51 ∨ f.op = 0x52 then
        let l2 := { l with cost := l.cost + 2 }
        let w := if jumpOk b nest a f.operand then { w with arrivals := w.arrivals ++ [(f.operand, a, l2)] } else w
        { w with live := if f.op = 0x50 then none else some l2 }
      else if f.op = 0x58 then walkCall i callee b n a f.operand ix l w
      else { w with live := some { l with cost := l.cost + costOf f r } }

/-- The walk of a body, with bodies it calls walked in place; calls nest at most four deep (R88, R142). -/
def walkBody (e : Entries) (i : Image) : Nat → Callee
  | 0, _, _, g => (none, g)
  | k + 1, b, n, g =>
    let nest := (nestFrom i (bodyAddresses b) []).1
    let w := (bodyAddresses b).foldl (walkInstr e i (walkBody e i k) b nest n)
      { live := some { depth := n.depth, cost := 0 }, got := g }
    (w.longest, w.got)

/-- What the loader knows of one partition. -/
structure PartInfo where
  /-- The partition. -/
  part : Partition
  /-- Admitted path (R149). -/
  path : Nat
  /-- Gathered along its paths. -/
  got : Gathered
  deriving DecidableEq, Repr

/-- Every partition walked. -/
def partInfos (e : Entries) (i : Image) : List PartInfo :=
  i.partitions.map fun p =>
    let r := walkBody e i 5 { part := some p.number, first := p.entry, last := p.last } {} {}
    { part := p, path := r.1.getD 0, got := r.2 }

/-- Function bodies that no partition can call. -/
def uncalledFunctions (i : Image) : List FnBody :=
  let called := i.partitions.foldl (fun l p =>
    (reachFrom i i.functions.length (callsOf i { part := some p.number, first := p.entry, last := p.last })).foldl
      (fun l t => insertNat t l) l) []
  i.functions.filter fun f => !called.contains f.first

/-- Jump and ENDL depths of the bodies that nothing calls (R140, R141): walked from the middle of the branch stack, for no caller gives
them a depth. Findings about paths of a partition do not concern them. -/
def uncalledFindings (e : Entries) (i : Image) : List Finding :=
  (uncalledFunctions i).flatMap fun f =>
    (walkBody e i 5 { part := none, first := f.first, last := f.last } { depth := 8 } {}).2.findings.filter fun x => x.code == 0x04

/-- Words that a partition can write, rising. -/
def writesOf (p : PartInfo) : List Nat := p.got.writes.foldr (fun k l => insertNat (keyItem k) l) []

/-- Words that a partition can read, rising. -/
def readsOf (p : PartInfo) : List Nat := p.got.reads.foldr (fun k l => insertNat (keyItem k) l) []

/-- Static written words of the program, rising: W of R162 counts them. -/
def staticWrites (ps : List PartInfo) : List Nat := ps.foldr (fun p l => (writesOf p).foldr insertNat l) []

/-- Two instructions of one kind on one cell: a finding at the later (Table 5-10). -/
def duplicateCells : List Nat → List Finding
  | x :: y :: r =>
    let c := keyItem x
    let kind := c / 67108864
    let v := c % 67108864
    (if keyItem y = c ∧ kind ≠ 4 then
      [{ code := 0x03, location := keyInstr y, value := if kind = 3 then v / 20 else v }] else []) ++ duplicateCells (y :: r)
  | _ => []

/-- Cells of the whole program. -/
def allCells (ps : List PartInfo) : List Nat := ps.foldr (fun p l => p.got.cells.foldr insertNat l) []

/-- Place of a partition in a plan; 99 where the image states none (R92). -/
def placeIn (plan : Nat) (p : Partition) : Nat := p.places.getD plan 99

/-- State of a tandem in a plan of an image (R96). -/
def imagePlanState (i : Image) (plan t : Nat) : PlanState := (i.plans.getD plan []).getD t .idle

/-- The placement of a partition is refused (R92, R20). -/
def badPlace (i : Image) (plan : Nat) (p : Partition) : Bool :=
  let q := placeIn plan p
  if q < 16 then imagePlanState i plan q != .joined
  else if q < 48 then imagePlanState i plan ((q - 16) / 2) != .split || p.cls == .s || p.cls == .a
  else true

/-- Placement findings (0x06). -/
def placementFindings (i : Image) : List Finding :=
  (List.range i.plans.length).flatMap fun n => (i.partitions.filter (badPlace i n)).map fun p =>
    { code := 0x06, plan := n, cls := classCode p.cls, part := p.number, location := p.entry }

/-- Words that two partitions can write (0x07). -/
def sharedWriteFindings (ps : List PartInfo) : List Finding :=
  let each := ps.map writesOf
  let twice := (staticWrites ps).filter fun w => 2 ≤ (each.filter fun l => l.contains w).length
  twice.map fun w => { code := 0x07, location := w }

/-- Shared words of a plan (R95): owned on one place, read by a partition on another. -/
def sharedWords (plan : Nat) (ps : List PartInfo) : List Nat :=
  ps.foldl (fun acc o =>
    let others := (ps.filter fun q => placeIn plan q.part != placeIn plan o.part).map readsOf
    ((writesOf o).filter fun w => others.any fun l => l.contains w).foldr insertNat acc) []

/-- Some word strictly between two may not lie in a window of the place: read-only, or written elsewhere (R287). -/
def gapBlocked (e : Entries) (others : List Nat) (lo hi : Nat) : Bool :=
  others.any (fun w => decide (lo < w ∧ w < hi)) ||
    (rangeFrom (lo + 1) (hi - lo - 1)).any fun w => !isWritable e w

/-- The fewest windows over rising words (R287). -/
def windowsOver (e : Entries) (others : List Nat) : List Nat → List (Nat × Nat)
  | [] => []
  | w :: r =>
    match windowsOver e others r with
    | [] => [(w, w)]
    | (a, b) :: t => if gapBlocked e others w a then (w, w) :: (a, b) :: t else (w, b) :: t

/-- Windows of every place that a plan uses (R287). -/
def planWindows (e : Entries) (plan : Nat) (ps : List PartInfo) : List (Nat × List (Nat × Nat)) :=
  let places := ps.foldl (fun l p => insertNat (placeIn plan p.part) l) []
  places.map fun q =>
    (q, windowsOver e (staticWrites (ps.filter fun p => placeIn plan p.part != q))
      (staticWrites (ps.filter fun p => placeIn plan p.part == q)))

/-- Window findings (0x0A). -/
def windowFindings (plan : Nat) (ws : List (Nat × List (Nat × Nat))) : List Finding :=
  (ws.filter fun w => 16 < w.2.length).map fun w =>
    { code := 0x0A, plan := plan, location := w.1, value := w.2.length, limit := 16 }

/-- Words of a guest slot (R388). -/
def isGuestWord (w : Nat) : Bool := decide (0xF1000 ≤ w ∧ w ≤ 0xF1FFF)

/-- Guest reads of class S and A partitions (0x0B), one per instruction. -/
def guestFindings (ps : List PartInfo) : List Finding :=
  (ps.filter fun p => p.part.cls == .s || p.part.cls == .a).flatMap fun p =>
    let is := (p.got.reads.filter fun k => isGuestWord (keyItem k)).foldl (fun l k => insertNat (keyInstr k) l) []
    is.map fun a => { code := 0x0B, part := p.part.number, location := a }

/-- Words of a state map entry (Table 7-2). -/
def entryWords (m : MapEntry) : Nat :=
  match m.kind with
  | .block => m.size
  | .timer => 4
  | .counter => 2
  | _ => 1

/-- A marker, retained or general word (Table 7-2). -/
def plainWord (a : Nat) : Bool := decide (0x10000 ≤ a ∧ a ≤ 0x4FFFF) || decide (0x88000 ≤ a ∧ a ≤ 0xEFFFF)

/-- Region of a plain word: marker, retained or general (Table 4-4). -/
def plainRegion (a : Nat) : Nat := if a ≤ 0x4FFFF then 0 else if a ≤ 0x97FFF then 1 else 2

/-- A name of 1 to 63 printable ASCII characters (R183). -/
def goodName (n : String) : Bool :=
  decide (1 ≤ n.length ∧ n.length ≤ 63) && n.toList.all fun c => decide (32 ≤ c.toNat ∧ c.toNat ≤ 126)

/-- An entry keeps Table 7-2 and the rules on names (R183). -/
def entryOk (m : MapEntry) : Bool :=
  goodName m.name &&
    match m.kind with
    | .bit => plainWord m.address && decide (m.bit ≤ 19)
    | .word => plainWord m.address
    | .block =>
      decide (2 ≤ m.size ∧ m.size ≤ 4096) && plainWord m.address && plainWord (m.address + m.size - 1) &&
        plainRegion m.address == plainRegion (m.address + m.size - 1)
    | .timer => decide (0x50000 ≤ m.address ∧ m.address ≤ 0x6FFFF) && m.address % 4 == 0
    | .counter => decide (0x70000 ≤ m.address ∧ m.address ≤ 0x7FFFF) && m.address % 2 == 0
    | .edge => decide (0x80000 ≤ m.address ∧ m.address ≤ 0x87FFF) && decide (m.bit ≤ 19)

/-- First bit and number of bits of an entry, in bits of the data store. -/
def entryBits (m : MapEntry) : Nat × Nat :=
  match m.kind with
  | .bit | .edge => (m.address * 20 + m.bit, 1)
  | _ => (m.address * 20, entryWords m * 20)

/-- Two entries share a bit. -/
def entriesOverlap (a b : MapEntry) : Bool :=
  let x := entryBits a
  let y := entryBits b
  decide (x.1 < y.1 + y.2 ∧ y.1 < x.1 + x.2)

/-- Entries that break Table 7-2, bear a name already used, or overlap an earlier one; `k` counts the index (R183). -/
def mapFindings : Nat → List MapEntry → List MapEntry → List Finding
  | _, _, [] => []
  | k, earlier, m :: r =>
    let bad := !entryOk m || earlier.any (fun x => x.name == m.name) || decide (65536 ≤ k)
    let overTop := earlier.any (entriesOverlap m)
    (if bad || overTop then [{ code := 0x1A, location := k }] else []) ++ mapFindings (k + 1) (earlier ++ [m]) r

/-- A cell that an instruction addresses has its state map entry (R183). -/
def cellMapped (i : Image) (c : Nat) : Bool :=
  let kind := c / 67108864
  let v := c % 67108864
  i.stateMap.any fun m =>
    match m.kind with
    | .timer => kind == 0 && m.address == v
    | .counter => (kind == 1 || kind == 2 || kind == 4) && m.address == v
    | .edge => kind == 3 && m.address * 20 + m.bit == v
    | _ => false

/-- Instructions whose cell has no entry (R183). -/
def unmappedFindings (i : Image) (ps : List PartInfo) : List Finding :=
  ((allCells ps).filter fun k => !cellMapped i (keyItem k)).map fun k => { code := 0x1A, location := keyInstr k }

/-- CONTROL constant words with TYPE 3 (R113). -/
def constantFindings (i : Image) : List Finding :=
  (i.constants.filter fun p =>
    decide (0x50000 ≤ p.1 ∧ p.1 ≤ 0x6FFFF) && p.1 % 4 == 0 && constantType i p.1 == 3).map fun p =>
      { code := 0x03, value := p.1 }

/-- Revisions of the module (0x2020:01, 0x2020:02). -/
def moduleRevision : Nat := 3

/-- Revision findings (R150). -/
def revisionFindings (i : Image) : List Finding :=
  (if i.isaRev = moduleRevision then [] else [{ code := 0x01, value := i.isaRev, limit := moduleRevision }]) ++
    (if i.costRev = moduleRevision then [] else [{ code := 0x01, value := i.costRev, limit := moduleRevision }])

/-- An image that passes the capacities of R25 and R92, or names no place for a partition, cannot be laid out. DESIGN CHOICE (assumption
log 142): the manual names no finding for it; it is refused with "placement". -/
def capacityFindings (i : Image) : List Finding := if imageOk i then [] else [{ code := 0x06 }]

/-- Every loader finding. -/
def loaderFindings (e : Entries) (i : Image) (ps : List PartInfo) : List Finding :=
  revisionFindings i ++ capacityFindings i ++ encodingFindings i ++ (bodiesOf i).flatMap (structureFindings i) ++
    ps.flatMap (·.got.findings) ++ uncalledFindings e i ++ duplicateCells (allCells ps) ++ constantFindings i ++ placementFindings i ++
    sharedWriteFindings ps ++
    (List.range i.plans.length).flatMap (fun n =>
      let c := (sharedWords n ps).length
      if 16384 < c then [{ code := 0x08, plan := n, value := c, limit := 16384 }] else []) ++
    (List.range i.plans.length).flatMap (fun n => windowFindings n (planWindows e n ps)) ++
    guestFindings ps ++ mapFindings 0 [] i.stateMap ++ unmappedFindings i ps

/-- Findings without repeats, the first of each kept. -/
def dedupe : List Finding → List Finding → List Finding
  | _, [] => []
  | seen, f :: r => if f ∈ seen then dedupe seen r else f :: dedupe (f :: seen) r

end Sys2Proof.Machine
end

