-- ==== Sys2Proof/Machine/Admission.lean ====
section
/-!
DEFINITION. Admission: the terms of a cycle, the checks of stations, launch groups and class bounds, the report, and what
an online change adds (06_cycle_and_admission.md R155–R168; 07_online_change.md R180, R184, R186, R199;
08_redundant_pair.md R220; 15_stations_and_io_exchange.md R390, R397, R401). Times are in solver cycles of 2 ns.
-/
namespace Sys2Proof.Machine

/-- Words of a bit field of `n` points from index `first`, in the image at `base` (Table 4-5). -/
def bitFieldWords (base first n : Nat) : List Nat :=
  if n = 0 then [] else rangeFrom (base + first / 20) ((first + n - 1) / 20 - first / 20 + 1)

/-- Quality words of `n` points from point `p` (R111). -/
def qualityWords (p n : Nat) : List Nat :=
  if n = 0 then [] else rangeFrom (qualityBase + p / 10) ((p + n - 1) / 10 - p / 10 + 1)
where
  /-- First quality word. -/
  qualityBase : Nat := 0x0A000

/-- Words of a station's input image fields. -/
def stationInputWords (e : Entries) (n : Nat) : List Nat :=
  bitFieldWords 0x00000 (cfgFirstDigitalIn e n) (cfgDigitalIns e n) ++
    rangeFrom (0x02000 + cfgFirstAnalogueIn e n) (cfgAnalogueIns e n)

/-- Words of a station's input qualities. -/
def stationInputQuality (e : Entries) (n : Nat) : List Nat :=
  qualityWords (cfgFirstDigitalIn e n) (cfgDigitalIns e n) ++
    qualityWords (163840 + cfgFirstAnalogueIn e n) (cfgAnalogueIns e n)

/-- Words of a station's output image fields. -/
def stationOutputWords (e : Entries) (n : Nat) : List Nat :=
  bitFieldWords 0x01000 (cfgFirstDigitalOut e n) (cfgDigitalOuts e n) ++
    rangeFrom (0x06000 + cfgFirstAnalogueOut e n) (cfgAnalogueOuts e n)

/-- Words of a station's output qualities. -/
def stationOutputQuality (e : Entries) (n : Nat) : List Nat :=
  qualityWords (81920 + cfgFirstDigitalOut e n) (cfgDigitalOuts e n) ++
    qualityWords (180224 + cfgFirstAnalogueOut e n) (cfgAnalogueOuts e n)

/-- The station has output points (R391). -/
def hasOutputs (e : Entries) (n : Nat) : Bool := cfgDigitalOuts e n != 0 || cfgAnalogueOuts e n != 0

/-- Bytes of a part of a station payload: a bit string padded to whole bytes and 3 bytes per analogue point
(Table 15-2). -/
def valueBytes (digital analogue : Nat) : Nat := (digital + 7) / 8 + 3 * analogue

/-- Bytes of the INPUT payload of a station (Table 15-2). -/
def inputBytes (e : Entries) (n : Nat) : Nat :=
  valueBytes (cfgDigitalIns e n) (cfgAnalogueIns e n) + (2 * (cfgDigitalIns e n + cfgAnalogueIns e n) + 7) / 8

/-- Bytes of the OUTPUT payload of a station (Table 15-2). -/
def outputBytes (e : Entries) (n : Nat) : Nat := valueBytes (cfgDigitalOuts e n) (cfgAnalogueOuts e n)

/-- DRAM surcharge of a class B or C station (Table 6-2). -/
def dramSurcharge (e : Entries) (n : Nat) : Nat := if 2 ≤ cfgStationClass e n then 24 else 0

/-- XCH term (R159). -/
def xchTerm (e : Entries) : Nat :=
  600 + ((configuredStations e).map fun n =>
      32 + dramSurcharge e n + 2 * linesOf (stationInputWords e n ++ stationInputQuality e n)).sum +
    ((channelsUsed e).map fun k => 100 + 2 * linesOf (receiveWords e k)).sum + 56 * cfgGuestAllowance e +
    2 * cfgHostAllowance e

/-- Output term (R161). -/
def outputTerm (e : Entries) : Nat :=
  400 + 256 + ((configuredStations e).map fun n =>
      32 + dramSurcharge e n + linesOf (stationOutputWords e n) + 2 * linesOf (stationOutputQuality e n)).sum +
    ((channelsUsed e).map fun k => 100 + linesOf (transmitWords e k)).sum

/-- Solve term of a plan (R160). -/
def solveTerm (plan : Nat) (ps : List PartInfo) : Nat :=
  let places := ps.foldl (fun l p => insertNat (placeIn plan p.part) l) []
  let sums := places.map fun q => ((ps.filter fun p => placeIn plan p.part == q).map (·.path)).sum
  64 + sums.foldl max 256

/-- Output frames: F of R162. -/
def outputFrames (e : Entries) : Nat :=
  ((configuredStations e).filter (hasOutputs e)).length +
    ((channelsUsed e).map fun k => (transmitObjects e k).length).sum

/-- Bytes of the largest weft frame (R162). -/
def weftBytes (e : Entries) (w : Nat) : Nat := 64 + 5 * (w + cfgHostAllowance e) + 8 * outputFrames e

/-- Seam cost of some bytes with two lanes: 0.4 solver cycles each, rounded up. -/
def seamTwo (bytes : Nat) : Nat := (2 * bytes + 4) / 5

/-- Seam cost with one lane: 0.8 solver cycles each, rounded up (R166). -/
def seamOne (bytes : Nat) : Nat := (4 * bytes + 4) / 5

/-- Standby commit time (R163). -/
def commitTime (e : Entries) (w : Nat) : Nat := 200 + 2 * (w + cfgHostAllowance e)

/-- Release allowance (Table 6-2). -/
def releaseAllowance : Nat := 5000

/-- Microseconds as solver cycles. -/
def usCycles (n : Nat) : Nat := 500 * n

/-- Figures of every plan (R158, R164–R166) with its shared words and windows. -/
def planFiguresOf (e : Entries) (ps : List PartInfo) (w plan : Nat) : PlanFigures :=
  let sv := solveTerm plan ps
  let q := xchTerm e + sv + outputTerm e
  let t := q + seamTwo (weftBytes e w)
  { solve := sv, t := t, admitted := max t (usCycles (cfgMinimumCycle e)), q := q, t1 := q + seamOne (weftBytes e w)
    shared := sharedWords plan ps, windows := planWindows e plan ps }

/-- What an accepted admission leaves (R158, R176). -/
def admittedOf (e : Entries) (i : Image) (ps : List PartInfo) : Admitted :=
  let w := (staticWrites ps).length
  { paths := ps.foldl (fun m p => mapPut 0 p.part.number p.path m) []
    xch := xchTerm e, output := outputTerm e, checkpoint := seamTwo (weftBytes e w), bytes := weftBytes e w, words := w
    commit := commitTime e w, plans := (List.range i.plans.length).map (planFiguresOf e ps w) }

/-- Classes in use, ascending (R155). -/
def classesInUse (e : Entries) (i : Image) : List Nat :=
  let a := i.partitions.foldl (fun l p => insertNat (classCode p.cls) l) []
  let b := (configuredStations e).foldl (fun l n => insertNat (cfgStationClass e n) l) a
  (channelsUsed e).foldl (fun l k => insertNat (channelClass e k) l) b

/-- Bound of a class in solver cycles. -/
def boundOf (e : Entries) (c : Nat) : Nat := usCycles (cfgClassBound e c)

/-- Classes in use whose bound is not 0. -/
def boundedClasses (e : Entries) (i : Image) : List Nat := (classesInUse e i).filter fun c => boundOf e c != 0

/-- The class in use with the tightest bound; the first of several (R156). -/
def tightestClass (e : Entries) (i : Image) : Option Nat :=
  (boundedClasses e i).foldl (fun m c => match m with
    | none => some c
    | some d => if boundOf e c < boundOf e d then some c else some d) none

/-- Launch groups in use: of stations and of door transmit objects, with an offset (R164, R346, R368). -/
def groupsInUse (e : Entries) : List Nat :=
  let a := (configuredStations e).foldl (fun l n => insertNat (cfgStationGroupNo e n) l) []
  let b := (channelsUsed e).foldl (fun l k => (transmitObjects e k).foldl (fun l p => insertNat p.2.group l) l) a
  b.filter fun g => g != 0 && cfgLaunchOffset e g != 0

/-- Findings "class not permitted" (R156). -/
def permitFindings (e : Entries) (i : Image) : List Finding :=
  let bad (c : Nat) : Bool := cfgClassBound e c == 0
  ((configuredStations e).filter fun n => bad (cfgStationClass e n)).map (fun n =>
      { code := 0x09, cls := cfgStationClass e n, location := n }) ++
    ((channelsUsed e).filter fun k => bad (channelClass e k)).map (fun k =>
      { code := 0x09, cls := channelClass e k, location := 2 ^ 28 + k }) ++
    (i.partitions.filter fun p => bad (classCode p.cls)).map fun p =>
      { code := 0x09, cls := classCode p.cls, part := p.number, location := 2 * 2 ^ 28 + p.number }

/-- A time in ns as a finding's figure. -/
def ns (n : Nat) : Nat := cyclesNs n

/-- Number of the largest of four terms, the first of equal ones: 1 XCH, 2 solve, 3 output, 4 checkpoint. -/
def largestTerm (x s o c : Nat) : Nat :=
  if s ≤ x ∧ o ≤ x ∧ c ≤ x then 1 else if o ≤ s ∧ c ≤ s then 2 else if c ≤ o then 3 else 4

/-- Cycle bound findings of a plan with their term findings (R168). -/
def boundFindings (e : Entries) (i : Image) (a : Admitted) (p : Nat) (f : PlanFigures) : List Finding :=
  ((boundedClasses e i).filter fun c => boundOf e c < f.admitted).flatMap fun c =>
    let lim := ns (boundOf e c)
    let term (t v : Nat) : Finding := { code := 0x11, plan := p, cls := c, term := t, value := ns v, limit := lim }
    [{ code := 0x10, plan := p, cls := c, term := largestTerm a.xch f.solve a.output a.checkpoint, value := ns f.admitted,
       limit := lim }, term 1 a.xch, term 2 f.solve, term 3 a.output, term 4 a.checkpoint]

/-- Standby commit, launch and one-lane findings of a plan (R163, R164, R166). -/
def planFindings (e : Entries) (i : Image) (a : Admitted) (p : Nat) (f : PlanFigures) : List Finding :=
  boundFindings e i a p f ++
    (if f.admitted < a.commit + releaseAllowance then
      [{ code := 0x12, plan := p, term := 5, value := ns (a.commit + releaseAllowance), limit := ns f.admitted }] else []) ++
    ((groupsInUse e).filter fun g => usCycles (cfgLaunchOffset e g) < f.q + releaseAllowance).map (fun g =>
      { code := 0x13, plan := p, term := 6, location := g, value := ns (usCycles (cfgLaunchOffset e g)),
        limit := ns (f.q + releaseAllowance) }) ++
    match tightestClass e i with
    | some c => if boundOf e c < f.t1 then
        [{ code := 0x20, plan := p, cls := c, value := ns f.t1, limit := ns (boundOf e c) }] else []
    | none => []

/-- Informational finding of an admitted plan (0x21). -/
def admittedFinding (e : Entries) (i : Image) (p : Nat) (f : PlanFigures) : Finding :=
  match tightestClass e i with
  | some c => { code := 0x21, plan := p, cls := c, value := ns f.admitted, limit := ns (boundOf e c) }
  | none => { code := 0x21, plan := p, value := ns f.admitted }

/-- Two fields of points share a point. -/
def fieldsOverlap (a n b m : Nat) : Bool := decide (a < b + m ∧ b < a + n)

/-- A field of station `x` overlaps one of station `y` (R401). -/
def stationsOverlap (e : Entries) (x y : Nat) : Bool :=
  fieldsOverlap (cfgFirstDigitalIn e x) (cfgDigitalIns e x) (cfgFirstDigitalIn e y) (cfgDigitalIns e y) ||
    fieldsOverlap (cfgFirstAnalogueIn e x) (cfgAnalogueIns e x) (cfgFirstAnalogueIn e y) (cfgAnalogueIns e y) ||
    fieldsOverlap (cfgFirstDigitalOut e x) (cfgDigitalOuts e x) (cfgFirstDigitalOut e y) (cfgDigitalOuts e y) ||
    fieldsOverlap (cfgFirstAnalogueOut e x) (cfgAnalogueOuts e x) (cfgFirstAnalogueOut e y) (cfgAnalogueOuts e y)

/-- Station configuration findings (0x0D) of station `n` (R390, R397, R401). -/
def stationFindings (e : Entries) (n : Nat) : List Finding :=
  let f (value limit : Nat) : Finding := { code := 0x0D, location := n, value := value, limit := limit }
  let past (first count size : Nat) : List Finding :=
    if count ≠ 0 ∧ size < first + count then [f (first + count) size] else []
  let g := cfgStationGroupNo e n
  (if (configuredStations e).any fun m => decide (m < n) && stationsOverlap e n m then [f 0 0] else []) ++
    past (cfgFirstDigitalIn e n) (cfgDigitalIns e n) 81920 ++ past (cfgFirstAnalogueIn e n) (cfgAnalogueIns e n) 16384 ++
    past (cfgFirstDigitalOut e n) (cfgDigitalOuts e n) 81920 ++
    past (cfgFirstAnalogueOut e n) (cfgAnalogueOuts e n) 16384 ++
    (if 1456 < inputBytes e n then [f (inputBytes e n) 1456] else []) ++
    (if 1456 < outputBytes e n then [f (outputBytes e n) 1456] else []) ++
    (if g ≠ 0 ∧ (cfgLaunchOffset e g = 0 ∨ cfgGroupClass e g ≠ cfgStationClass e n) then [f 0 0] else []) ++
    (if cfgSubstituteMode e n = 2 ∧ (cfgSubstitutes e n).length ≠ valueBytes (cfgDigitalIns e n) (cfgAnalogueIns e n) then
      [f 0 0] else [])

/-- Hold time finding (0x0C) of station `n` (R220, R401). -/
def holdFindings (e : Entries) (a : Admitted) (n : Nat) : List Finding :=
  let t := (a.plans.map (·.admitted)).foldl max 0
  let q := (a.plans.map (·.q)).foldl max 0
  let g := cfgStationGroupNo e n
  let off := if g = 0 then q else usCycles (cfgLaunchOffset e g)
  let need := ns t + ns off + 1000 * cfgNetworkBound e (cfgStationClass e n) + 6000000
  let hold := 1000000 * cfgHoldTime e n
  if hasOutputs e n && decide (hold < need) then [{ code := 0x0C, location := n, value := hold, limit := need }] else []

/-- The finding only informs (Table 6-5, Table 7-6). -/
def informational (f : Finding) : Bool := f.code == 0x20 || f.code == 0x21 || f.code == 0x22 || f.code == 0x23

/-- Order of the findings: by CODE, term findings with the cycle bound finding they follow (R168). -/
def findingKey (f : Finding) : Nat := if f.code = 0x11 then 0x10 else f.code

/-- Plan with the largest admitted cycle, and that cycle; the lowest plan of equal ones. -/
def worstPlan (l : List PlanFigures) : Nat × Nat :=
  (l.foldl (fun (acc : Nat × Nat × Nat) f =>
    if acc.2.1 < f.admitted then (acc.1 + 1, f.admitted, acc.1) else (acc.1 + 1, acc.2)) (0, 0, 0)).2

/-- The report over some findings (R168). -/
def reportOf (i : Image) (trigger : Nat) (a : Admitted) (info : List Finding) (fs : List Finding) : Report :=
  let refused := fs.any fun f => !informational f
  let all := sortBy findingKey (if refused then fs else fs ++ info)
  { image := i.identity, refused := refused, trigger := trigger, count := all.length
    worstCycle := ns (worstPlan a.plans).1, worstPlan := (worstPlan a.plans).2, findings := all.take 64 }

/-- Findings of an image against a configuration, without those of a change. -/
def admissionFindings (e : Entries) (i : Image) (ps : List PartInfo) (a : Admitted) : List Finding :=
  let numbered := (List.range a.plans.length).zip a.plans
  dedupe [] (loaderFindings e i ps) ++ permitFindings e i ++ numbered.flatMap (fun x => planFindings e i a x.1 x.2) ++
    (configuredStations e).flatMap (holdFindings e a) ++ (configuredStations e).flatMap (stationFindings e)

/-- Admission of an image against a configuration, with further findings of a change: the report and the figures. -/
def admissionOf (e : Entries) (i : Image) (trigger : Nat) (more : List Finding) : Report × Admitted :=
  let ps := partInfos e i
  let a := admittedOf e i ps
  let info := ((List.range a.plans.length).zip a.plans).map fun x => admittedFinding e i x.1 x.2
  (reportOf i trigger a info (admissionFindings e i ps a ++ more), a)

/-- TYPE, BASE of a timer's CONTROL in an image; other fields are 0 (R113). -/
def controlConstant (i : Image) (address : Nat) : Word := mapVal 0 address i.constants &&& 0x1E000

/-- How one entry of the new map is carried (R184, R187). -/
inductive Carry where
  | fresh
  | carried (old : MapEntry)
  deriving DecidableEq, Repr

/-- Entry of the old map with a name. -/
def namedEntry (i : Image) (n : String) : Option MapEntry := i.stateMap.find? fun m => m.name == n

/-- A timer's TYPE differs between the images (R187). -/
def timerRestarts (old new : Image) (o m : MapEntry) : Bool :=
  m.kind == .timer && constantType old o.address != constantType new m.address

/-- How entry `m` of the new image is carried from the old one (R184, R187). -/
def carryOf (old new : Image) (m : MapEntry) : Carry :=
  match namedEntry old m.name with
  | some o => if o.kind = m.kind ∧ m.reinit = false ∧ timerRestarts old new o m = false then .carried o else .fresh
  | none => .fresh

/-- Words counted in C for an entry (Table 7-2). -/
def carriedWords (old new : Image) (m : MapEntry) : Nat :=
  match carryOf old new m with
  | .carried o => if m.kind = .block then min m.size o.size else entryWords m
  | .fresh => 0

/-- C of R186. -/
def carriedTotal (old new : Image) : Nat := (new.stateMap.map (carriedWords old new)).sum

/-- The rebuilt region (R185). -/
def inRebuilt (a : Nat) : Bool := decide (0x10000 ≤ a ∧ a ≤ 0xEFFFF)

/-- Words of the rebuilt region that hold a carried word. -/
def carriedTargets (old new : Image) : List Nat :=
  new.stateMap.flatMap fun m => rangeFrom m.address (if carriedWords old new m = 0 then 0 else
    (if m.kind = .block then carriedWords old new m else entryWords m))

/-- Switch time in solver cycles: 64 + ⌈C/32⌉ + ⌈L/32⌉ (R186). -/
def switchTime (e : Entries) (old new : Image) : Nat :=
  let ws := staticWrites (partInfos e old) ++ old.constants.map (·.1) ++ new.constants.map (·.1) ++ carriedTargets old new
  let l := linesOf (ws.filter inRebuilt)
  64 + (carriedTotal old new + 31) / 32 + (l + 31) / 32

/-- Findings of the state maps of a change, with the index of the new entry (R184, R187, Table 7-6). -/
def changeMapFindings (old new : Image) : Nat → List MapEntry → List Finding
  | _, [] => []
  | k, m :: r =>
    let here : List Finding := match namedEntry old m.name with
      | none => []
      | some o =>
        if m.reinit then []
        else if o.kind ≠ m.kind then [{ code := 0x16, location := k }]
        else if timerRestarts old new o m then [{ code := 0x22, location := k }]
        else if m.kind = .block ∧ m.size ≠ o.size then [{ code := 0x23, location := k, value := m.size, limit := o.size }]
        else []
    here ++ changeMapFindings old new (k + 1) r

/-- Lanes that a plan of an image uses (R96). -/
def lanesOf (i : Image) (plan : Nat) : List Nat :=
  ((List.range 16).filter fun t => imagePlanState i plan t != .idle).flatMap fun t => [2 * t, 2 * t + 1]

/-- The lane is marked failed (R102). -/
def laneFailed (failed : BitVec 32) (n : Nat) : Bool := failed.getLsbD n

/-- Findings that a change adds (R180, R199). -/
def changeFindings (e : Entries) (old new : Image) (ao an : Admitted) (plan : Nat) (failed : BitVec 32) : List Finding :=
  let s := switchTime e old new
  let u := switchTime e new old
  let c := carriedTotal old new
  let same := decide (plan < new.plans.length) &&
    (List.range 16).all fun t => imagePlanState new plan t == imagePlanState old plan t
  let newCycle := (an.plans.getD plan {}).admitted
  let oldCycle := (ao.plans.getD plan {}).admitted
  (if newCycle < ao.commit + s then
      [{ code := 0x12, plan := plan, term := 5, value := ns (ao.commit + s), limit := ns newCycle }] else []) ++
    (if oldCycle < an.commit + u then
      [{ code := 0x12, plan := plan, term := 5, value := ns (an.commit + u), limit := ns oldCycle }] else []) ++
    (if an.xch < s then [{ code := 0x14, value := ns s, limit := ns an.xch }] else []) ++
    (if same then [] else [{ code := 0x15, plan := plan, location := plan }]) ++
    (if 393216 < c then [{ code := 0x17, value := c, limit := 393216 }] else []) ++
    (if ao.xch < u then [{ code := 0x18, value := ns u, limit := ns ao.xch }] else []) ++
    ((lanesOf new plan).filter (laneFailed failed)).map (fun n => { code := 0x19, plan := plan, location := n }) ++
    changeMapFindings old new 0 new.stateMap

/-- Bytes of a finding record (Table 6-4). -/
def findingBytes (f : Finding) : List Byte :=
  leBytes 1 f.code ++ leBytes 1 f.plan ++ leBytes 1 f.cls ++ leBytes 1 f.term ++ leBytes 2 f.part ++ leBytes 2 0 ++
    leBytes 4 f.location ++ leBytes 4 f.value ++ leBytes 4 f.limit

/-- The report as 0x2033:01 gives it (Table 6-3). -/
def reportBytes (r : Report) : List Byte :=
  leBytes 4 r.image.toNat ++ leBytes 1 (if r.refused then 1 else 0) ++ leBytes 1 r.trigger ++ leBytes 2 r.count ++
    leBytes 4 r.worstCycle ++ leBytes 1 r.worstPlan ++ leBytes 3 0 ++ r.findings.flatMap findingBytes

end Sys2Proof.Machine
end

