-- ==== Sys2Proof/Machine/LoomOps.lean ====
section
/-!
DEFINITION. The event loom: reports of the module, intake queues, open events and their closing
(15_stations_and_io_exchange.md R398–R400).
-/
namespace Sys2Proof.Machine

/-- Loom of a class, 0 S to 3 C. -/
def loom (c : Nat) (s : State) : Loom := mapVal {} c s.stations.loom

/-- Loom of a class changed by `f`. -/
def modLoom (c : Nat) (f : Loom → Loom) (s : State) : State :=
  { s with stations.loom := mapMod {} c f s.stations.loom }

/-- A report enters the intake queue of its class, or is dropped when the queue is full (R399). -/
def intake (c : Nat) (r : LoomReport) (s : State) : State :=
  modLoom c (fun l =>
    if l.intake.length < 1024 then { l with intake := l.intake ++ [r] }
    else { l with dropped := satU32 (l.dropped + 1), lossDue := true }) s

/-- A report of the module (Table 15-8). The manual gives it no argument: a free value (assumption log 2). -/
def report (c category detail kind number severity : Nat) (s : State) : State :=
  let d := drawNat s
  intake c { key := BitVec.ofNat 32 (category * 2 ^ 24 + detail * 2 ^ 16), reporter := BitVec.ofNat 16 (kind * 2 ^ 14 + number),
             stamp := timeBase s, severity := severity, arg := BitVec.ofNat 64 d.1 } d.2

/-- A report about station `n` (Table 15-8). -/
def stationReport (category detail n severity : Nat) (s : State) : State :=
  report (cfgStationClass s.nsp.inForce n) category detail 0 n severity s

/-- Open events of a class, the overflow event apart, changed where they hold key `k`. -/
def joinEvent (r : LoomReport) (e : LoomEvent) : LoomEvent :=
  let e := { e with reports := e.reports + 1, last := r.stamp, severity := max e.severity r.severity }
  if r.reporter ∈ e.reporters then e
  else { e with reporters := e.reporters ++ [r.reporter], reporterOverflow := e.reporterOverflow || 16 ≤ e.reporters.length }

/-- A new event from its first report (R400). -/
def newEvent (r : LoomReport) : LoomEvent :=
  { key := r.key, severity := r.severity, reports := 1, reporters := [r.reporter], first := r.stamp, last := r.stamp
    arg := r.arg.setWidth 32 }

/-- A taken report joins, opens or overflows (R400). `now` is the time base. -/
def handleReport (c : Nat) (r : LoomReport) (s : State) : State :=
  let slots := setOpenSlots s.nsp.settings c
  let budget := setEventBudget s.nsp.settings c
  let now := timeBase s
  modLoom c (fun l =>
    let opened := l.opened.filter fun t => decide (now < t + 1000000000)
    if l.events.any (·.key == r.key) then
      { l with events := l.events.map fun e => if e.key = r.key then joinEvent r e else e, opened := opened }
    else if l.events.length < slots ∧ opened.length < budget then
      { l with events := l.events ++ [newEvent r], opened := opened ++ [now] }
    else
      let e := match l.overflow with
        | some e => joinEvent r e
        | none => { newEvent r with key := 0, overflowEvent := true }
      { l with overflow := some e, opened := opened, inOverflow := satU32 (l.inOverflow + 1) }) s

/-- A closed event enters the ring of its class and the quilt (R400). The open list no longer holds it. -/
def closeEvent (c : Nat) (e : LoomEvent) (s : State) : State :=
  let e := { e with loss := (loom c s).lossDue }
  let s := modLoom c (fun l =>
    let full := 1024 ≤ l.ring.length
    { l with
      ring := (if full then l.ring.drop 1 else l.ring) ++ [e]
      readMarks := if full then l.readMarks - 1 else l.readMarks
      overwritten := if full then satU32 (l.overwritten + 1) else l.overwritten
      closed := satU32 (l.closed + 1)
      lossDue := false }) s
  logEvent (.loom c e) s

/-- The open event of a key; key 0 with no event of its own names the overflow event (R400). -/
def openEvent (c : Nat) (key : BitVec 32) (s : State) : Option LoomEvent :=
  match (loom c s).events.find? (·.key == key) with
  | some e => some e
  | none => if key = 0 then (loom c s).overflow else none

/-- An open event of a class closes (R400). -/
def closeKey (c : Nat) (key : BitVec 32) (byLimit : Bool) (s : State) : State :=
  match openEvent c key s with
  | none => s
  | some e =>
    let s := modLoom c (fun l =>
      if l.events.any (·.key == key) then { l with events := l.events.filter (·.key != key) }
      else { l with overflow := none }) s
    closeEvent c { e with closedByLimit := byLimit } s

end Sys2Proof.Machine
end

