-- ==== Sys2Proof/Machine/Exchange.lean ====
section
/-!
DEFINITION. The XCH phase: system words, held host writes, station inputs, door mailboxes, local inputs, guest slots
(06_cycle_and_admission.md R151, R172; 04_logic_solver.md R108, R111, R119; 14_door_buses.md R363, R364;
15_stations_and_io_exchange.md R384, R388–R393; 07_online_change.md R185–R188).
-/
namespace Sys2Proof.Machine

/-- The module writes a word of a region it alone writes: not recorded by the written-word logger (R18, R211). -/
def moduleWrite (a : Nat) (v : Word) (s : State) : State :=
  { s with solver.store := mapPut 0 a v s.solver.store }

/-- Words written in order. -/
def moduleWrites (l : List (Nat × Word)) (s : State) : State := l.foldl (fun s p => moduleWrite p.1 p.2 s) s

/-- Quality `q` of point `p` is written (R111). -/
def setQuality (p : Nat) (q : BitVec 2) (s : State) : State :=
  let k := 2 * (p % 10)
  moduleWrite (qualityWord p) ((storeAt (qualityWord p) s &&& ~~~(3#20 <<< k)) ||| (q.setWidth 20 <<< k)) s

/-- Quality of point `p` as the store holds it. -/
def qualityNow (p : Nat) (s : State) : BitVec 2 := qualityOf p (storeAt (qualityWord p) s)

/-- The FIRST_AFTER flags and the mode as W#0xF0004 (Table 3-10). -/
def startFlags (s : State) : Word := s.modes.firstFlags.setWidth 20 ||| (BitVec.ofNat 20 (modeCode s.modes.mode) <<< 8)

/-- PART_FAULT word `w` (Table 4-10). -/
def partFault (w : Nat) (s : State) : Word := (s.solver.faulted >>> (20 * w)).setWidth 20

/-- CYCLE_DELTA: µs from the start before to this start, both in the time base, truncated and saturated (R119, R120). -/
def cycleDeltaOf (s : State) : Nat :=
  match s.cycle.previousStart with
  | some p => min 1048575 ((Int.ofNat s.cycle.startTime - p).toNat / 1000)
  | none => 0

/-- The system words of the cycle (Table 4-10). -/
def systemWords (s : State) : List (Nat × Word) :=
  let c := s.cycle.counter.toNat
  let t := s.cycle.startTime
  let w (n : Nat) : Word := BitVec.ofNat 20 n
  [(0xF0000, w c), (0xF0001, w (c / 2 ^ 20)), (0xF0002, w (cycleDeltaOf s)), (0xF0003, w s.cycle.last),
   (0xF0004, startFlags s), (0xF0005, w (min 1048575 (cycleBoundUs s))), (0xF0006, w s.solver.plan),
   (0xF0008, w (t % 1000000000)), (0xF0009, w (t % 1000000000 / 2 ^ 20)), (0xF000A, w (t / 1000000000)),
   (0xF000B, w (t / 1000000000 / 2 ^ 20)), (0xF000C, w (t / 1000000000 / 2 ^ 40 % 256))] ++
    (List.range 13).map fun i => (0xF0020 + i, partFault i s)

/-! ### Rebuild by the switch engine -/

/-- A word with its masked bits replaced. -/
def maskedWord (old v mask : Word) : Word := (old &&& ~~~mask) ||| (v &&& mask)

/-- The time of a carried timer in its new base: ELAPSED and RESIDUAL (R187). -/
def convertTime (oldBase newBase elapsed residual : Nat) : Nat × Nat :=
  if oldBase = newBase then (elapsed, residual)
  else
    let total := elapsed * oldBase + residual
    (min (total / newBase) 1048575, total % newBase)

/-- Base of a timer in µs from its CONTROL word (Table 4-8). -/
def baseOf (w : Word) : Nat := 1000 * 10 ^ bitsOf w.toNat 13 2

/-- Words that entry `m` of the new image gives the rebuilt region; `src` reads the store before (R184–R187). -/
def rebuiltEntry (old new : Image) (src : Nat → Word) (m : MapEntry) (st : SMap Word) : SMap Word :=
  let put (a : Nat) (v : Word) (st : SMap Word) : SMap Word := mapPut 0 a v st
  match carryOf old new m with
  | .fresh =>
    if m.kind = .timer then
      put (m.address + 3) 0 (put (m.address + 2) 0 (put m.address (controlConstant new m.address) st))
    else st
  | .carried o =>
    match m.kind with
    | .bit => put m.address (withBit (mapVal 0 m.address st) m.bit ((src o.address).getLsbD o.bit)) st
    | .edge =>
      put (edgeAddress m) (withBit (mapVal 0 (edgeAddress m) st) m.bit ((src (edgeAddress o)).getLsbD o.bit)) st
    | .word => put m.address (src o.address) st
    | .counter => put (m.address + 1) (src (o.address + 1)) (put m.address (src o.address) st)
    | .block => (List.range (min m.size o.size)).foldl (fun st i => put (m.address + i) (src (o.address + i)) st) st
    | .timer =>
      let c := controlConstant new m.address
      let t := convertTime (baseOf (controlConstant old o.address)) (baseOf c) (src (o.address + 2)).toNat
        (src (o.address + 3)).toNat
      put (m.address + 3) (BitVec.ofNat 20 t.2) (put (m.address + 2) (BitVec.ofNat 20 t.1)
        (put m.address (c ||| (src o.address &&& 0xE0000)) st))
where
  /-- Word of an edge entry (Table 7-2). -/
  edgeAddress (m : MapEntry) : Nat := m.address

/-- The store after the rebuild of 0x10000–0xEFFFF (R185, R186). -/
def rebuiltStore (old new : Image) (st : SMap Word) : SMap Word :=
  let kept := st.filter fun p => !inRebuilt p.1
  let base := new.constants.foldl (fun m p => if inRebuilt p.1 then mapPut 0 p.1 p.2 m else m) kept
  new.stateMap.foldl (fun m e => rebuiltEntry old new (fun a => mapVal 0 a st) e m) base

/-- Entries of a kind that are new (R184). -/
def freshEntries (old new : Image) (k : MapKind) : List MapEntry :=
  new.stateMap.filter fun m => m.kind == k && carryOf old new m == .fresh

/-- Timers of the same name whose TYPE differs (R187, 0x2041:08). -/
def restartedTimers (old new : Image) : Nat :=
  (new.stateMap.filter fun m => match namedEntry old m.name with
    | some o => o.kind == m.kind && !m.reinit && timerRestarts old new o m
    | none => false).length

/-- The word belongs to the mirror: counter cells and retained region (R117). -/
def inMirror (a : Nat) : Bool := decide (0x70000 ≤ a ∧ a ≤ 0x7FFFF) || decide (0x88000 ≤ a ∧ a ≤ 0x97FFF)

/-- Words of a store that the mirror holds. -/
def mirrorWords (st : SMap Word) : List (Nat × Word) := st.filter fun p => inMirror p.1

/-- The switch engine rebuilds the region from the images of the two banks, the first-cycle mask is set, and the mirror
engine starts a base from the rebuilt store (R186, R188, R194). -/
def rebuildRegion (s : State) : State :=
  match shadowImage s, activeImage s with
  | some old, some new =>
    let st := rebuiltStore old new s.solver.store
    { s with
      solver.store := st
      solver.mirror.newBase :=
        some (new.identity, { cycle := s.cycle.counter - 1, words := mirrorWords st, time := s.network.time.now })
      change.maskEdges := (freshEntries old new .edge).map fun m => edgeNumber (BitVec.ofNat 20 m.address) m.bit
      change.maskCounters := (freshEntries old new .counter).map (·.address)
      cycle.rebuild := false }
  | _, _ => { s with cycle.rebuild := false }

/-! ### Host writes -/

/-- A held host write is applied and recorded as written in this cycle (R108). -/
def applyHostWrite (h : HostWrite) (s : State) : State :=
  { s with
    solver.store := mapPut 0 h.address (maskedWord (storeAt h.address s) h.value h.mask) s.solver.store
    solver.written := insertNat h.address s.solver.written }

/-- At most the allowance of held host writes is applied in order of arrival; the rest are carried (R172). -/
def applyHostWrites (s : State) : State :=
  let n := cfgHostAllowance s.nsp.inForce
  let rest := s.cycle.hostWrites.drop n
  let fresh := (rest.filter fun h => !h.carried).length
  let s := (s.cycle.hostWrites.take n).foldl (fun s h => applyHostWrite h s) s
  { s with
    cycle.hostWrites := rest.map fun h => { h with carried := true }
    cycle.deferred := satU32 (s.cycle.deferred + fresh) }

/-! ### Stations -/

/-- Input points of a station, digital first. -/
def inputPoints (e : Entries) (n : Nat) : List Nat :=
  rangeFrom (cfgFirstDigitalIn e n) (cfgDigitalIns e n) ++ rangeFrom (163840 + cfgFirstAnalogueIn e n) (cfgAnalogueIns e n)

/-- Output points of a station, digital first. -/
def outputPoints (e : Entries) (n : Nat) : List Nat :=
  rangeFrom (81920 + cfgFirstDigitalOut e n) (cfgDigitalOuts e n) ++
    rangeFrom (180224 + cfgFirstAnalogueOut e n) (cfgAnalogueOuts e n)

/-- Values of a station's input points from the first two parts of an INPUT payload (Table 15-2). -/
def writeInputs (n : Nat) (bytes : List Byte) (s : State) : State :=
  let e := s.nsp.inForce
  let d := cfgDigitalIns e n
  let bit (s : State) (j : Nat) : State :=
    let i := cfgFirstDigitalIn e n + j
    moduleWrite (i / 20) (withBit (storeAt (i / 20) s) (i % 20) (bitAt j bytes)) s
  let word (s : State) (j : Nat) : State :=
    moduleWrite (0x02000 + cfgFirstAnalogueIn e n + j) (BitVec.ofNat 20 (fieldLe ((d + 7) / 8 + 3 * j) 3 bytes)) s
  (List.range (cfgAnalogueIns e n)).foldl word ((List.range d).foldl bit s)

/-- Reported qualities of a station's input points (Table 15-2). -/
def writeReported (n : Nat) (bytes : List Byte) (s : State) : State :=
  let e := s.nsp.inForce
  let q := bytes.drop (valueBytes (cfgDigitalIns e n) (cfgAnalogueIns e n))
  let pts := inputPoints e n
  ((List.range pts.length).zip pts).foldl (fun s x =>
    setQuality x.2 (BitVec.ofNat 2 ((bitAt (2 * x.1) q).toNat + 2 * (bitAt (2 * x.1 + 1) q).toNat)) s) s

/-- Quality while the hold count lasts: GOOD becomes HELD, the others stay (Table 15-5). -/
def heldQuality (q : BitVec 2) : BitVec 2 := if q = 3 then 2 else q

/-- Input points of a station without a fresh frame (Table 15-5). -/
def substituteStation (n : Nat) (s : State) : State :=
  let e := s.nsp.inForce
  let st := station n s
  let all (q : Nat → State → BitVec 2) (s : State) : State :=
    (inputPoints e n).foldl (fun s p => setQuality p (q p s) s) s
  if st.everComplete = false then all (fun _ _ => 0) (writeInputs n [] s)
  else if st.missed ≤ cfgHoldCount e n then all (fun p s => heldQuality (qualityNow p s)) s
  else
    let s := if cfgSubstituteMode e n = 1 then writeInputs n [] s
      else if cfgSubstituteMode e n = 2 then writeInputs n (cfgSubstitutes e n) s else s
    all (fun _ _ => 1) s

/-- A station leaves JOINING: its alarm clears (R393). -/
def leaveJoining (n : Nat) (s : State) : State :=
  clearAlarm .stationResyncSlow n (modStation n (fun x => { x with resyncSlow := false, resyncCycle := none }) s)

/-- A station enters JOINING (Table 15-3). -/
def enterJoining (n : Nat) (s : State) : State :=
  modStation n (fun x => { x with state := .joining, resyncCycle := none, resyncSlow := false }) s

/-- A station state other than JOINING is entered; leaving JOINING and MISMATCH clears their alarms (R385, R393). -/
def enterStation (n : Nat) (k : StationState) (s : State) : State :=
  let old := (station n s).state
  let s := modStation n (fun x => { x with state := k }) s
  let s := if old = .joining ∧ k ≠ .joining then leaveJoining n s else s
  if s.stations.stations.any (fun p => p.2.state == .mismatch) then s else clearAlarm .stationMismatch 0 s

/-- Ring of a station as a number, for key bits [23:16] (Table 15-8). -/
def ringKey (n : Nat) (s : State) : Nat := cfgStationRing s.nsp.inForce n

/-- A frozen INPUT frame confirms the resynchronisation: STATE 0 with the CYCLE of the first RESYNC frame or a later one;
a station without outputs needs only the frame (R393). -/
def confirms (n : Nat) (f : InputFrame) (s : State) : Bool :=
  if hasOutputs s.nsp.inForce n then
    match (station n s).resyncCycle with
    | some c => f.state == 0 && decide ((f.cycle - c).toNat < 2 ^ 39)
    | none => false
  else true

/-- State changes of a station at the freeze (R384, R393). -/
def freezeStation (n : Nat) (s : State) : State :=
  let s := modStation n (fun x => { x with frozen := x.latest }) s
  let st := station n s
  let s := match st.frozen with
    | some f =>
      if st.state = .joining ∧ confirms n f s then
        stationReport 0x02 (ringKey n s) n 1 (enterStation n .inService s)
      else if st.state = .inService ∧ f.state = 2 then enterJoining n s
      else s
    | none => s
  modStation n (fun x => { x with atFreeze := x.state }) s

/-- XCH work of one station (R390). -/
def exchangeStation (n : Nat) (s : State) : State :=
  let st := station n s
  let active := st.atFreeze = .joining ∨ st.atFreeze = .inService
  match st.frozen with
  | some f =>
    if active then
      writeReported n f.payload (writeInputs n f.payload (modStation n (fun x => { x with
        missed := 0, lastFrozenState := f.state }) s))
    else substituteStation n (modStation n (fun x => { x with missed := satU16 (x.missed + 1) }) s)
  | none => substituteStation n (modStation n (fun x => { x with missed := satU16 (x.missed + 1) }) s)

/-! ### Door mailboxes -/

/-- The channel is bus-off: recovering or held (R375). -/
def busOff (c : Channel) : Bool := c.state == 3 || c.state == 4

/-- The channel is impaired: bus-off or alone (R377). -/
def impaired (k : Nat) (s : State) : Bool := busOff (channel k s) || (channel k s).alone

/-- The channel has transmit objects with TWIN set. -/
def hasTwin (k : Nat) (s : State) : Bool := (transmitObjects s.nsp.inForce k).any fun p => p.2.twin

/-- Messages of this channel are copied to its twin (Table 14-7 TWIN_OUT, 0x7001:06). -/
def twinOpen (k : Nat) (s : State) : Bool := impaired k s && hasTwin k s

/-- Channel status words w0 to w3 (Table 14-7). -/
def channelWords (k : Nat) (s : State) : List Word :=
  let c := channel k s
  let inw := twinOpen (twinOf k) s || !c.twinQueue.isEmpty
  let tec := if busOff c then 255 else min 255 c.tecCount
  [BitVec.ofNat 20 (c.state * 2 ^ 17 + c.alone.toNat * 2 ^ 16 + (twinOpen k s).toNat * 2 ^ 15 + inw.toNat * 2 ^ 14 +
      c.time.master * 2 ^ 12),
   BitVec.ofNat 20 (tec * 2 ^ 12 + min 255 c.recCount * 2 ^ 4),
   BitVec.ofNat 20 (min 1023 c.expiredCycle * 2 ^ 10 + min 1023 c.rejectedCycle), 0]

/-- Object `o` of channel `k`. -/
def doorObject (k o : Nat) (s : State) : DoorObject := mapVal {} o (channel k s).objects

/-- Object changed by `f`. -/
def modObject (k o : Nat) (f : DoorObject → DoorObject) (s : State) : State :=
  modChannel k (fun c => { c with objects := mapMod {} o f c.objects }) s

/-- AGE of a frozen message, unit 100 µs, saturating (Table 14-8). -/
def ageOf (stamp : Nat) (s : State) : Nat := min 65535 ((s.cycle.startTime - stamp) / 100000)

/-- The frozen message of a receive object is fresh (R364). -/
def freshObject (d : DoorDesc) (x : DoorObject) (s : State) : Bool :=
  match x.frozen with
  | some m => (d.period == 0 && 2 ≤ d.cls) || decide (ageOf m.stamp s ≤ 10 * d.period)
  | none => false

/-- XCH work of one receive object of channel `k` (R364, R390, Table 14-8). -/
def exchangeReceive (k o : Nat) (d : DoorDesc) (s : State) : State :=
  let s := modObject k o (fun x => { x with frozen := x.latest }) s
  let x := doorObject k o s
  let a := mailboxWord k d.statusOffset
  let put (ws : List Word) (s : State) : State := moduleWrites ((dataAddresses k d).zip ws) s
  let zeros := List.replicate (dataWords d) (0 : Word)
  let status (q : Nat) (s : State) : State :=
    match x.frozen with
    | some m => moduleWrite a (BitVec.ofNat 20 (q * 2 ^ 18 + (decide (x.previousSeq ≠ some m.seq)).toNat * 2 ^ 17 +
        m.twin.toNat * 2 ^ 16 + ageOf m.stamp s)) s
    | none => moduleWrite a (BitVec.ofNat 20 (q * 2 ^ 18)) s
  let note (s : State) : State := modObject k o (fun y => { y with
      previousSeq := match x.frozen with | some m => some m.seq | none => none }) s
  let before := storeAt a s >>> 18
  match x.frozen with
  | some m =>
    if freshObject d x s then
      note (status 3 (put (packData d m.data) (modObject k o (fun y => { y with missed := 0 }) s)))
    else
      let missed := satU16 (x.missed + 1)
      let s := modObject k o (fun y => { y with missed := missed }) s
      let u := 64 * k + d.unit
      if missed ≤ cfgDoorHoldCount s.nsp.inForce u then note (status (heldQuality (before.setWidth 2)).toNat s)
      else
        let s := if cfgDoorSubstituteMode s.nsp.inForce u = 1 then put zeros s else s
        note (status 1 s)
  | none => note (status 0 (put zeros (modObject k o (fun y => { y with missed := satU16 (y.missed + 1) }) s)))

/-- A message of the object is queued on the home channel or as a copy (Table 14-9 PENDING). -/
def objectPending (k o : Nat) (s : State) : Bool :=
  (channel k s).queue.any (fun m => m.object == o) ||
    (channel (twinOf k) s).twinQueue.any fun m => m.home == k && m.object == o

/-- XCH work of one transmit object: its status word (Table 14-9). -/
def exchangeTransmit (k o : Nat) (d : DoorDesc) (s : State) : State :=
  let x := doorObject k o s
  let s := moduleWrite (mailboxWord k d.statusOffset) (BitVec.ofNat 20 (x.result * 2 ^ 18 +
    (objectPending k o s).toNat * 2 ^ 17 + x.superseded.toNat * 2 ^ 16 + x.seq.toNat)) s
  modObject k o (fun x => { x with superseded := false }) s

/-- Door units that objects of a channel serve, ascending (R355). -/
def unitsOf (e : Entries) (k : Nat) : List Nat := (objectsOf e k).foldl (fun l p => insertNat p.2.unit l) []

/-- Class of the objects of a unit, for its reports: that of its first receive object (R398). -/
def unitClass (e : Entries) (k u : Nat) : Nat :=
  match (receiveObjects e k).find? fun p => p.2.unit == u with | some p => p.2.cls | none => 3

/-- Presence of a door unit after the channel's objects have been exchanged (R389). -/
def exchangeUnit (k u : Nat) (s : State) : State :=
  let n := 64 * k + u
  let fresh := (receiveObjects s.nsp.inForce k).any fun p => p.2.unit == u && freshObject p.2 (doorObject k p.1 s) s
  let was := (mapVal {} n s.stations.units : DoorUnit).present
  let s := { s with stations.units := mapMod {} n (fun x => { x with
      present := fresh
      changes := if fresh = was then x.changes else satU32 (x.changes + 1)
      resync := fresh && !was }) s.stations.units }
  if fresh = was then s else report (unitClass s.nsp.inForce k u) 0x06 k 1 n 1 s

/-- XCH work of one channel in use (R151, R363, R364). -/
def exchangeChannel (k : Nat) (s : State) : State :=
  let e := s.nsp.inForce
  let s := moduleWrites (((List.range 4).map (mailboxWord k)).zip (channelWords k s)) s
  let s := (objectsOf e k).foldl (fun s p =>
    if p.2.dir = 1 then exchangeReceive k p.1 p.2 s else exchangeTransmit k p.1 p.2 s) s
  let s := modChannel k (fun c => { c with expiredCycle := 0, rejectedCycle := 0 }) s
  (unitsOf e k).foldl (fun s u => exchangeUnit k u s) s

/-! ### Local inputs and guests -/

/-- The local input words are copied (R404). -/
def exchangeLocal (s : State) : State :=
  (rangeFrom 0x0F000 0x35).foldl (fun s a => moduleWrite a (localWord a s) s) s

/-- Words of an occupied guest slot (R388, Table 15-4). -/
def guestWords (g : Guest) (s : State) : List Word :=
  let head := BitVec.ofNat 20 (2 ^ 19 + g.auth.toNat * 2 ^ 18 + g.fresh.toNat * 2 ^ 17 +
    (if g.number = 0xFFFF then 0x7FF else g.number))
  let bits (d : List Byte) (i : Nat) : Word :=
    (List.range 20).foldl (fun (w : Word) b => if bitAt (20 * i + b) d then w ||| (1#20 <<< b) else w) 0
  let types : List Word := [g.type.setWidth 20, (g.type >>> 20).setWidth 20]
  match g.frozen with
  | some (d, t) => (head :: types) ++ BitVec.ofNat 20 (min 1048575 ((s.cycle.startAt - t) / 100000)) ::
      (List.range 60).map (bits (d.take 150))
  | none => (head :: types) ++ List.replicate 61 0

/-- Upkeep of guest slot `n` (R387, R388). -/
def exchangeGuest (n : Nat) (s : State) : State :=
  let base := 0xF1000 + 64 * n
  match mapVal none n s.stations.guests with
  | none => s
  | some g =>
    if g.clearing then
      moduleWrites ((rangeFrom base 64).map fun a => (a, (0 : Word)))
        { s with stations.guests := mapPut none n none s.stations.guests }
    else
      let g := { g with frozen := g.latest }
      moduleWrites ((rangeFrom base 64).zip (guestWords g s))
        { s with stations.guests := mapPut none n (some { g with fresh := false }) s.stations.guests }

/-- From the XCH phase of the second cycle under program control the configured rules apply (R418). -/
def secondCycleRules (s : State) : State :=
  if s.localIo.underProgram && !s.localIo.configuredRules then
    { applyConfiguredRules s with localIo.fromKickstand := false } else s

/-- The XCH phase of a cycle from its freeze (R151, Table 6-1). -/
def exchangeInputs (s : State) : State :=
  let e := s.nsp.inForce
  let sts := configuredStations e
  let s := sts.foldl (fun s n => freezeStation n s) s
  let s := applyHostWrites s
  let s := sts.foldl (fun s n => exchangeStation n s) s
  let s := (channelsUsed e).foldl (fun s k => exchangeChannel k s) s
  let s := exchangeLocal s
  (List.range 64).foldl (fun s n => exchangeGuest n s) s

/-- A cycle starts at the instant `t`: start time, system words, XCH work; the first cycle takes program control (R27,
R119, R151). -/
def beginCycle (t : Nat) (s : State) : State :=
  let s := atTime t s
  let s := { s with
    cycle.startAt := s.network.time.now
    cycle.startTime := timeBase s
    cycle.phase := .xch
    cycle.outputQueued := false
    solver.written := []
    modes.solvedSinceStart := true }
  let s := sendValue 18 (sendValue 5 s)
  let s := if s.localIo.underProgram then secondCycleRules s else takeProgramControl s
  let s := moduleWrites (systemWords s) s
  let s := if s.cycle.rebuild then rebuildRegion s else s
  compareReadback (exchangeInputs s)

end Sys2Proof.Machine
end

