-- ==== Sys2Proof/Machine/DoorOps.lean ====
section
/-!
DEFINITION. Messages of the door buses: building, queuing, twin copies, what a channel sends next, expiry
(14_door_buses.md R359, R365, R367–R369, R374, R377).
-/
namespace Sys2Proof.Machine

/-- Frame bytes before the CMAC; without an envelope the user data (R365, Table 14-10). `time` is in ns. -/
def doorBytes (d : DoorDesc) (twin : Bool) (seq : BitVec 16) (jersey : BitVec 32) (time : Nat) (user : List Byte) :
    List Byte :=
  if d.envelope then
    let b := leBytes 1 (16 + twin.toNat) ++ leBytes 2 seq.toNat ++ leBytes 4 jersey.toNat ++ leBytes 4 (time % 2 ^ 32) ++
      leBytes 1 d.length ++ user
    b ++ List.replicate (frameLength d - 8 - b.length) 0
  else user

/-- The bytes of a door frame with the CMAC of its envelope, over the identifier word and every byte before it (R365). -/
def sealDoor (k : Nat) (d : DoorDesc) (b : List Byte) (s : State) : List Byte :=
  if d.envelope then b ++ cmac (unitKey k d.unit s) (leBytes 4 (d.ide.toNat * 2 ^ 31 + d.id.toNat) ++ b) else b

/-- Controllers send program messages: ACTIVE, SOLO, HANDOVER, CHANGE, and STOP for what is queued (Table 14-5). -/
def doorSends (s : State) : Bool := (solving s.modes.mode || s.modes.mode == .stop) && islandUp 5 s

/-- The channel takes part in the bus: error-active or error-passive (R375). -/
def onBus (c : Channel) : Bool := c.state == 1 || c.state == 2

/-- Duration of a queued message on channel `k`, its CMAC included with an envelope. -/
def messageNs (k : Nat) (s : State) (m : DoorMsg) : Nat :=
  let d := doorDesc s.nsp.inForce m.home m.object
  frameNs s.nsp.inForce k d (frameLength d)

/-- Launch guard of a channel, ns: its longest frame (R368, 0x7001:10). -/
def doorGuard (e : Entries) (k : Nat) : Nat :=
  (((objectsOf e k).filter fun p => p.2.dir == 2).map fun p => frameNs e k p.2 (frameLength p.2)).foldl max 0

/-- A message may be offered: its cycle is released and its launch time has come (R239, R368). -/
def doorReady (s : State) (m : DoorMsg) : Bool :=
  cycleReleased m.cycle s && (match m.launch with | some t => decide (t ≤ timeBase s) | none => true)

/-- A launch guard stands in the way of a message without that launch time (R368). -/
def guardBlocks (k : Nat) (s : State) (m : DoorMsg) : Bool :=
  let c := channel k s
  let n := timeBase s
  let g := doorGuard s.nsp.inForce k
  (c.queue ++ c.twinQueue).any fun x => match x.launch with
    | some t => decide (n < t ∧ t ≤ n + g) && m.launch != some t && decide (t < n + messageNs k s m)
    | none => false

/-- End of the present column, ns of running time: the next mark, or the end of the basic cycle (R373). -/
def columnEnd (e : Entries) (k : Nat) (t : DoorTime) : Nat :=
  let m := if t.column < 31 then columnMark e k (t.column + 1) else 0
  t.refAt + 1000 * (if m = 0 then cfgBasicCycle e k else m)

/-- Schedule matrix: an arbitrating column is open and the frame ends before the next mark (R374). -/
def arbitrates (k : Nat) (s : State) (m : DoorMsg) : Bool :=
  let e := s.nsp.inForce
  let t := (channel k s).time
  let c := matrixCell e k t.cycleCount t.column
  c.1 == 2 && !decide (m.object ∈ exclusiveObjects e k) &&
    decide (s.network.time.now + messageNs k s m ≤ columnEnd e k t)

/-- Message the channel offers next: the lowest identifier of those that may leave (R368, R377). -/
def nextDoor (k : Nat) (s : State) : Option DoorMsg :=
  let c := channel k s
  let matrix := cfgChannelMode s.nsp.inForce k == 2
  let ok := (c.queue ++ c.twinQueue).filter fun m =>
    doorReady s m && !guardBlocks k s m && (!matrix || arbitrates k s m)
  (sortBy (fun m => m.id.toNat) ok).head?

/-- An idle channel starts its next message (R368). -/
def pumpDoor (k : Nat) (s : State) : State :=
  let c := channel k s
  if doorSends s && onBus c && c.sending.isNone then
    match nextDoor k s with
    | some m => modChannel k (fun c => { c with sending := some m }) s
    | none => s
  else s

/-- Every channel in use starts its next message. -/
def pumpDoors (s : State) : State := (channelsUsed s.nsp.inForce).foldl (fun s k => pumpDoor k s) s

/-- The twin copy of a message, with FLAGS bit 0 set and its own CMAC (R365, R377). -/
def twinCopy (d : DoorDesc) (m : DoorMsg) (s : State) : DoorMsg :=
  { m with
    twin := true
    data := if d.envelope then sealDoor m.home d (leBytes 1 17 ++ slice 1 (frameLength d - 9) m.data) s else m.data }

/-- A copy joins the twin queue of the twin channel; at 64 it is not made (R377). -/
def enterTwin (k : Nat) (m : DoorMsg) (s : State) : State :=
  if (channel (twinOf k) s).twinQueue.length < 64 then
    modChannel (twinOf k) (fun c => { c with twinQueue := c.twinQueue ++ [m] }) s
  else modChannel k (fun c => { c with twinNotMade := satU32 (c.twinNotMade + 1) }) s

/-- A copy of the message is still queued on the twin channel from an earlier opening (R377). -/
def hasCopy (m : DoorMsg) (s : State) : Bool :=
  (channel (twinOf m.home) s).twinQueue.any fun x => x.home == m.home && x.object == m.object && x.seq == m.seq

/-- The twin path of a channel opens: its pending TWIN messages are copied (R377). -/
def openTwin (k : Nat) (s : State) : State :=
  let e := s.nsp.inForce
  (channel k s).queue.foldl (fun s m =>
    let d := doorDesc e k m.object
    if d.twin && !hasCopy m s then enterTwin k (twinCopy d m s) s else s) s

/-- Both channels of a pair impaired, or not: the alarm of the pair, named by its even channel (Table 14-15). -/
def pairImpairedAlarm (k : Nat) (s : State) : State :=
  setAlarm .doorPairImpaired (k / 2 * 2) (impaired k s && impaired (twinOf k) s) s

/-- The messages of an object leave every queue but the bus; the answer says whether one was there (R369). -/
def dropMessages (k o : Nat) (s : State) : State × Bool :=
  let had := objectPending k o s
  let s := modChannel k (fun c => { c with queue := c.queue.filter fun m => m.object != o }) s
  (modChannel (twinOf k) (fun c => { c with
      twinQueue := c.twinQueue.filter fun m => !(m.home == k && m.object == o) }) s, had)

/-- A transmit object of a channel queues one message in this output phase (R365, R367–R369, R377). -/
def queueDoor (k o : Nat) (d : DoorDesc) (s : State) : State × OutCommand :=
  let e := s.nsp.inForce
  let ws := (dataAddresses k d).map fun a => storeAt a s
  let launch := if d.group = 0 then none else some (s.cycle.startTime + 1000 * cfgLaunchOffset e d.group)
  let r := dropMessages k o s
  let x := doorObject k o s
  let s := if r.2 = true ∧ x.acked ≠ some x.seq then
      modChannel k (fun c => { c with superseded := satU32 (c.superseded + 1) })
        (modObject k o (fun x => { x with superseded := true }) r.1) else r.1
  let seq := (doorObject k o s).seq + 1
  let now := timeBase s
  let m : DoorMsg :=
    { home := k, object := o, twin := false, seq := seq, id := d.id, launch := launch, cycle := s.cycle.counter
      data := sealDoor k d (doorBytes d false seq s.pair.jersey (launch.getD s.cycle.startTime) (unpackData d ws)) s
      expiry := if d.lifetime = 0 then none else some (launch.getD now + 10000 * d.lifetime) }
  let s := modObject k o (fun x => { x with
    seq := seq
    lastWords := ws
    queuedAt := now
    firstDone := true }) s
  let s := through 8 (fun s =>
    let s := modChannel k (fun c => { c with queue := c.queue ++ [m] }) s
    if d.twin && twinOpen k s then enterTwin k (twinCopy d m s) s else s) s
  (s, { target := 2 ^ 14 + 256 * k + o, seq := seq, launch := launch.map fun t => t - s.cycle.startTime })

/-- A transmit object queues a message in this cycle (R367, R374, R389). -/
def doorDue (k o : Nat) (d : DoorDesc) (s : State) : Bool :=
  let x := doorObject k o s
  let ws := (dataAddresses k d).map fun a => storeAt a s
  let unit : DoorUnit := mapVal {} (64 * k + d.unit) s.stations.units
  let refresh := d.period != 0 && decide (x.queuedAt + 1000000 * d.period ≤ timeBase s)
  cfgChannelMode s.nsp.inForce k == 2 || !x.firstDone || unit.resync ||
    (if d.mode = 0 then decide (x.due ≤ s.cycle.startTime)
     else if d.mode = 1 then ws != x.lastWords || refresh
     else (dataAddresses k d).any (fun a => decide (a ∈ s.solver.written)) || refresh)

/-- The due time of a cyclic object advances by whole periods past the start time (R367). -/
def advanceDue (k o : Nat) (d : DoorDesc) (s : State) : State :=
  let p := 1000000 * d.period
  modObject k o (fun x =>
    if d.mode = 0 ∧ p ≠ 0 ∧ x.due ≤ s.cycle.startTime then
      { x with due := x.due + ((s.cycle.startTime - x.due) / p + 1) * p } else x) s

/-- Output work of one transmit object: the message it queues, if any. -/
def outputDoor (k o : Nat) (d : DoorDesc) (p : State × List OutCommand) : State × List OutCommand :=
  if doorDue k o d p.1 then
    let q := queueDoor k o d p.1
    (advanceDue k o d q.1, p.2 ++ [q.2])
  else (advanceDue k o d p.1, p.2)

end Sys2Proof.Machine
end

