-- ==== Sys2Proof/Machine/WeftOps.lean ====
section
/-!
DEFINITION. Weft frames: their bytes, their building and sending, the BOUNDARY message, the checkpoint history
(08_redundant_pair.md R201, R207, R211–R215, R224, R230, R232, R235).
-/
namespace Sys2Proof.Machine

/-- Bytes of the body records (Table 8-5). -/
def weftBody (f : WeftFrame) : List Byte :=
  (f.words.flatMap fun p => leBytes 5 (p.1 + p.2.toNat * 2 ^ 20)) ++
    (f.commands.flatMap fun c => leBytes 2 c.target ++ leBytes 2 c.seq.toNat ++ leBytes 4 (c.launch.getD 0xFFFFFFFF)) ++
    f.slices.flatMap fun l => leBytes 4 l.1 ++ leBytes 20 (l.2.foldr (fun w n => n * 2 ^ 20 + w.toNat) 0)

/-- Header of a weft frame (Table 8-4). -/
def weftHeader (f : WeftFrame) : List Byte :=
  leBytes 2 f.format ++ leBytes 1 f.flags.toNat ++ leBytes 1 f.plan ++ leBytes 5 f.cycle.toNat ++ leBytes 3 0 ++
    leBytes 4 f.jersey.toNat ++ timeBytes' f.start ++ leBytes 4 f.image.toNat ++ leBytes 4 f.shadow.toNat ++
    leBytes 4 f.generation.toNat ++ leBytes 4 f.words.length ++ leBytes 2 f.commands.length ++ leBytes 2 f.slices.length ++
    leBytes 4 f.nextJersey.toNat ++ leBytes 3 f.sliceStart ++ leBytes 3 0
where
  /-- Seconds in 6 bytes and nanoseconds in 4. -/
  timeBytes' (t : Nat) : List Byte := leBytes 6 (t / 1000000000) ++ leBytes 4 (t % 1000000000)

/-- A weft frame as its bytes: header, body, trailer (R211). -/
def weftFrameBytes (f : WeftFrame) : List Byte :=
  let b := weftHeader f ++ weftBody f
  b ++ leBytes 4 (crc32 b).toNat ++ leBytes 4 (f.cycle.toNat % 2 ^ 32)

/-- A number's 20-bit word `i`. -/
def wordAt (v i : Nat) : Word := BitVec.ofNat 20 (v / 2 ^ (20 * i))

/-- A weft frame from its bytes; none when its length or its trailer CRC is wrong (R214). -/
def parseWeft (l : List Byte) : Option WeftFrame :=
  let w := fieldLe 38 4 l
  let c := fieldLe 42 2 l
  let n := fieldLe 44 2 l
  let body := 56 + 5 * w + 8 * c + 24 * n
  if l.length ≠ body + 8 ∨ (crc32 (l.take body)).toNat ≠ fieldLe body 4 l then none
  else some
    { format := fieldLe 0 2 l, flags := byteAt 2 l, plan := fieldLe 3 1 l % 4, cycle := BitVec.ofNat 40 (fieldLe 4 5 l)
      jersey := BitVec.ofNat 32 (fieldLe 12 4 l), start := fieldLe 16 6 l * 1000000000 + fieldLe 22 4 l
      image := BitVec.ofNat 32 (fieldLe 26 4 l), shadow := BitVec.ofNat 32 (fieldLe 30 4 l)
      generation := BitVec.ofNat 32 (fieldLe 34 4 l)
      words := (List.range w).map fun i =>
        let v := fieldLe (56 + 5 * i) 5 l
        (v % 2 ^ 20, BitVec.ofNat 20 (v / 2 ^ 20))
      commands := (List.range c).map fun i =>
        let o := 56 + 5 * w + 8 * i
        let x := fieldLe (o + 4) 4 l
        { target := fieldLe o 2 l, seq := BitVec.ofNat 16 (fieldLe (o + 2) 2 l)
          launch := if x = 0xFFFFFFFF then none else some x }
      slices := (List.range n).map fun i =>
        let o := 56 + 5 * w + 8 * c + 24 * i
        (fieldLe o 4 l % 2 ^ 17, (List.range 8).map (wordAt (fieldLe (o + 4) 20 l)))
      nextJersey := BitVec.ofNat 32 (fieldLe 46 4 l), sliceStart := fieldLe 50 3 l % 2 ^ 17 }

/-- A pair message from its 40 bytes (Table 8-3). -/
def parsePair (l : List Byte) : PairMsg :=
  let f := byteAt 3 l
  let kind := fieldLe 0 1 l
  let a (o n : Nat) : Nat := fieldLe (32 + o) n l
  { kind := kind, mode := fieldLe 1 1 l, slot := fieldLe 2 1 l, sync := f.getLsbD 0, seamUp := f.getLsbD 1
    networkUp := f.getLsbD 2, stopByCommand := f.getLsbD 3, weftSuspended := f.getLsbD 4
    pairId := BitVec.ofNat 32 (fieldLe 4 4 l), jersey := BitVec.ofNat 32 (fieldLe 8 4 l)
    cycle := BitVec.ofNat 40 (fieldLe 12 5 l), seq := BitVec.ofNat 16 (fieldLe 18 2 l)
    send := fieldLe 20 6 l * 1000000000 + fieldLe 26 4 l
    arg := if kind = 1 then .heartbeat (BitVec.ofNat 32 (a 0 4)) (BitVec.ofNat 32 (a 4 4))
      else if kind = 2 then .fault (BitVec.ofNat 16 (a 0 2))
      else if kind = 6 then .boundary (BitVec.ofNat 32 (a 0 4)) (a 4 1 % 2 == 1)
      else if kind = 5 ∨ kind = 7 then
        .formats (BitVec.ofNat 16 (a 0 2)) (BitVec.ofNat 16 (a 2 2)) (BitVec.ofNat 32 (a 4 4))
      else if kind = 8 then .ack (BitVec.ofNat 16 (a 0 2)) (BitVec.ofNat 16 (a 2 2))
      else .none }

/-- A weft frame cut into blocks of at most 1,024 bytes (R201, R202). -/
def weftBlocks (f : WeftFrame) : List SeamBlock :=
  let b := weftFrameBytes f
  let n := (b.length + 1023) / 1024
  (List.range n).map fun i =>
    { type := 1, last := i + 1 == n, laneSeq := 0, tag := f.cycle.setWidth 16, offset := 1024 * i
      payload := slice (1024 * i) 1024 b }

/-- The active module sends weft frames: partner in STANDBY, seam up, no mismatch, not suspended, not SOLO (R174, R232). -/
def sendsWeft (s : State) : Bool :=
  (s.modes.mode == .active || s.modes.mode == .handover || s.modes.mode == .change) &&
    s.pair.partner.mode == some 4 && seamUp s && !pairRefused s && !s.cycle.weftSuspended

/-- Rank of a trigger (Table 3-6a). DESIGN CHOICE (assumption log 131): the table lists neither a partner that reaches STANDBY, which
has rank 4 here, nor the STOP of an extraction, which has the rank of STOP. -/
def triggerRank : Trigger → Nat
  | .partnerGone => 3
  | .partnerStandby => 4
  | .stop => 5
  | .extractionStop => 5
  | .handover _ => 6
  | .changeSwitch => 7
  | .changeConfirm => 7
  | .changeUndo => 7
  | .start => 8

/-- The trigger can be taken at this boundary: a change command only when ripe (R182, R190); the HANDOVER of a pair update in its state 4,
once CHANGE has ended and the standby is synchronised (R198, R458); in HANDOVER nothing is taken before the mode ends (R71, R226). -/
def eligible (s : State) (t : Trigger) : Bool :=
  s.modes.mode != .handover &&
    (if t = .changeSwitch ∨ t = .changeConfirm ∨ t = .changeUndo then s.change.ripe
    else t != .handover .update || (s.firmware.pairState == 4 && s.modes.mode == .active && standbySynchronised s))

/-- The highest trigger that can be taken (R70). -/
def takenTrigger (s : State) : Option Trigger := (sortBy triggerRank (s.modes.triggers.filter (eligible s))).head?

/-- The plan that comes into force at the boundary of the present cycle, once its rejoin tests are over: none with a failed test, at
a switch, or without a request that has ripened (R97, R99, R101). -/
def planDue (s : State) : Option Nat :=
  match s.solver.planPending with
  | some (p, true) => if s.solver.rejoinFailed = [] ∧ takenTrigger s ≠ some .changeSwitch then some p else none
  | _ => none

/-- The weft frame of this cycle carries the commits whose service transfers have gone (R305, R426). -/
def carryCommits (s : State) : State :=
  { s with
    nsp.commitCarried := s.nsp.commit == .atBoundary && s.seam.serviceTx.isEmpty
    protection.carried := s.protection.stage == .waiting && s.seam.serviceTx.isEmpty }

/-- FLAGS of the weft frame of this cycle, as far as the output phase knows them (Table 8-4). -/
def weftFlags (s : State) : BitVec 8 :=
  let t := takenTrigger s
  let bit (b : Bool) (i : Nat) : Nat := if b then 2 ^ i else 0
  BitVec.ofNat 8 (bit (t == some .changeSwitch) 0 + bit (t == some .changeConfirm) 1 +
    bit (t == some .changeUndo) 2 + bit (s.modes.mode == .handover) 3 +
    bit (t == some .stop || t == some .extractionStop) 4 + bit (planDue s).isSome 5 +
    bit (s.nsp.commitCarried || s.protection.carried) 6 + bit s.pair.resyncNext.isSome 7)

/-- Number of resynchronised lines and the line at an index of their order (R230 step 2). -/
def resyncCount : Nat := 117760

/-- Line at index `i` in the order of R230 step 2. -/
def resyncLine (i : Nat) : Nat :=
  if i < 512 then 0x01000 / 8 + i
  else if i < 2560 then 0x06000 / 8 + (i - 512)
  else if i < 3072 then 0x0F000 / 8 + (i - 2560)
  else 0x10000 / 8 + (i - 3072)

/-- The eight words of a data store line. -/
def lineWords (n : Nat) (s : State) : List Word := (List.range 8).map fun i => storeAt (8 * n + i) s

/-- The weft frame of the present cycle (R211, R212). -/
def buildWeft (cmds : List OutCommand) (s : State) : WeftFrame :=
  let words := s.solver.written.map fun a => (a, storeAt a s)
  let own := 64 + 5 * words.length + 8 * cmds.length
  let room := min 65535 (((admitted s).bytes - own) / 24)
  let slices := match s.pair.resyncNext with
    | some i => (rangeFrom i (min room (resyncCount - i))).map fun k => (resyncLine k, lineWords (resyncLine k) s)
    | none => []
  { format := s.seam.format, flags := weftFlags s, cycle := s.cycle.counter, jersey := s.pair.jersey
    plan := (planDue s).getD s.solver.plan
    start := s.cycle.startTime, image := imageId s, shadow := shadowId s
    generation := s.nsp.generation + (if s.nsp.commitCarried then 1 else 0) + (if s.protection.carried then 1 else 0)
    words := words, commands := cmds, slices := slices
    nextJersey := if s.modes.mode = .handover then s.pair.jersey + 1 else 0
    sliceStart := match slices.head? with | some l => l.1 | none => 0 }

/-- The weft frame of this cycle is handed to the lanes (R202, R213). -/
def sendWeft (f : WeftFrame) (s : State) : State :=
  pumpSeam { s with
    pair.lastWeft := some f
    pair.weftOpen := true
    pair.boundaryDue := false
    pair.boundaryAbandoned := false
    pair.resyncNext := match s.pair.resyncNext with
      | some i => if resyncCount ≤ i + f.slices.length then none else some (i + f.slices.length)
      | none => none
    seam.weftTx := if crossingOpen 10 s then weftBlocks f else []
    seam.resentBlocks := 0 }

/-- An entry joins the checkpoint history (R235); one whose place lies on a DRAM channel out of service is lost and reads as invalid,
RESULT 7 (R261, Table 9-3). -/
def addHistory (h : HistoryEntry) (s : State) : State :=
  let n := s.pair.historyCount
  let h := if dramLost (Config.historyPlace (n % 1048576)) 64 s then { h with result := 7 } else h
  { s with
    pair.history := (h :: s.pair.history).take 1048576
    pair.historyCount := n + 1 }

/-- History entry of a frame (Table 8-12). -/
def historyOf (f : WeftFrame) (result timing resent : Nat) : HistoryEntry :=
  { cycle := f.cycle, flags := f.flags, plan := f.plan, result := result, jersey := f.jersey, start := f.start
    length := (weftFrameBytes f).length, words := f.words.length, commands := f.commands.length
    slices := f.slices.length, timing := min (2 ^ 32 - 1) timing, resent := min 65535 resent, image := f.image
    generation := f.generation }

/-- History entry of a cycle without a weft frame: RESULT 3 (R235). -/
def historyWithout (s : State) : HistoryEntry :=
  { cycle := s.cycle.counter, flags := 0, plan := s.solver.plan, result := 3, jersey := s.pair.jersey
    start := s.cycle.startTime, length := 0, words := 0, commands := 0, slices := 0, timing := 0, resent := 0
    image := imageId s, generation := s.nsp.generation }

/-- The BOUNDARY of the last weft frame is sent, abandoned or not (R213, R235). -/
def sendBoundary (abandoned : Bool) (s : State) : State :=
  match s.pair.lastWeft with
  | none => s
  | some f =>
    let n := (weftFrameBytes f).length
    let m := { pairMsg 6 (.boundary (BitVec.ofNat 32 n) abandoned) s with cycle := f.cycle }
    let since := (timeBase s - f.start) / 10
    addHistory (historyOf f (if abandoned then 1 else 0) since s.seam.resentBlocks)
      (sendSeam m { s with pair.boundaryDue := false, pair.weftOpen := false })

/-- Every block of the weft frame has been transmitted (R15, R213). -/
def weftGone (s : State) : Bool :=
  let sends (l : SeamLane) : Bool := match l.sending with | some b => b.type == 1 | none => false
  s.seam.weftTx.isEmpty && !sends s.seam.lane0 && !sends s.seam.lane1

/-- After a block has ended: the frame is out, and its BOUNDARY follows when the cycle is released (R213). -/
def checkWeft (s : State) : State :=
  if s.pair.weftOpen && weftGone s then
    let s := { s with pair.weftOpen := false }
    let free := match s.pair.lastWeft with | some f => cycleReleased f.cycle s | none => true
    if free then sendBoundary false s else { s with pair.boundaryDue := true }
  else s

end Sys2Proof.Machine
end

