-- ==== Sys2Proof/Machine/ConfigOps.lean ====
section
/-!
DEFINITION. What happens when a configuration or a rule set takes effect (17_object_dictionary.md R425–R427;
15_stations_and_io_exchange.md R385; 14_door_buses.md R379, R492; 13_plant_network_and_time.md R336;
11_protection_and_lifecycle.md R303–R305).
-/
namespace Sys2Proof.Machine

/-- An ANNOUNCE matches the configuration of station `n` (R385). -/
def announceMatches (e : Entries) (n : Nat) (a : Announce) : Bool :=
  a.digitalIn == cfgDigitalIns e n && a.analogueIn == cfgAnalogueIns e n && a.digitalOut == cfgDigitalOuts e n &&
    a.analogueOut == cfgAnalogueOuts e n && (cfgLayout e n == 0 || a.layout == BitVec.ofNat 32 (cfgLayout e n))

/-- A station enters MISMATCH: loom report and the module's one alarm (R385). -/
def enterMismatch (n : Nat) (s : State) : State :=
  let was := (station n s).state
  let s := if was = .joining then leaveJoining n s else s
  let s := modStation n (fun x => { x with state := .mismatch }) s
  let s := raiseAlarm .stationMismatch 0 s
  if was = .mismatch then s else stationReport 0x05 (ringKey n s) n 2 s

/-- A station with an accepted ANNOUNCE enters JOINING when it matches, else MISMATCH (R384, R385). -/
def placeStation (n : Nat) (a : Announce) (s : State) : State :=
  if announceMatches s.nsp.inForce n a then
    let s := enterJoining n s
    if s.stations.stations.any (fun p => p.2.state == .mismatch) then s else clearAlarm .stationMismatch 0 s
  else enterMismatch n s

/-- Subindexes of 0x8010 whose change replaces a station: ring, class, point fields, layout digest (R385). -/
def stationFields : List Nat := [0x03, 0x04, 0x06, 0x07, 0x08, 0x09, 0x0A, 0x0B, 0x0C, 0x0D, 0x0E]

/-- The commit changes a station's ring, class, point fields or digest (R385). -/
def stationChanged (old new : Entries) (n : Nat) : Bool :=
  stationFields.any fun f => entryInt old 0x8010 f 0 n 0 != entryInt new 0x8010 f 0 n 0

/-- Stations after a commit (R385). -/
def recheckStations (old : Entries) (s : State) : State :=
  ((configuredStations s.nsp.inForce).filter (stationChanged old s.nsp.inForce)).foldl (fun s n =>
    match (station n s).announce with
    | some a => placeStation n a s
    | none => s) s

/-- Stations whose key has changed are placed anew (R385). -/
def placeRekeyed (s : State) : State :=
  s.stations.rekeyed.foldl (fun s n =>
    match (station n s).announce with
    | some a => placeStation n a s
    | none => s) { s with
      stations.rekeyed := []
      stations.oldKeys := [] }

/-- Objects of a channel that a commit changes or removes (R379). -/
def changedObjects (old new : Entries) (k : Nat) : List Nat :=
  (configuredObjects old k).filter fun o => cfgObject old k o != cfgObject new k o

/-- Messages and sequence state of changed or removed objects are discarded (R379). -/
def dropObjects (old : Entries) (s : State) : State :=
  (List.range 8).foldl (fun s k => (changedObjects old s.nsp.inForce k).foldl (fun s o =>
    modObject k o (fun _ => {}) (dropMessages k o s).1) s) s

/-- Held host writes to words that are no longer transmit words are discarded and counted (R492). -/
def dropHostWrites (s : State) : State :=
  let keep := s.cycle.hostWrites.filter fun h => isWritable s.nsp.inForce h.address
  { s with
    cycle.hostWrites := keep
    change.hostWritesDiscarded := s.change.hostWritesDiscarded + (s.cycle.hostWrites.length - keep.length) }

/-- The administrative gate list of a port (Table 13-2). -/
def adminGates (e : Entries) (p : Nat) : GateList :=
  { enabled := cfgGateEnabled e p, cycleTime := cfgGateCycle e p
    base := cfgGateBaseS e p * 1000000000 + cfgGateBaseNs e p
    entries := (List.range (cfgGateEntries e p)).map fun i =>
      let w := cfgGateEntry e p i
      (BitVec.ofNat 8 (w / 2 ^ 24), w % 2 ^ 24) }

/-- First instant base + n × cycle time at least 1 ms away (R336). -/
def gateStart (g : GateList) (tb : Nat) : Nat :=
  let t := tb + 1000000
  if t ≤ g.base then g.base else g.base + (t - g.base + g.cycleTime - 1) / g.cycleTime * g.cycleTime

/-- A commit of 0x6011 makes a gate list pending (R336). -/
def takeGates (old : Entries) (s : State) : State :=
  (rangeFrom 1 4).foldl (fun s p =>
    let g := adminGates s.nsp.inForce p
    if g = adminGates old p then s
    else modPort p (fun q => { q with pendingGates := some (g, gateStart g (timeBase s)) }) s) s

/-- A configuration as a service transfer (R230, R426). -/
def configurationItem (generation : BitVec 32) (e : Entries) (s : State) : Service :=
  .configuration generation s.firmware.main.cfgOwn e.nums e.blobs

/-- A rule set as a service transfer (R305). -/
def ruleItem (m : SMap Region) : Service := .ruleSet (m.map fun p => (p.1, p.2.base, p.2.limit, p.2.attr))

/-- The figures of the programs in both banks under the configuration in force (R157, R158): a bank that admission accepts
takes them. -/
def readmit (s : State) : State :=
  let figures (b : Option Image) (old : Admitted) : Admitted := match b with
    | some i => let r := admissionOf s.nsp.inForce i 2 []
      if r.1.refused then old else r.2
    | none => old
  { s with
    cycle.admitted0 := figures s.solver.bank0 s.cycle.admitted0
    cycle.admitted1 := figures s.solver.bank1 s.cycle.admitted1 }

/-- A channel leaves the bus, discards its queues and integrates again (R379). -/
def leaveBus (s : State) (k : Nat) : State :=
  modChannel k (fun c => { c with
    state := 0
    tecCount := 0
    recCount := 0
    alone := false
    ackErrors := 0
    queue := []
    twinQueue := []
    sending := none
    time := {} }) s

/-- Guests in slots at or above the guest allowance leave them (R173): their windows are cleared at the next XCH phase, as when a guest
times out (R387). -/
def trimGuests (s : State) : State :=
  let n := cfgGuestAllowance s.nsp.inForce
  let clear (k : Nat) (g : Option Guest) : Option Guest := if n ≤ k then g.map fun x => { x with clearing := true } else g
  { s with stations.guests := mapAll none clear s.stations.guests }

/-- A configuration comes into force (R425): what the chapters do at that boundary. -/
def applyConfig (new : Entries) (s : State) : State :=
  let old := s.nsp.inForce
  let s := { s with nsp.inForce := new, nsp.shadow := new }
  let s := (channelsChanged old new).foldl leaveBus (dropObjects old (recheckStations old s))
  readmit (loadBases new (refreshOutputs (trimGuests (takeGates old (dropHostWrites s)))))

/-- The configuration commit of this boundary takes effect (R426, R427): where a weft frame is sent, at the boundary whose
frame carries it. -/
def commitAtBoundary (s : State) : State :=
  if s.nsp.commit = .atBoundary ∧ (s.pair.lastWeft.isNone ∨ s.nsp.commitCarried = true) then
    applyConfig s.nsp.shadow { s with
      nsp.commit := .none
      nsp.commitCarried := false
      nsp.commitResult := 0
      nsp.generation := s.nsp.generation + 1 }
  else s

/-- The commit point of the rule set: the shadow sets become active, epoch and generation rise, the drain begins (R303,
R304). -/
def takeRuleSet (s : State) : State :=
  { s with
    protection.active := s.protection.shadow
    protection.epoch := s.protection.epoch + 1
    protection.stage := .draining
    protection.carried := false
    nsp.generation := s.nsp.generation + 1 }

/-- A rule commit that waits reaches its commit point at a boundary: where a weft frame is sent, at the one whose frame carries
it (R303, R305). -/
def commitRules (s : State) : State :=
  if s.protection.stage = .waiting ∧ (s.pair.lastWeft.isNone ∨ s.protection.carried = true) then takeRuleSet s else s

end Sys2Proof.Machine
end

