-- ==== Sys2Proof/Machine/ChangeOps.lean ====
section
/-!
DEFINITION. The MRAM mirror, and the switch, confirmation and undo of an online change (04_logic_solver.md R117, R118;
07_online_change.md R177, R182–R195).
-/
namespace Sys2Proof.Machine

/-- A record with later words merged in; the later value of a word stands (R117). -/
def mergeRecord (a b : MirrorRecord) : MirrorRecord :=
  { cycle := b.cycle, words := (a.words.filter fun p => !(b.words.any fun q => q.1 == p.1)) ++ b.words, time := b.time }

/-- A record goes to the mirror engine: written at once, or merged into the pending one (R117). -/
def mirrorTake (r : MirrorRecord) (m : Mirror) : Mirror :=
  match m.writing with
  | none => { m with writing := some r }
  | some _ =>
    match m.pendingRecord with
    | none => { m with pendingRecord := some r }
    | some p => { m with pendingRecord := some (mergeRecord p r) }

/-- State of the mirror: the base and every committed record in order (R117). -/
def mirrorState (m : Mirror) : SMap Word :=
  m.journal.foldl (fun st r => r.words.foldl (fun st p => mapPut 0 p.1 p.2 st) st) m.base

/-- Cycle counter of the boundary that the mirror state belongs to (R117, 0x2012:01). -/
def mirrorCycle (m : Mirror) : BitVec 40 := match m.journal.getLast? with | some r => r.cycle | none => m.baseCycle

/-- Instant of that boundary, ns (0x2012:02). -/
def mirrorTime (m : Mirror) : Nat := match m.journal.getLast? with | some r => r.time | none => m.baseAt

/-- Bytes of a journal record (R117). -/
def mirrorBytes (r : MirrorRecord) : Nat := 16 + 5 * r.words.length

/-- Journal room: 2 MiB less two base areas of 327,680 bytes. DEDUCED from R117 and R231 (assumption log 21). -/
def journalRoom : Nat := 2097152 - 2 * 327680

/-- The record being written is committed, the pending one follows; a full journal starts a new base (R117). -/
def mirrorCommit (m : Mirror) : Mirror :=
  match m.writing with
  | none => m
  | some r =>
    let m := { m with journal := m.journal ++ [r], writing := m.pendingRecord, pendingRecord := none }
    if journalRoom < (m.journal.map mirrorBytes).sum ∧ m.newBase.isNone then
      { m with newBase := some (m.image, { cycle := r.cycle, words := mirrorState m, time := r.time }) }
    else m

/-- A new base is complete: it takes the place of the old one, and the records it holds are freed (R117). -/
def mirrorRebase (m : Mirror) : Mirror :=
  match m.newBase with
  | none => m
  | some (i, r) =>
    { m with
      image := i
      valid := true
      base := r.words
      baseCycle := r.cycle
      baseAt := r.time
      journal := m.journal.filter fun x => x.cycle != r.cycle && decide ((x.cycle - r.cycle).toNat < 2 ^ 39)
      newBase := none }

/-- The mirror engine takes a boundary: the words written in the ending cycle (R117). -/
def mirrorBoundary (s : State) : State :=
  let ws := (s.solver.written.filter inMirror).map fun a => (a, storeAt a s)
  { s with solver.mirror := mirrorTake { cycle := s.cycle.counter, words := ws, time := s.network.time.now } s.solver.mirror }

/-- The engine starts a new base from the data store, tagged with the running program (R194, R230). -/
def startBase (cycle : BitVec 40) (s : State) : State :=
  let base : MirrorRecord := { cycle := cycle, words := mirrorWords s.solver.store, time := s.network.time.now }
  { s with solver.mirror.newBase := some (imageId s, base) }

/-! ### Change states -/

/-- Code of a change state (Table 7-1). -/
def changeCode : ChangeState → Nat
  | .empty => 0 | .loading => 1 | .refused => 2 | .loaded => 3 | .ready => 4 | .switchPending => 5 | .switched => 6
  | .confirmPending => 7 | .undoPending => 8

/-- A change of state with its event (R177). -/
def setChange (k : ChangeState) (s : State) : State :=
  if s.change.state = k then s
  else
    let s := { s with change.state := k }
    logOther .changeState [changeCode k, (shadowId s).toNat, s.cycle.counter.toNat] s

/-- LOADED becomes READY when the mode is SOLO, because no module is in STANDBY (R181). -/
def readyIfSolo (s : State) : State :=
  if s.change.state = .loaded ∧ s.modes.mode = .solo then setChange .ready s else s

/-- The banks exchange roles (R182). -/
def swapBanks (s : State) : State := { s with solver.activeBank := if s.solver.activeBank = 0 then 1 else 0 }

/-- The shadow bank holds an image, or nothing (R121). -/
def setShadow (i : Option Image) (a : Admitted) (s : State) : State :=
  if s.solver.activeBank = 0 then { s with solver.bank1 := i, cycle.admitted1 := a }
  else { s with solver.bank0 := i, cycle.admitted0 := a }

/-- The active bank holds an image (R121). -/
def setActive (i : Option Image) (a : Admitted) (s : State) : State :=
  if s.solver.activeBank = 0 then { s with solver.bank0 := i, cycle.admitted0 := a }
  else { s with solver.bank1 := i, cycle.admitted1 := a }

/-- Flash slot 0 or 1 of a program. -/
def flashSlot (k : Fin 2) (s : State) : Option Image := if k = 0 then s.change.slot0 else s.change.slot1

/-- A flash slot written or cleared (R178). -/
def setFlash (k : Fin 2) (i : Option Image) (s : State) : State :=
  if k = 0 then { s with change.slot0 := i } else { s with change.slot1 := i }

/-- The slot that does not hold the stored program (R178). -/
def otherSlot (s : State) : Fin 2 := if s.change.storedSlot = 0 then 1 else 0

/-- Held host writes that a switch or undo discards (R189). -/
def discardHeld (s : State) : State :=
  let n := s.cycle.hostWrites.length
  if n = 0 then s
  else logOther .hostWritesDiscarded [n] { s with
    cycle.hostWrites := []
    change.hostWritesDiscarded := s.change.hostWritesDiscarded + n }

/-- Every partition runs again (R104). -/
def clearFaults (s : State) : State := clearAlarm .partitionFaulted 0 { s with solver.faulted := 0 }

/-- ACTIVE or SOLO by the partner's state (Table 3-5). -/
def activeOrSolo (s : State) : Mode := if s.pair.partner.mode = some 4 then .active else .solo

/-- What a switch and an undo share: banks, rebuild, faults, discarded writes, first-cycle flag, the switch cycle (R182, R189,
R192, R194, 0x2041:06). DESIGN CHOICE (assumption log 130): 0x2011:06 and 0x2011:07 keep their figures by partition number. -/
def exchangeProgram (s : State) : State :=
  let s := clearFaults (discardHeld (swapBanks s))
  { s with
    cycle.rebuild := true
    modes.firstFlags := s.modes.firstFlags ||| 0x10
    change.switchCycle := s.cycle.counter + 1
    solver.mirror := { image := imageId s } }

/-- Entries of finding 0x22 of the change that the banks hold, the new program active (0x2041:08). -/
def restartedBySwitch (s : State) : Nat :=
  match shadowImage s, activeImage s with
  | some old, some new => restartedTimers old new
  | _, _ => 0

/-- The switch at its boundary (R182, R193, R194). The fallback keeps the record of the ending cycle, which the mirror engine
still has to commit: with it the fallback is the state at the switch boundary (R197). -/
def doSwitch (s : State) : State :=
  let old := s.solver.mirror
  let s := exchangeProgram s
  let s := { s with
    change.fallback := some { old with newBase := none }
    change.result := 0
    change.timersRestarted := restartedBySwitch s
    change.switchedAt := s.network.time.now }
  setMode .change 0x000A (setChange .switched s)

/-- The undo at its boundary (R192). -/
def doUndo (s : State) : State :=
  let s := exchangeProgram s
  setChange .ready { s with change.result := 0 }

/-- A confirmation takes effect once the new base of R194 is complete, which makes the new program's mirror valid; a later base of a
full journal does not delay it (R117, R191). -/
def finishConfirm (s : State) : State :=
  if s.change.confirmDue && s.solver.mirror.valid then
    let k := otherSlot s
    let s := setFlash s.change.storedSlot none s
    let s := { s with
      change.storedSlot := k
      change.lastImage := some (imageId s)
      change.confirmDue := false
      change.confirmed := s.change.confirmed + 1
      change.fallback := none
      change.result := 0 }
    setChange .empty (setShadow none {} s)
  else s

/-- The confirmation at the boundary of its command (R190, R191). -/
def doConfirm (s : State) : State :=
  finishConfirm { s with change.confirmDue := true }

/-- The mirror engine still has to commit a record of the fallback (R194). -/
def fallbackWrites (s : State) : Option Mirror := s.change.fallback.filter fun m => m.writing.isSome

/-- MIRROR_RECORD_COMMITTED (R117, R194): the records that the fallback took before the switch boundary come first. -/
def execMirrorRecordCommitted (s : State) : Host.Outcome State Fault Refusal :=
  match fallbackWrites s with
  | some m => .next { s with change.fallback := some { mirrorCommit m with newBase := none } }
  | none => .next { s with solver.mirror := mirrorCommit s.solver.mirror }

/-- The fallback is released once an undo's base is complete (R194). -/
def releaseFallback (s : State) : State :=
  match s.change.state with
  | .switched | .confirmPending | .undoPending => s
  | _ => { s with change.fallback := none }

/-- MIRROR_BASE_COMPLETE (R117, R191, R194, R230): outside a cycle's boundary a confirmation waits for the next one; a standby
that wrote its base after a resynchronisation is synchronised. -/
def execMirrorBaseComplete (s : State) : Host.Outcome State Fault Refusal :=
  if s.solver.mirror.newBase.isNone then .next s
  else
    let s := releaseFallback { s with solver.mirror := mirrorRebase s.solver.mirror }
    if s.pair.resyncBase then
      .next (clearAlarm .resyncSlow 0 { s with
        pair.resyncBase := false
        pair.standby := .synchronised })
    else .next s

end Sys2Proof.Machine
end

