-- ==== Sys2Proof/Machine/Commit.lean ====
section
/-!
DEFINITION. The configuration commit after its confirmation (17_object_dictionary.md R426, R427;
06_cycle_and_admission.md R157; 07_online_change.md R179; 18_firmware_update.md R454, R458).
-/
namespace Sys2Proof.Machine

/-- Entries that admission computes with (R157, R353): indexes of which a change makes a commit run admission. -/
def admissionIndexes : List Nat := [0x2030, 0x6012, 0x6030, 0x6040, 0x7000, 0x7010, 0x8010]

/-- Settings of some indexes. -/
def underIndexes (l : List Nat) (e : Entries) : SMap Int × SMap (List Byte) :=
  (e.nums.filter fun p => decide (p.1 / ekey 1 0 0 0 ∈ l), e.blobs.filter fun p => decide (p.1 / ekey 1 0 0 0 ∈ l))

/-- A commit would run admission (R157). -/
def runsAdmission (old new : Entries) : Bool := decide (underIndexes admissionIndexes old ≠ underIndexes admissionIndexes new)

/-- Admission of the running program, and of what the shadow bank can write, against a configuration (R157, R492). -/
def admitConfig (e : Entries) (s : State) : Option (Report × Admitted) :=
  (activeImage s).map fun i =>
    let more := match shadowImage s with
      | some j => (admissionOf e j 2 []).1.findings.filter fun f => f.code == 0x03
      | none => []
    admissionOf e i 2 more

/-- The commit on a module that solves (R426, ACTIVE and SOLO): checks, admission, transfer to a module in STANDBY, the stored
copy; it then waits for its boundary. -/
def commitLive (s : State) : State :=
  let e := s.nsp.shadow
  let wanted := runsAdmission s.nsp.inForce e
  if wanted && s.change.state != .empty && s.change.state != .refused then endCommit 2 0 s
  else match firstOffence e with
    | some n => endCommit 4 n s
    | none =>
      let r := if wanted then admitConfig e s else none
      let s := match r with
        | some x => { s with
            cycle.report := x.1
            cycle.latest := if x.1.refused then s.cycle.latest else x.2 }
        | none => s
      if (match r with | some x => x.1.refused | none => false) then endCommit 3 0 s
      else
        let g := s.nsp.generation + 1
        let item := configurationItem g e s
        let s := storeConfig { generation := g, format := s.firmware.main.cfgOwn, values := e, intact := true } s
        let s := if s.pair.partner.mode = some 4 ∧ seamUp s then
            pumpSeam { s with seam.serviceTx := s.seam.serviceTx ++ [item] } else s
        { s with
          nsp.commit := .atBoundary
          nsp.commitResult := 1 }

/-- A commit held through LOAD or HANDOVER is taken up in a mode that solves (R426). -/
def resumeCommit (s : State) : State :=
  if s.nsp.commit = .held ∧ (s.modes.mode = .active ∨ s.modes.mode = .solo) then commitLive s else s

/-- A configuration commit is refused with result 2 before its mode is looked at: in a trial, and in states 1 to 6 of a pair
update (R454, R458). -/
def commitBarred (s : State) : Bool := s.firmware.trial || updateRuns s

/-- The commit changes settings that R379 accepts in LOAD and STOP only. -/
def changesChannels (s : State) : Bool := channelsChanged (pairConfig s) s.nsp.shadow != []

/-- A confirmed configuration commit proceeds by mode (R426). -/
def confirmCommit (s : State) : State :=
  let hold := { s with
    nsp.commit := .held
    nsp.commitResult := 1 }
  if commitBarred s then endCommit 2 0 s
  else match s.modes.mode with
    | .load => hold
    | .stop => commitStored s
    | .handover => if changesChannels s then endCommit 2 0 s else hold
    | .fault | .provision => if changesChannels s then endCommit 2 0 s else commitStored s
    | .active | .solo => if changesChannels s then endCommit 2 0 s else commitLive s
    | _ => endCommit 2 0 s

end Sys2Proof.Machine
end

