-- ==== Sys2Proof/Machine/QuiltOps.lean ====
section
/-!
DEFINITION. The quilt area: blocks and their overwrite order, record bytes, the buffer and its writing to MRAM, the
snapshot of a reading (19_event_recorder.md R461–R475).
-/
namespace Sys2Proof.Machine

/-- The blocks that hold records, with their numbers (R461). -/
def quiltBlocks (q : Quilt) : List (Nat × QuiltBlock) := q.blocks.filterMap fun p => p.2.map fun b => (p.1, b)

/-- Blocks of a severity (R472). -/
def blockCount (sev : Nat) (q : Quilt) : Nat := ((quiltBlocks q).filter fun p => p.2.severity == sev).length

/-- Age of a block: how far BLOCK_SEQ lies behind the next one, modulo 2^32 (R474). -/
def blockAge (q : Quilt) (b : QuiltBlock) : Nat := (q.nextBlock - b.seq).toNat

/-- The oldest of some blocks (R472). -/
def oldestBlock (q : Quilt) : List (Nat × QuiltBlock) → Option (Nat × QuiltBlock)
  | [] => none
  | p :: r =>
    match oldestBlock q r with
    | none => some p
    | some o => if blockAge q p.2 < blockAge q o.2 then some o else some p

/-- Lowest-numbered block never written, of blocks `lo` on, `n` of them (R472). -/
def firstFree (m : SMap (Option QuiltBlock)) : Nat → Nat → Option Nat
  | _, 0 => none
  | lo, n + 1 => if (mapVal none lo m).isNone then some lo else firstFree m (lo + 1) n

/-- The block taken for a record of a severity (R472). -/
def takeBlock (sev : Nat) (q : Quilt) : Option Nat :=
  match firstFree q.blocks 2 2046 with
  | some b => some b
  | none =>
    let overTop := (List.range 4).filter fun k => 64 < blockCount k q
    let cand := if 64 ≤ blockCount sev q then overTop.filter (· ≤ sev) else overTop
    let pick := match cand.head? with
      | some k => oldestBlock q ((quiltBlocks q).filter fun p => p.2.severity == k)
      | none => oldestBlock q ((quiltBlocks q).filter fun p => p.2.severity == sev && !p.2.isOpen)
    pick.map (·.1)

/-- The open block of a severity (R461). -/
def openBlock (sev : Nat) (q : Quilt) : Option (Nat × QuiltBlock) :=
  (quiltBlocks q).find? fun p => p.2.severity == sev && p.2.isOpen

/-- A record opens a block: taken, erased whole, with its header (R461, R472). -/
def writeNewBlock (r : QuiltRecord) (q : Quilt) : Quilt :=
  match takeBlock r.severity q with
  | none => q
  | some b =>
    let blk : QuiltBlock := { seq := q.nextBlock, severity := r.severity, openedAt := q.seconds, isOpen := true,
                              records := [r] }
    { q with blocks := mapPut none b (some blk) q.blocks, nextBlock := q.nextBlock + 1 }

/-- A record is written to MRAM: into the open block of its severity, or into a new one when it does not fit (R461). -/
def writeRecord (r : QuiltRecord) (q : Quilt) : Quilt :=
  match openBlock r.severity q with
  | none => writeNewBlock r q
  | some (n, b) =>
    if 32 + recordsBytes b.records + r.length ≤ 4096 then
      { q with blocks := mapPut none n (some { b with records := b.records ++ [r] }) q.blocks }
    else writeNewBlock r { q with blocks := mapPut none n (some { b with isOpen := false }) q.blocks }

/-- Records of the staging queue that find room in the buffer join it, in order (R469). -/
def queueToBuffer : List QuiltRecord → List QuiltRecord → List QuiltRecord × List QuiltRecord
  | [], buf => (buf, [])
  | r :: rest, buf =>
    if recordsBytes buf + r.length ≤ 262144 then queueToBuffer rest (buf ++ [r]) else (buf, r :: rest)

/-- The staging queue drains, and lost records are recorded as soon as the buffer has room (R469). -/
def drainQueue (s : State) : State :=
  let d := queueToBuffer s.quilt.queue s.quilt.buffer
  let s := { s with
    quilt.buffer := d.1
    quilt.queue := d.2 }
  if s.quilt.lostDue ≠ 0 ∧ s.quilt.queue = [] ∧ recordsBytes s.quilt.buffer + 56 ≤ 262144 then
    logEvent (.lost s.quilt.lostDue) { s with quilt.lostDue := 0 }
  else s

/-- The buffered records are written to MRAM in SEQ order and leave the buffer (R468, R470). -/
def writeBuffered (s : State) : State :=
  drainQueue { s with quilt := { s.quilt.buffer.foldl (fun q r => writeRecord r q) s.quilt with buffer := [] } }

/-- The highest number found, modulo 2^32, counted back from `next` (R474). -/
def newest (next : BitVec 32) : List (BitVec 32) → Option (BitVec 32)
  | [] => none
  | x :: r =>
    match newest next r with
    | none => some x
    | some y => if (next - x).toNat ≤ (next - y).toNat then some x else some y

/-- At power-on SEQ and BLOCK_SEQ resume one above the highest found in the block headers and records (R474). -/
def quiltResume (q : Quilt) : Quilt :=
  let seqs := (quiltBlocks q).flatMap fun p => p.2.records.map (·.seq)
  let blks := (quiltBlocks q).map fun p => p.2.seq
  { q with
    nextSeq := match newest (q.nextSeq - 1) seqs with | some x => x + 1 | none => 0
    nextBlock := match newest (q.nextBlock - 1) blks with | some x => x + 1 | none => 0 }

/-- Two's complement of a number in `n` bytes, little-endian. -/
def intBytes (n : Nat) (v : Int) : List Byte := leBytes n ((v % (2 ^ (8 * n) : Nat)).toNat)

/-- The 16 bytes of a protection notice (Table 11-9). -/
def noticeBytes (n : Notice) : List Byte :=
  leBytes 4 n.descriptor.toNat ++
    leBytes 1 ((if n.imprecise then 1 else 0) + (if n.priv then 2 else 0) + n.kind * 4 + n.reason * 16) ++
    leBytes 1 n.region ++ leBytes 1 n.master ++ leBytes 1 n.epoch.toNat ++ leBytes 4 n.address.toNat ++
    leBytes 4 n.cycle.toNat

/-- Seconds and nanoseconds of a time as 6 and 4 bytes. -/
def timeBytes (t : Nat) : List Byte := leBytes 6 (t / 1000000000) ++ leBytes 4 (t % 1000000000)

/-- The 72 bytes of a loom event record (Table 15-9). -/
def loomBytes (cls : Nat) (e : LoomEvent) : List Byte :=
  let flags := (if e.reporterOverflow then 1 else 0) + (if e.loss then 2 else 0) + (if e.overflowEvent then 4 else 0) +
    (if e.closedByLimit then 8 else 0)
  let list := (List.range 16).flatMap fun i => leBytes 2 ((e.reporters.map (·.toNat)).getD i 0xFFFF)
  leBytes 4 e.key.toNat ++ leBytes 1 cls ++ leBytes 1 e.severity ++ leBytes 1 flags ++ leBytes 1 0 ++
    leBytes 4 e.reports ++ leBytes 2 e.reporters.length ++ leBytes 2 0 ++ timeBytes e.first ++ timeBytes e.last ++
    leBytes 4 e.arg.toNat ++ list

/-- CODE of a record (Table 19-3, Table 19-4). -/
def recordCode : QuiltBody → Nat
  | .transition .. => 0x0100
  | .alarm on .. => if on then 0x0200 else 0x0201
  | .faultCause .. => 0x0300
  | .notice _ => 0x0400
  | .loom .. => 0x0500
  | .other .. => 0x0600
  | .lost _ => 0x0700
  | .histogram c .. => c
  | .extreme c .. => c

/-- KIND of a record without PARTIAL (Table 19-2). -/
def recordKind : QuiltBody → Nat
  | .histogram .. => 2
  | .extreme .. => 3
  | _ => 1

/-- DATA of an event (Table 19-3). -/
def eventDataBytes : QuiltBody → List Byte
  | .transition p n c => leBytes 1 p ++ leBytes 1 n ++ leBytes 2 c
  | .alarm _ a _ => leBytes 1 (alarmName a).length ++ nameBytes (alarmName a)
  | .faultCause c d sec => leBytes 2 c ++ leBytes 4 d ++ leBytes 1 (if sec then 1 else 0)
  | .notice n => noticeBytes n
  | .loom c e => loomBytes c e
  | .other e args => otherData e args
  | .lost c => leBytes 4 c
  | _ => []

/-- Body of a record before its padding (R463, R464). -/
def recordBody (r : QuiltRecord) : List Byte :=
  match r.body with
  | .histogram _ i lo w u bins o =>
    leBytes 4 i ++ intBytes 4 lo ++ leBytes 4 w ++ leBytes 4 u ++ bins.flatMap (leBytes 4) ++ leBytes 4 o
  | .extreme _ i mn ma mx xa c sm =>
    leBytes 4 i ++ intBytes 4 mn ++ leBytes 4 ma ++ intBytes 4 mx ++ leBytes 4 xa ++ leBytes 4 c ++ intBytes 8 sm
  | b =>
    let d := eventDataBytes b
    leBytes 5 r.cycle.toNat ++ leBytes 3 0 ++ timeBytes r.time ++ leBytes 1 d.length ++ leBytes 1 0 ++ d

/-- A record as its bytes: header, body padded to LENGTH, CRC-32 (R462). -/
def recordBytes (r : QuiltRecord) : List Byte :=
  let head := leBytes 1 (recordKind r.body + if r.isPartial then 128 else 0) ++ leBytes 1 r.severity ++
    leBytes 2 r.length ++ leBytes 4 r.seq.toNat ++ leBytes 4 r.seconds ++ leBytes 4 r.powerCycles ++
    leBytes 2 (recordCode r.body) ++ leBytes 2 r.source
  let b := head ++ recordBody r
  let b := b ++ List.replicate (r.length - 4 - b.length) 0
  b ++ leBytes 4 (crc32 b).toNat

/-- Every record held, oldest SEQ first: MRAM, then the buffer (R475). -/
def heldRecords (q : Quilt) : List QuiltRecord :=
  let m := (quiltBlocks q).flatMap fun p => p.2.records
  let far (r : QuiltRecord) : Nat := 2 ^ 32 - (q.nextSeq - r.seq).toNat
  sortBy far m ++ q.buffer

/-- The records a snapshot takes from the cursor on: those examined, and those chosen, up to `room` bytes (R475). -/
def takeRecords (sev mask : Nat) : Nat → List QuiltRecord → List QuiltRecord × List QuiltRecord
  | _, [] => ([], [])
  | room, r :: rest =>
    if sev ≤ r.severity ∧ mask.testBit (recordKind r.body - 1) then
      if r.length ≤ room then
        let t := takeRecords sev mask (room - r.length) rest
        (r :: t.1, r :: t.2)
      else ([], [])
    else
      let t := takeRecords sev mask room rest
      (r :: t.1, t.2)

/-- A reading of the quilt from a cursor (R475): the bytes, the records skipped, the cursor after the last segment. -/
def quiltSnapshot (cursor : BitVec 32) (sev mask : Nat) (q : Quilt) : List Byte × Nat × BitVec 32 :=
  let held := heldRecords q
  let behind (x : BitVec 32) : Nat := (q.nextSeq - x).toNat
  let todo := if cursor = 0 then held else held.filter fun r => behind r.seq ≤ behind cursor
  let skipped := match held.head? with
    | some r => if cursor = 0 then 0 else behind cursor - behind r.seq
    | none => 0
  let t := takeRecords sev mask 65536 todo
  let next := match t.1.getLast? with | some r => r.seq + 1 | none => cursor
  (t.2.flatMap recordBytes, skipped, next)

end Sys2Proof.Machine
end

