-- ==== Sys2Proof/Machine/Supply.lean ====
section
/-!
DEFINITION. Meanings of the supply and hold-up commands (02_module_and_connectors.md R43–R48, 03_start_and_modes.md).
-/
namespace Sys2Proof.Machine

/-- An input that a monitor sample reads, outside a ride-through (R43, Table 20-3): above 62 V overvoltage, two samples
below 8.5 V lost. Above 60 V up to 62 V, and 8.5 V to 9.0 V, the state stays; only a supply that has been there is
lost, one never seen or reversed stays absent. -/
def sampleInput (v : Int) (i : SupplyInput) : SupplyInput :=
  let low := if v < 8500 then min 2 (i.lowSamples + 1) else 0
  let st := if 62000 < v then 3 else if low = 2 ∧ (i.state = 1 ∨ i.state = 3) then 2 else i.state
  { state := st, millivolts := v, lowSamples := low, qualifying := decide (9000 ≤ v ∧ v ≤ 60000) }

/-- In the ride-through and after the flush of a power-fail sequence one sample at or above 9.0 V makes an input good
again (R45, R46). -/
def returnInput (v : Int) (i : SupplyInput) : SupplyInput :=
  let j := sampleInput v i
  if 9000 ≤ v ∧ v ≤ 62000 then { j with state := 1 } else j

/-- Some input is good. -/
def inputGood (s : State) : Bool := s.supply.a.state == 1 || s.supply.b.state == 1

/-- The module runs on the hold-up bank: no input is good (R45, R46). -/
def onBank (s : State) : Bool := (s.supply.rideThrough || s.supply.powerFail) && !inputGood s

/-- On the bank the bank voltage falls by an amount that no command measures: a free value, held to 46.0 V while the ride-through
lasts, after which the bank still counts as charged (R48; assumption log 126). -/
def bankFalls (s : State) : State :=
  if onBank s then
    let d := drawNat s
    let v := s.supply.bankMillivolts
    { d.2 with supply.bankMillivolts := max (if s.supply.rideThrough then min v 46000 else 0) (min v d.1) }
  else s

/-- The power-fail sequence (R45, R118, R470): the flush starts, the mirror engine drops its record in progress, FAULT
with its cause. -/
def powerFailSequence (cause : Nat) (s : State) : State :=
  enterFault cause 0 (startFlush 4
    { s with
      supply.rideThrough := false
      supply.powerFail := true
      solver.mirror.writing := none
      change.fallback := s.change.fallback.map fun m => { m with writing := none } })

/-- One input is lost while the other is good: the alarm, or an event at the loss (R44). DESIGN CHOICE (assumption log 127): the
alarm clears when the input is good again, and a write of FALSE to 0xA020:07 leaves a standing one. -/
def supplyAlarm (n : Nat) (before this other : SupplyInput) (s : State) : State :=
  let lost := this.state = 2 ∨ this.state = 3
  if this.state = 1 then clearAlarm .supplyInputLost n s
  else if lost ∧ other.state = 1 then
    if setSingleInputAlarm s.nsp.settings then raiseAlarm .supplyInputLost n s
    else if before.state = 1 then logOther .supplyInputLost [n] s else s
  else s

/-- Charging power in 0.1 W: what the load leaves of 46 W, at most 12 W (R48). -/
def chargingPower (load : Nat) : Nat := min 120 (460 - load)

/-- Samples of quantity 0x0002 in 10 mV: extremes at each sample, histogram at each hundredth (Table 19-4). -/
def sampleSupply (n : Nat) (v : Int) (s : State) : State :=
  let k := (mapVal {} (accKey 2 n) s.quilt.accumulators : Accumulator).count
  sample 2 n 800 200 (k % 100 == 0) true (v.tdiv 10) s

/-- SUPPLY_SAMPLE (R43). -/
def execSupplySample (a b : Int) (loadPower : Nat) (s : State) : Host.Outcome State Fault Refusal :=
  let sup := s.supply
  let step := if sup.rideThrough ∨ sup.powerFail then returnInput else sampleInput
  let na := step a sup.a
  let nb := step b sup.b
  let good := na.state == 1 || nb.state == 1
  let s1 : State := { s with
    supply.a := na
    supply.b := nb
    supply.loadPower := loadPower
    supply.recharging := sup.recharging || (onBank s && good)
    supply.chargingPower := if good && (!sup.charged || sup.recharging || onBank s) then chargingPower loadPower else 0 }
  if s.modes.mode = .off then .next s1
  else
    let s2 := sampleSupply 1 a (sampleSupply 2 b s1)
    let s3 := supplyAlarm 0 sup.a na nb (supplyAlarm 1 sup.b nb na s2)
    let s4 :=
      if sup.powerFail then s3
      else if sup.rideThrough then
        if good then { s3 with supply.rideThrough := false, supply.rideThroughs := sup.rideThroughs + 1 } else s3
      else if inputGood s && !good then
        if sup.charged then { s3 with supply.rideThrough := true } else powerFailSequence 0x1051 s3
      else s3
    .next (bankFalls s4)

/-- SUPPLY_GOOD_QUALIFIED (R43): the input has stayed within 9.0 V to 60 V for 100 ms. -/
def execSupplyGoodQualified (input : Fin 2) (s : State) : Host.Outcome State Fault Refusal :=
  if input = 0 then
    .next (if s.supply.a.qualifying then clearAlarm .supplyInputLost 0 { s with supply.a.state := 1 } else s)
  else
    .next (if s.supply.b.qualifying then clearAlarm .supplyInputLost 1 { s with supply.b.state := 1 } else s)

/-- RIDE_THROUGH_END (R45): 2 ms have passed with no input good. -/
def execRideThroughEnd (s : State) : Host.Outcome State Fault Refusal :=
  .next (if s.supply.rideThrough then powerFailSequence 0x1051 s else s)

/-- The measured capacitance is held against the alarm level (R47). -/
def capacitanceAlarm (s : State) : State :=
  if s.supply.capacitance < setCapacitanceAlarm s.nsp.settings then raiseAlarm .holdUpCapacitanceLow 0 s
  else clearAlarm .holdUpCapacitanceLow 0 s

/-- BANK_CHARGED (R48): the bank counts as charged at or above 46.0 V, and the charger runs on to 48 V, so that 0xA021:01 reads 0
until then; R47 holds its measured capacitance against the alarm level. -/
def execBankCharged (millivolts : Nat) (s : State) : Host.Outcome State Fault Refusal :=
  if s.modes.mode = .off then .next s
  else
    let s := { s with supply.bankMillivolts := millivolts }
    if 46000 ≤ millivolts then
      .next (capacitanceAlarm { s with
        supply.charged := true
        supply.recharging := decide (millivolts < 48000) })
    else .next { s with supply.charged := false }

/-- The module loses power: everything volatile is gone, the latch is set by the loss of power-good (R46, R54, R240). -/
def powerOff (s : State) : State :=
  let s := resetIslands (setMode .off 0 s)
  { s with
    islands := {}
    diag.latch := true
    quilt.buffer := []
    quilt.flushing := false
    supply.charged := false
    supply.recharging := false
    supply.rideThrough := false
    supply.powerFail := false
    front.converters := false
    front.powerGood := false
    front.modulePresentOut := false
    front.lampTest := false }

/-- BANK_EXHAUSTED (R46): OFF, with no input present. -/
def execBankExhausted (s : State) : Host.Outcome State Fault Refusal :=
  .next (if s.modes.mode ≠ .off ∧ inputGood s = false then powerOff s else s)

/-- POWER_FAIL_RESTART (R46): an input is present and the flush has ended; the start runs as at power-on. -/
def execPowerFailRestart (s : State) : Host.Outcome State Fault Refusal :=
  if s.supply.powerFail && !s.quilt.flushing && inputGood s then
    let s := resetIslands (clearAlarms { s with modes.restart := .powerFail })
    .next (enterKickstand true 0x000E
      (countPowerCycle { s with supply.powerFail := false, supply.charged := false }))
  else .next s

end Sys2Proof.Machine
end

