-- ==== Sys2Proof/Machine/Front.lean ====
section
/-!
DEFINITION. Meanings of power-good, hot swap, slot straps, cover and indicators (02_module_and_connectors.md R33–R52,
03_start_and_modes.md R57).
-/
namespace Sys2Proof.Machine

/-- Number of ones in a bit string. -/
def onesOf {n : Nat} (b : BitVec n) : Nat := ((List.range n).filter b.getLsbD).length

/-- The sampled identity is valid: an even number of ones and a slot from 1 to 62 (R33). -/
def slotIdentityValid (straps : BitVec 7) : Bool :=
  let n := (straps.setWidth 6).toNat
  onesOf straps % 2 == 0 && decide (1 ≤ n ∧ n ≤ 62)

/-- NSP is answered from the start of LOAD on (R81). -/
def nspUp (s : State) : Bool :=
  match s.modes.mode with
  | .off | .kickstand | .selftest => false
  | .fault => islandUp 2 s
  | _ => true

/-- The copy of the counter record with the higher write count is restored at power-on (R471). -/
def restoreCounters (q : Quilt) : Quilt :=
  let c := if q.counters.1.writes < q.counters.2.writes then q.counters.2 else q.counters.1
  { q with
    seconds := c.seconds
    powerCycles := c.powerCycles }

/-- POWER_GOOD (R33, R35, R41, R57, R471, R474). -/
def execPowerGood (straps : BitVec 7) (partnerLow : Bool) (t : Nat) (s : State) : Host.Outcome State Fault Refusal :=
  if s.modes.mode = .off ∧ s.front.converters then
    let s := atTime t s
    let s := { s with
      front.powerGood := true
      front.straps := straps
      front.slotValid := slotIdentityValid straps
      front.slotChanges := 0
      front.partnerPresent := partnerLow
      front.modulePresentOut := true
      front.lampTest := true
      modes.restart := .powerOn
      modes.startOrigin := s.network.time.now
      quilt := quiltResume (restoreCounters { s.quilt with buffer := [], queue := [] }) }
    .next (enterKickstand true 0x0001 (countPowerCycle s))
  else .next s

/-- LAMP_TEST_END (R41). -/
def execLampTestEnd (s : State) : Host.Outcome State Fault Refusal := .next { s with front.lampTest := false }

/-- LAMP_TEST: a write of TRUE to 0xA022:06 repeats the lamp test (R41). -/
def execLampTest (s : State) : Host.Outcome State Fault Refusal :=
  .next (if nspUp s then { s with front.lampTest := true } else s)

/-- The identify pattern is commanded for some seconds (R41). -/
def startIdentify (seconds : Nat) (s : State) : State :=
  { s with
    front.identifySeconds := seconds
    front.identifyAt := s.network.time.now }

/-- IDENTIFY (R41). -/
def execIdentify (seconds : BitVec 8) (s : State) : Host.Outcome State Fault Refusal :=
  .next (if nspUp s then startIdentify seconds.toNat s else s)

/-- IDENTIFY_END (R41). -/
def execIdentifyEnd (s : State) : Host.Outcome State Fault Refusal := .next { s with front.identifySeconds := 0 }

/-- MATED_SENSE_DEBOUNCE (R49): both contacts have read low for 20 ms. -/
def execMatedSenseDebounce (s : State) : Host.Outcome State Fault Refusal :=
  .next { s with
    front.mated := true
    front.converters := true }

/-- EXTRACTION_WITHOUT_RELEASE (R52): the power-fail sequence with no ride-through. -/
def execExtractionWithoutRelease (s : State) : Host.Outcome State Fault Refusal :=
  let out := { s with front.mated := false }
  if s.modes.mode = .off then .next { out with front.converters := false }
  else if s.front.mated && s.front.extraction != .ready && !s.supply.powerFail then
    .next (powerFailSequence 0x1052 out)
  else .next out

/-- A pair update in states 1 to 6 enters ABORTED (R459). -/
def abortUpdate (cause : Nat) (s : State) : State :=
  if 1 ≤ s.firmware.pairState ∧ s.firmware.pairState ≤ 6 then
    { s with
      firmware.pairState := 8
      firmware.abortCause := cause }
  else s

/-- As standby: no weft frame is committed any more and the standby is unsynchronised (R50, R215); a commit that has started
completes all the same (R214). -/
def stopCommitting (s : State) : State :=
  { s with
    pair.standby := if s.pair.standby = .none then .none else .unsynchronised
    pair.frames := []
    pair.boundaries := []
    pair.badFrame := none
    pair.handoverBefore := none
    pair.resyncAccepted := false
    pair.resyncBase := false }

/-- Lever open in ACTIVE without a synchronised standby, or SOLO (Table 2-9). -/
def leverAlone (s : State) : State :=
  if setExtractionWithoutPartner s.nsp.settings = 0 then
    { s with
      front.extraction := .refused
      front.refusedShown := true }
  else
    { s with
      front.extraction := .preparing
      modes.triggers := s.modes.triggers ++ [.extractionStop] }

/-- Response to the open lever by mode (Table 2-9, R50). -/
def leverResponse (s : State) : State :=
  let preparing (s : State) : State := { s with front.extraction := .preparing }
  match s.modes.mode with
  | .standby => preparing (stopCommitting (sendBoth 3 .none s))
  | .active =>
    if standbySynchronised s then preparing { s with modes.triggers := s.modes.triggers ++ [.handover .lever] }
    else leverAlone s
  | .solo => leverAlone s
  | .handover | .change => preparing { s with front.extractionWaiting := true }
  | _ => preparing s

/-- A request that waited for HANDOVER or CHANGE to end is handled by the row of the resulting mode (R50). -/
def leverAfterWait (s : State) : State :=
  if s.front.extractionWaiting && s.modes.mode != .handover && s.modes.mode != .change then
    leverResponse { s with front.extractionWaiting := false }
  else s

/-- EXTRACTION_LEVER_OPEN (R50, R459). -/
def execExtractionLeverOpen (s : State) : Host.Outcome State Fault Refusal :=
  .next (if s.front.leverOpen then s else leverResponse (abortUpdate 5 { s with front.leverOpen := true }))

/-- A trigger that the lever has brought. -/
def leverTrigger : Trigger → Bool
  | .extractionStop => true
  | .handover c => c == .lever
  | _ => false

/-- EXTRACTION_LEVER_CLOSE (R51): a standby asks for its resynchronisation again with its next RESYNC_REQUEST, which an open
lever held back (R230). DESIGN CHOICE (assumption log 128): MODULE_PRESENT_OUT stays released after a request that had become
ready. -/
def execExtractionLeverClose (s : State) : Host.Outcome State Fault Refusal :=
  .next { s with
    front.leverOpen := false
    front.extraction := .seated
    front.refusedShown := false
    front.extractionWaiting := false
    modes.triggers := s.modes.triggers.filter fun x => !leverTrigger x }

/-- EXTRACTION_READY (R35, R50): the quilt is flushed and MODULE_PRESENT_OUT released; never while the module holds
authority or a request waits. -/
def execExtractionReady (s : State) : Host.Outcome State Fault Refusal :=
  if s.front.extraction = .preparing ∧ solving s.modes.mode = false ∧ s.front.extractionWaiting = false then
    let s := if s.modes.mode = .off then s else writeBuffered s
    .next { s with
      front.extraction := .ready
      front.modulePresentOut := false }
  else .next s

/-- EXTRACTION_REFUSED_END (R40, R50). -/
def execExtractionRefusedEnd (s : State) : Host.Outcome State Fault Refusal :=
  .next { s with front.refusedShown := false }

/-- SLOT_STRAP_CHANGE (R33): an event and a count, no other effect. -/
def execSlotStrapChange (s : State) : Host.Outcome State Fault Refusal :=
  .next (if s.modes.mode = .off then s
    else logOther .slotChange [] { s with front.slotChanges := satU16 (s.front.slotChanges + 1) })

/-- PARTNER_PRESENT_CHANGE (R35): reported and recorded only. -/
def execPartnerPresentChange (low : Bool) (s : State) : Host.Outcome State Fault Refusal :=
  .next (if s.modes.mode = .off then s
    else logOther .partnerPresent [if low then 1 else 0] { s with front.partnerPresent := low })

/-- FS_ATTACHMENT (R36): a session of the USB connection that ends has no source any more (R433). -/
def execFsAttachment (attached : Bool) (s : State) : Host.Outcome State Fault Refusal :=
  if attached then .next { s with front.fsAttached := true }
  else .next { s with
    front.fsAttached := false
    nsp.sessions := mapAll {} (fun _ (x : Session) => if x.carrier = some .fs then { x with carrier := none } else x) s.nsp.sessions }

/-- Colours of the indicators (Table 2-7). -/
inductive Colour where
  | green | amber | red | blue | greenAmber
  deriving DecidableEq, Repr

/-- Flash patterns (Table 2-6). -/
inductive Pattern where
  | steady | slow | fast | blip | wink | alternating
  deriving DecidableEq, Repr

/-- What an indicator shows: nothing, a colour in a pattern, or each of its colours in turn (R40, R41). -/
inductive Shown where
  | dark
  | lit (c : Colour) (p : Pattern)
  | inTurn (l : List Colour)
  deriving DecidableEq, Repr

/-- The lamp test comes before everything; the identify pattern takes the place of the normal states of POWER, MODE and JERSEY
(R41). DESIGN CHOICE: during a lamp test the identify pattern does not show (assumption log 125). -/
def shownAs (colours : List Colour) (identify : Bool) (normal : Shown) (s : State) : Shown :=
  if s.modes.mode = .off then .dark
  else if s.front.lampTest then .inTurn colours
  else if identify && s.front.identifySeconds != 0 then .lit .amber .fast
  else normal

/-- Hold-up bank charging (R48, 0xA021:01). -/
def bankCharging (s : State) : Bool := !s.supply.charged || s.supply.recharging

/-- Normal state of POWER (R40, Table 2-7). -/
def powerNormal (s : State) : Shown :=
  if onBank s then .lit .amber .steady
  else if bankCharging s || decide (s.supply.capacitance < setCapacitanceAlarm s.nsp.settings) then .lit .amber .slow
  else if setSingleInputAlarm s.nsp.settings && !(s.supply.a.state == 1 && s.supply.b.state == 1) then
    .lit .green .slow
  else .lit .green .steady

/-- Indicator POWER (R40, R41, Table 2-7). -/
def powerIndicator (s : State) : Shown := shownAs [.amber, .green] true (powerNormal s) s

/-- Normal state of MODE (R40, Table 2-7). -/
def modeNormal (s : State) : Shown :=
  if s.front.extraction = .ready then .lit .blue .steady
  else if s.front.refusedShown then .lit .blue .fast
  else match s.modes.mode with
    | .off => .dark
    | .fault => .lit .red .steady
    | .kickstand => .lit .amber .steady
    | .selftest => .lit .amber .slow
    | .load => .lit .amber .fast
    | .stop => .lit .amber .blip
    | .standby => .lit .green .slow
    | .active => .lit .green .steady
    | .solo => .lit .green .wink
    | .handover => .lit .green .fast
    | .change => .lit .greenAmber .alternating
    | .provision => .lit .blue .slow

/-- Indicator MODE (R40, R41, Table 2-7). -/
def modeIndicator (s : State) : Shown := shownAs [.blue, .red, .amber, .green] true (modeNormal s) s

/-- The module holds a committed checkpoint from the current active module, by the jersey that one announces (Table 2-7). -/
def checkpointOfActive (s : State) : Bool :=
  match s.pair.checkpoint with
  | some c => c.jersey == s.pair.partner.jersey
  | none => false

/-- Normal state of JERSEY (R40, Table 2-7). -/
def jerseyNormal (s : State) : Shown :=
  if s.seam.pairMismatch then .lit .amber .steady
  else if solving s.modes.mode then .lit .green .steady
  else if s.modes.mode = .standby then
    if checkpointOfActive s then .lit .green .blip
    else if s.pair.standby = .synchronised then .dark
    else .lit .amber .slow
  else .dark

/-- Indicator JERSEY (R40, R41, R80, Table 2-7). -/
def jerseyIndicator (s : State) : Shown := shownAs [.amber, .green] true (jerseyNormal s) s

/-- Indicator FAULT (R40, R41, Table 2-7): the identify pattern leaves it alone. -/
def faultIndicator (s : State) : Shown :=
  shownAs [.red] false
    (if s.modes.mode = .fault then .lit .red .steady
      else if s.alarms.isEmpty then .dark else .lit .red .slow) s

end Sys2Proof.Machine
end

