-- ==== Sys2Proof/Machine/Control.lean ====
section
/-!
DEFINITION. Meanings of the control flow, XCH and FENCE instructions and of what ends or breaks a partition
(05_instruction_set.md R139, R143–R148; 04_logic_solver.md R85–R91; 09_diagnostics_and_safe_state.md R237).
-/
namespace Sys2Proof.Machine

/-- END (R87, R88, R91, R93, R139): a break with any stack not empty; else the run is counted, a tandem closes its window
and the next partition starts. -/
def execEndP (p : Place) (s : State) : Host.Outcome State Fault Refusal :=
  runAt p (fun l s =>
    if l.branch ≠ [] ∨ l.calls ≠ [] ∨ l.loops ≠ [] then breakAt p.val s
    else if isTandem p.val && streamFull p.val s then s
    else
      let n := l.running.getD 0
      let s := { s with
        solver.lastPath := mapPut 0 n (l.path + 7) s.solver.lastPath
        solver.saturations := if l.sat then mapMod 0 n (fun k => satU32 (k + 1)) s.solver.saturations
          else s.solver.saturations }
      let s := if isTandem p.val then closeWindow p.val s else s
      if s.modes.mode = .fault then s else startNext p.val s) s

/-- A jump taken or not; the decision enters the signature (R85, Table 9-1). -/
def jump (p : Place) (target : Word) (taken : Lane → Bool) (s : State) : Host.Outcome State Fault Refusal :=
  runAt p (fun l s =>
    let s := signAt p.val (if taken l then 2 else 3) (if taken l then target else 0) l.pc s
    let s := advance p.val 2 s
    if taken l then modLane p.val (fun l => { l with pc := target }) s else s) s

/-- JMP. -/
def execJmp (p : Place) (target : Word) (s : State) : Host.Outcome State Fault Refusal := jump p target (fun _ => true) s

/-- JC. -/
def execJc (p : Place) (target : Word) (s : State) : Host.Outcome State Fault Refusal := jump p target (fun l => l.acc) s

/-- JNC. -/
def execJnc (p : Place) (target : Word) (s : State) : Host.Outcome State Fault Refusal :=
  jump p target (fun l => !l.acc) s

/-- LOOP: a fifth open LOOP is a break (R88). -/
def execLoop (p : Place) (count : Word) (s : State) : Host.Outcome State Fault Refusal :=
  runAt p (fun l s =>
    if 4 ≤ l.loops.length then breakAt p.val s
    else advance p.val 2 (modLane p.val (fun l =>
      { l with loops := { remaining := count.toNat, index := 0, body := l.pc + 1 } :: l.loops }) s)) s

/-- ENDL: repeat the body or close the loop; without an open LOOP it is a break (R139). -/
def execEndl (p : Place) (s : State) : Host.Outcome State Fault Refusal :=
  runAt p (fun l s =>
    match l.loops with
    | [] => breakAt p.val s
    | e :: r =>
      if e.remaining - 1 ≠ 0 then
        let s := advance p.val 2 (signAt p.val 6 0 l.pc s)
        modLane p.val (fun l =>
          { l with pc := e.body, loops := { e with remaining := e.remaining - 1, index := e.index + 1 } :: r }) s
      else modLane p.val (fun l => { l with loops := r }) (advance p.val 2 (signAt p.val 7 0 l.pc s))) s

/-- CALL: five deep is a break (R88, R139). -/
def execCall (p : Place) (target : Word) (s : State) : Host.Outcome State Fault Refusal :=
  runAt p (fun l s =>
    if 4 ≤ l.calls.length then breakAt p.val s
    else
      let s := advance p.val 3 (signAt p.val 4 target l.pc s)
      modLane p.val (fun k => { k with pc := target, calls := (l.pc + 1, l.branch.length) :: k.calls }) s) s

/-- RET: a break with an empty call stack or another branch depth than at the CALL (R88, R139). -/
def execRet (p : Place) (s : State) : Host.Outcome State Fault Refusal :=
  runAt p (fun l s =>
    match l.calls with
    | [] => breakAt p.val s
    | (a, d) :: r =>
      if l.branch.length ≠ d then breakAt p.val s
      else
        let s := advance p.val 3 (signAt p.val 5 a l.pc s)
        modLane p.val (fun l => { l with pc := a, calls := r }) s) s

/-- XCH.F0: the present value at the front end and its validity; without an answer both are 0 (R143, R144). -/
def execXchInput (p : Place) (o : WordOperand) (answered : Bool) (s : State) : Host.Outcome State Fault Refusal :=
  runAt p (fun l s =>
    let a := (wordAddress o l).toNat
    let w := if answered then localWord a s else 0
    let v := answered && localValid a s
    advance p.val (64 + surcharge o.stride) (modLane p.val (fun l => { l with wa := w, acc := v }) s)) s

/-- XCH.F1: a normal write of WA, posted as well; a solo has no comparison to wait for (R143, R144). -/
def execXchOutput (p : Place) (o : WordOperand) (s : State) : Host.Outcome State Fault Refusal :=
  runAt p (fun l s =>
    let a := wordAddress o l
    writeThen p.val a l.wa (fun s =>
      let s := signAt p.val 8 l.wa a s
      advance p.val (8 + surcharge o.stride) (modLane p.val (fun k =>
        { k with posts := k.posts ++ [{ address := a, value := l.wa, passed := !isTandem p.val }] }) s)) s) s

/-- FENCE: a tandem closes its window; every earlier post is latched before the next instruction issues (R145). -/
def execFence (p : Place) (s : State) : Host.Outcome State Fault Refusal :=
  runAt p (fun _ s =>
    if isTandem p.val && streamFull p.val s then s else
    let s := advance p.val 128 s
    if isTandem p.val then
      let s := closeWindow p.val s
      if s.modes.mode = .fault then s else latchPosts p.val (modLane p.val (fun l => { l with window := 0 }) s)
    else latchPosts p.val s) s

/-- XCH_POST_LATCH: the oldest post whose window has passed is latched in its register (R144). -/
def execXchPostLatch (p : Place) (s : State) : Host.Outcome State Fault Refusal :=
  match (laneAt p.val s).posts with
  | q :: r => .next (if q.passed then
      modLane p.val (fun l => { l with posts := r }) (latchWord q.address.toNat q.value s) else s)
  | [] => .next s

/-- PATH_WATCHDOG_EXPIRY: the running partition has passed its admitted path (R89). -/
def execPathWatchdogExpiry (p : Place) (s : State) : Host.Outcome State Fault Refusal :=
  runAt p (fun l s =>
    if mapVal 0 (l.running.getD 0) (admitted s).paths < l.path then breakAt p.val s else s) s

/-- ILLEGAL_ENCODING_FETCH (R148). -/
def execIllegalEncodingFetch (p : Place) (s : State) : Host.Outcome State Fault Refusal :=
  runAt p (fun _ s => breakAt p.val s) s

/-- The tandem is idle in the plan in force (R96). -/
def planStateOf (t : Nat) (s : State) : PlanState :=
  match activeImage s with
  | some i => (i.plans.getD s.solver.plan []).getD t .idle
  | none => .idle

/-- SIGNATURE_WINDOW_END (R85, R100, R237): a window of 1,024 solver cycles ends. `disturbance` is what a hardware fault
has made of the trailing signature; on an idle tandem that runs its test it fails both lanes. -/
def execSignatureWindowEnd (tandem : Fin 16) (disturbance : BitVec 32) (s : State) :
    Host.Outcome State Fault Refusal :=
  let t := tandem.val
  if s.cycle.phase ≠ .solve ∨ streamFull t s then .next s
  else if planStateOf t s = .idle then
    let s := pushTest t disturbance s
    .next (if disturbance = 0 then s else raiseAlarm .idleTandemFailed t (failLanes [2 * t, 2 * t + 1] s))
  else if laneRuns t s && decide (1024 ≤ (laneAt t s).window) then
    let s := modLane t (fun l => { l with sigTrail := l.sigTrail ^^^ disturbance, window := l.window - 1024 }) s
    .next (closeWindow t s)
  else .next s

end Sys2Proof.Machine
end

