-- ==== Sys2Proof/Machine/LocalIo.lean ====
section
/-!
DEFINITION. Meanings of the local field I/O commands (16_local_io.md R403–R418, 02_module_and_connectors.md R42,
09_diagnostics_and_safe_state.md R250).
-/
namespace Sys2Proof.Machine

/-- The supervisor island, to which the front end belongs, runs (16_local_io.md). -/
def frontEndUp (s : State) : Bool := islandUp 8 s

/-- AI_SAMPLE (R405): the raw currents of inputs 1 to 8, unit 25 nA; a missing reading counts as an open loop, 0. -/
def execAiSample (raw : List Nat) (s : State) : Host.Outcome State Fault Refusal :=
  .next (if frontEndUp s then
    (rangeFrom 1 8).foldl (fun s n => modAi n (fun a => sampleAnalog n (raw.getD (n - 1) 0) a s) s) s else s)

/-- AI_FAILURE_DELAY (Table 16-4): the current has been outside 3.6–21.0 mA for the failure delay. -/
def execAiFailureDelay (input : Fin 8) (s : State) : Host.Outcome State Fault Refusal :=
  let n := input.val + 1
  let a := analogIn n s
  .next (if frontEndUp s && (a.failLow || a.failHigh) && !a.failed then
    modAi n (fun a => classInput n { a with failed := true } s) s else s)

/-- AO_SHORTFALL (R409): the regulator has been at its limit with a low readback for 20 ms. -/
def execAoShortfall (output : Fin 8) (s : State) : Host.Outcome State Fault Refusal :=
  let n := output.val + 1
  let a := analogOut n s
  if frontEndUp s && !a.shortfall && decide (Int.ofNat a.readback + 4000 < a.applied) then
    let r := match cfgAoReaction s.nsp.inForce n with
      | 1 => some 144000
      | 2 => some 860000
      | _ => a.reaction
    let s := modAo n (fun a => { a with
      shortfall := true
      openLoop := decide (a.readback < 20000 ∧ 144000 ≤ a.applied)
      shortfalls := satU32 (a.shortfalls + 1)
      reaction := r }) s
    .next (refreshAo n (raiseAlarm .analogueOutputShortfall 0 s))
  else .next s

/-- SHORTFALL_CLEAR (R409): off the limit, and within 0.1 mA for 1 s. -/
def execShortfallClear (output : Fin 8) (s : State) : Host.Outcome State Fault Refusal :=
  let n := output.val + 1
  let a := analogOut n s
  if frontEndUp s && a.shortfall && decide ((Int.ofNat a.readback - a.applied).natAbs ≤ 4000) then
    let s := modAo n (fun a => { a with shortfall := false, openLoop := false }) s
    .next (if (rangeFrom 1 8).any fun k => (analogOut k s).shortfall then s
      else clearAlarm .analogueOutputShortfall 0 s)
  else .next s

/-- TEST_PULSE (R413): the source falls for 400 µs. -/
def execTestPulse (source : Fin 2) (s : State) : Host.Outcome State Fault Refusal :=
  .next (if frontEndUp s then
    (rangeFrom 1 8).foldl (fun s n => modSdi n (fun i => { i with fell := false }) s)
      { s with localIo.pulse := some source.val }
    else s)

/-- One sample of an input outside a pulse window: its level, and the filter towards it (R413). -/
def sampleLevel (level : Bool) (i : SafetyIn) : SafetyIn :=
  { i with level := level, filtering := i.fault == 0 && level != i.state }

/-- One sample inside a pulse window: it never changes STATE (R413). -/
def samplePulse (level : Bool) (i : SafetyIn) : SafetyIn := { i with fell := i.fell || !level }

/-- A fault of code 3 whose cause does not show (R415). -/
def pairCauseGone (p : Nat) (s : State) : Bool :=
  let a := safetyIn (2 * p + 1) s
  let b := safetyIn (2 * p + 2) s
  !a.level && (if pairMode p s = 2 then b.level else !b.level)

/-- Causes of code 3 after a sample of the levels (R415). -/
def checkPairCause (s : State) (n : Nat) : State :=
  modSdi n (fun i => if i.causeCode = 3 then { i with causeAbsent := pairCauseGone ((n - 1) / 2) s } else i) s

/-- The end of a pulse of source `k` for one input: an energised input is held against its source (R413, R418). -/
def checkPulse (k : Nat) (s : State) (n : Nat) : State :=
  let i := safetyIn n s
  if s.localIo.supplyLow then s
  else if i.level then
    let src := inputSource n s
    let own := src == k
    let missed := if own then (if i.fell then 0 else i.missed + 1) else i.missed
    let bit : BitVec 2 := 1#2 <<< k
    let seen := if i.fell then i.seen ||| bit else if own && missed < 2 then i.seen else i.seen &&& ~~~bit
    let other := src != 2 && !own
    let s := modSdi n (fun i => { i with
      missed := missed
      seen := seen
      cross := if other then i.fell else i.cross
      causeAbsent := i.causeAbsent || (i.causeCode == 1 && own && i.fell) || (i.causeCode == 2 && other && !i.fell) }) s
    if own && 2 ≤ missed then showCause n 1 s
    else if other && i.fell then showCause n 2 s
    else s
  else modSdi n (fun i => { i with
    missed := 0
    causeAbsent := i.causeAbsent || i.causeCode == 1 || i.causeCode == 2 }) s

/-- SDI_SAMPLE (R413): the levels, the pulse window the sample lies in, and whether that window ends with it. -/
def execSdiSample (levels : BitVec 8) (pulse : Option (Fin 2)) (pulseEnd : Bool) (s : State) :
    Host.Outcome State Fault Refusal :=
  if frontEndUp s then
    let inWindow := pulse.isSome
    let one (s : State) (n : Nat) : State :=
      let b := levels.getLsbD (n - 1)
      modSdi n (fun i => if inWindow then samplePulse b i else sampleLevel b i) s
    let s := (rangeFrom 1 8).foldl one s
    let s := if inWindow then s else (rangeFrom 1 8).foldl checkPairCause s
    match s.localIo.pulse, pulseEnd with
    | some k, true => .next { (rangeFrom 1 8).foldl (checkPulse k) s with localIo.pulse := none }
    | _, _ => .next s
  else .next s

/-- SDI_FILTER_EXPIRY (R413): STATE follows an input that has been stable for the filter time. -/
def execSdiFilterExpiry (input : Fin 8) (s : State) : Host.Outcome State Fault Refusal :=
  let n := input.val + 1
  let i := safetyIn n s
  .next (if frontEndUp s && i.filtering && i.fault == 0 then
    refreshPairs (modSdi n (fun i => { i with state := i.level, filtering := false }) s) else s)

/-- DISCREPANCY_TIME (R414): the pair has broken its mode for the discrepancy time; both inputs take code 3. -/
def execDiscrepancyTime (pair : Fin 4) (s : State) : Host.Outcome State Fault Refusal :=
  .next (if frontEndUp s && decide (pair.val ∈ s.localIo.discrepant) then
    refreshPairs (faultInput (2 * pair.val + 2) 3 (faultInput (2 * pair.val + 1) 3 s)) else s)

/-- SDI_FAULT_CAUSE_GONE (R415): the cause has been absent for 1 s. -/
def execSdiFaultCauseGone (input : Fin 8) (s : State) : Host.Outcome State Fault Refusal :=
  let n := input.val + 1
  let i := safetyIn n s
  .next (if frontEndUp s && i.causeAbsent && (i.fault == 1 || i.fault == 2 || i.fault == 3) then
    modSdi n (fun i => { i with fault := 4 }) s else s)

/-- SDO_SUPPLY_LOW (R416): below 18.0 V for 1 ms. The voltage that was measured is a free value below 18.0 V
(assumption log 2). -/
def execSdoSupplyLow (s : State) : Host.Outcome State Fault Refusal :=
  if frontEndUp s && !s.localIo.supplyLow then
    let d := drawNat s
    let s := raiseAlarm .safetyOutputSupplyLow 0 { d.2 with
      localIo.supplyLow := true
      localIo.supply := d.1 % 18000 }
    let low (s : State) (n : Nat) : State :=
      if (safetyOut n s).applied then refreshSdo n (modSdo n (fun o => { o with fault := 2 }) s) else s
    .next (refreshPairs ((rangeFrom 1 4).foldl low s))
  else .next s

/-- SDO_SUPPLY_GOOD (R416): at or above 19.0 V for 100 ms. -/
def execSdoSupplyGood (millivolts : Nat) (s : State) : Host.Outcome State Fault Refusal :=
  if frontEndUp s && decide (19000 ≤ millivolts) then
    let s := { s with
      localIo.supplyLow := false
      localIo.supply := millivolts }
    let good (s : State) (n : Nat) : State :=
      modSdo n (fun o => if o.fault = 2 then { o with fault := 3 } else o) s
    .next (refreshPairs (clearAlarm .safetyOutputSupplyLow 0 ((rangeFrom 1 4).foldl good s)))
  else .next s

/-- DARK_TEST (R416): a readback that stays energised through the pulse is FAULT 0x1401. -/
def execDarkTest (output : Fin 4) (staysEnergised : Bool) (s : State) : Host.Outcome State Fault Refusal :=
  let n := output.val + 1
  .next (if frontEndUp s && cfgDarkTest s.nsp.inForce n && (safetyOut n s).applied && staysEnergised then
    enterFault 0x1401 n s else s)

/-- OUTPUT_WORD_LATCH (R404): the words posted in the output phase reach the channel registers. -/
def execOutputWordLatch (s : State) : Host.Outcome State Fault Refusal :=
  .next (if frontEndUp s then
    { s.localIo.posted.foldl (fun s p => latchWord p.1 p.2 s) s with localIo.posted := [] } else s)

/-- SUPERVISOR_READBACK (R250): the outputs as measured; in modes that do not solve they are compared at once. -/
def execSupervisorReadback (sdo : BitVec 4) (ao : List Nat) (s : State) : Host.Outcome State Fault Refusal :=
  if frontEndUp s then
    let s := (rangeFrom 1 4).foldl (fun s n => modSdo n (fun o => { o with readback := sdo.getLsbD (n - 1) }) s) s
    let s := (rangeFrom 1 8).foldl (fun s n => modAo n (fun a => { a with readback := ao.getD (n - 1) 0 }) s) s
    .next (if solving s.modes.mode then s else compareReadback s)
  else .next s

/-- Nominal current of a point, unit 25 nA (R410). -/
def trimNominal (t : Nat) : Int := if trimSpan t then 800000 else 160000

/-- A correction is replaced; an output channel applies it at once (R410). -/
def setCorrection (channel : Nat) (span : Bool) (v : Int) (s : State) : State :=
  let s := if span then { s with localIo.span := mapPut 0 channel v s.localIo.span }
    else { s with localIo.zero := mapPut 0 channel v s.localIo.zero }
  if 8 < channel then refreshAo (channel - 8) s else s

/-- A target is armed with its event (R410, R411). -/
def armTrim (t : Nat) (s : State) : State :=
  let c := trimChannel t
  let s := { s with
    localIo.target := t
    localIo.armedFrom := (correction c false s, correction c true s)
    localIo.trimResult := 1 }
  logOther .trimArmed (trimArgs s) s

/-- A value written to 0x9030:01, 0 to 0x20 (R411): it disarms, or disarms and arms; in PROVISION, before any LOAD, it is refused for the
mode. -/
def writeTrimTarget (v : Nat) (s : State) : State :=
  if 0x20 < v then s
  else if s.modes.mode = .provision then { s with localIo.trimResult := 2 }
  else if v = 0 then { disarmTrim s with localIo.trimResult := 0 }
  else armTrim v (disarmTrim s)

/-- TRIM_TARGET (R411). -/
def execTrimTarget (value : BitVec 8) (s : State) : Host.Outcome State Fault Refusal :=
  .next (if nspUp s then writeTrimTarget value.toNat s else s)

/-- A value written to 0x9030:02 (R412): 1 captures the armed input point, 2 clears both corrections. -/
def trimActionWrite (v : Nat) (s : State) : State :=
  let t := s.localIo.target
  let c := trimChannel t
  let result (r : Nat) (s : State) : State := { s with localIo.trimResult := r }
  if v ≠ 1 ∧ v ≠ 2 then s
  else if t = 0 then result 4 s
  else if v = 2 then result 0 (setCorrection c true 0 (setCorrection c false 0 s))
  else if 8 < c then result 4 s
  else
    let k := trimNominal t - meanOf ((analogIn c s).samples.map Int.ofNat)
    if k < -8000 ∨ 8000 < k then result 3 s else result 0 (setCorrection c (trimSpan t) k s)

/-- TRIM_ACTION (R412). -/
def execTrimAction (value : BitVec 8) (s : State) : Host.Outcome State Fault Refusal :=
  .next (if nspUp s then trimActionWrite value.toNat s else s)

/-- A value written to 0x9030:03 or 0x9030:04 (R412). -/
def writeCorrection (span : Bool) (v : Int) (s : State) : State :=
  if v < -8000 ∨ 8000 < v then s
  else if s.localIo.target = 0 then { s with localIo.trimResult := 3 }
  else { setCorrection (trimChannel s.localIo.target) span v s with localIo.trimResult := 0 }

/-- TRIM_CORRECTION_WRITE (R412). -/
def execTrimCorrectionWrite (span : Bool) (value : Int) (s : State) : Host.Outcome State Fault Refusal :=
  .next (if nspUp s then writeCorrection span value s else s)

/-- The keys act on an output target only under program control with MODE 0 and C near the point (R411). -/
def trimKeyActs (t : Nat) (s : State) : Bool :=
  let c := trimChannel t
  if c ≤ 8 then true
  else
    let a := analogOut (c - 8) s
    s.localIo.underProgram && a.mode == 0 && decide ((Int.ofNat a.commanded - trimNominal t).natAbs ≤ 4000)

/-- One key step on the armed target; a correction stops at its limit (R411). -/
def trimStep (up : Bool) (s : State) : State :=
  let t := s.localIo.target
  if trimKeyActs t s then
    let c := trimChannel t
    let v := correction c (trimSpan t) s
    let w := if up then min 8000 (v + 1) else max (-8000) (v - 1)
    { setCorrection c (trimSpan t) w s with localIo.trimResult := 1 }
  else { s with localIo.trimResult := 3 }

/-- The key is ignored: pressed while the cover was closed, until released and the cover opened (R42). -/
def keyBlocked (plus : Bool) (s : State) : Bool := if plus then s.front.plusBlocked else s.front.minusBlocked

/-- A key held or released; pressed with the cover closed it is blocked (R42). -/
def holdKey (plus held blocked : Bool) (s : State) : State :=
  if plus then { s with
    front.plusHeld := held
    front.plusBlocked := blocked }
  else { s with
    front.minusHeld := held
    front.minusBlocked := blocked }

/-- TRIM_KEY_PRESS (R42, R411). -/
def execTrimKeyPress (plus : Bool) (s : State) : Host.Outcome State Fault Refusal :=
  if s.modes.mode = .off then .next s
  else
    let s := holdKey plus true (keyBlocked plus s || !s.front.coverOpen) s
    if keyBlocked plus s then .next s
    else if s.localIo.target = 0 then .next (logOther .trimKeyIgnored [plus.toNat] s)
    else .next (trimStep plus s)

/-- TRIM_KEY_REPEAT (R411): a held key repeats its step. -/
def execTrimKeyRepeat (plus : Bool) (s : State) : Host.Outcome State Fault Refusal :=
  let held := if plus then s.front.plusHeld else s.front.minusHeld
  .next (if s.modes.mode ≠ .off ∧ held ∧ keyBlocked plus s = false ∧ s.front.coverOpen ∧ s.localIo.target ≠ 0 then
    trimStep plus s else s)

/-- TRIM_KEY_RELEASE (R42). -/
def execTrimKeyRelease (plus : Bool) (s : State) : Host.Outcome State Fault Refusal :=
  .next (holdKey plus false (keyBlocked plus s && !s.front.coverOpen) s)

/-- TRIM_TARGET_TIMEOUT (R411). -/
def execTrimTargetTimeout (s : State) : Host.Outcome State Fault Refusal := .next (disarmTrim s)

/-- TRIM_COVER_CHANGE (R42, R411): recorded; closing disarms and blocks a key that is held, opening frees a key that has
been released. -/
def execTrimCoverChange (opened : Bool) (s : State) : Host.Outcome State Fault Refusal :=
  let f := s.front
  let s := { s with
    front.coverOpen := opened
    front.plusBlocked := if opened then f.plusBlocked && f.plusHeld else f.plusBlocked || f.plusHeld
    front.minusBlocked := if opened then f.minusBlocked && f.minusHeld else f.minusBlocked || f.minusHeld }
  if s.modes.mode = .off then .next s
  else
    let s := logOther .trimCover [opened.toNat] s
    .next (if opened then s else disarmTrim s)

end Sys2Proof.Machine
end

