-- ==== Sys2Proof/Machine/OutputPhase.lean ====
section
/-!
DEFINITION. The solve phase's start and the output phase: station frames and their launch, door messages, output
qualities, local outputs, the weft frame, rejoin tests; and the release of a cycle
(06_cycle_and_admission.md R151, R152; 15_stations_and_io_exchange.md R391–R395; 13_plant_network_and_time.md
R346–R349; 16_local_io.md R404, R417; 09_diagnostics_and_safe_state.md R239; 04_logic_solver.md R93, R99).
-/
namespace Sys2Proof.Machine

/-! ### Start of the solve phase -/

/-- Places of the plan in force that run partitions: joined tandems, solos of split tandems (R92, R96). -/
def placesInPlan (s : State) : List Nat :=
  (List.range 16).flatMap fun t => match planStateOf t s with
    | .joined => [t]
    | .split => [16 + 2 * t, 17 + 2 * t]
    | .idle => []

/-- Partitions that run at a place this cycle, in the order of R93; faulted ones do not run (R104). -/
def runOrder (p : Nat) (s : State) : List Nat :=
  ((sortBy (fun q => classCode q.cls * 256 + q.number) (partitionsAt p s)).filter fun q =>
    !s.solver.faulted.getLsbD q.number).map (·.number)

/-- Every place starts its first partition (R93). -/
def startPlaces (s : State) : State :=
  (placesInPlan s).foldl (fun s p => startNext p (modLane p (fun _ => { waiting := runOrder p s }) s)) s

/-! ### Station frames -/

/-- A field of bits of an image as a bit string (Table 15-2). -/
def imageBits (base first n : Nat) (s : State) : List Bool :=
  (List.range n).map fun j => (storeAt (base + (first + j) / 20) s).getLsbD ((first + j) % 20)

/-- Payload of an OUTPUT frame (Table 15-2). -/
def outputPayload (n : Nat) (s : State) : List Byte :=
  let e := s.nsp.inForce
  packBits (imageBits 0x01000 (cfgFirstDigitalOut e n) (cfgDigitalOuts e n) s) ++
    (List.range (cfgAnalogueOuts e n)).flatMap fun j =>
      leBytes 3 (storeAt (0x06000 + cfgFirstAnalogueOut e n + j) s).toNat

/-- Launch time of a group in this cycle; none for group 0 (R346). -/
def groupLaunch (g : Nat) (s : State) : Option Nat :=
  if g = 0 then none else some (s.cycle.startTime + 1000 * cfgLaunchOffset s.nsp.inForce g)

/-- An OUTPUT frame as its bytes before the CMAC (Table 15-1). -/
def outputFrameBytes (n : Nat) (seq : BitVec 16) (resync : Bool) (s : State) : List Byte :=
  let e := s.nsp.inForce
  let p := outputPayload n s
  let t := (groupLaunch (cfgStationGroupNo e n) s).getD s.cycle.startTime
  leBytes 1 3 ++ leBytes 1 resync.toNat ++ leBytes 2 n ++ leBytes 2 seq.toNat ++
    leBytes 2 (((station n s).session.map (·.toNat)).getD 0) ++ leBytes 4 s.pair.jersey.toNat ++
    leBytes 5 s.cycle.counter.toNat ++ leBytes 1 0 ++ leBytes 6 (t / 1000000000) ++ leBytes 4 (t % 1000000000) ++
    leBytes 2 (cfgHoldTime e n) ++ leBytes 2 (cfgNetworkBound e (cfgStationClass e n) / 10) ++ leBytes 2 p.length ++
    leBytes 2 0 ++ p

/-- The frame belongs to a cycle before `n`. -/
def olderFrame (n : BitVec 40) (f : TxFrame) : Bool := f.cycle != some n

/-- A frame of cycle N enters bank N mod 2 of one port: frames of older cycles in it are superseded, a late frame follows
its group's late action (R348, R349). -/
def enterBank (f : TxFrame) (g launch n : Nat) (s : State) : State :=
  let c := s.cycle.counter
  let p := port n s
  let odd := c.getLsbD 0
  let bank := if odd then p.bank1 else p.bank0
  let old := bank.filter (olderFrame c)
  let s := old.foldl (fun s x => match x.launch with
    | some (k, _) => modGroup k (fun q => { q with superseded := satU32 (q.superseded + 1) }) s
    | none => s) s
  let s := if old.isEmpty then s else raiseAlarm .launchSuperseded 0 s
  let late := decide (launch < timeBase s)
  let s := if late then
      raiseAlarm .lateLaunch 0 (modGroup g (fun q => { q with
        late := satU32 (q.late + 1)
        lateness := max q.lateness (timeBase s - launch) }) s)
    else s
  let keep := bank.filter fun x => !olderFrame c x
  let new := if late ∧ cfgLateAction s.nsp.inForce g = 0 then keep else keep ++ [f]
  let s := modPort n (fun p => if odd then { p with bank1 := new } else { p with bank0 := new }) s
  pumpPort none n s

/-- A station frame is queued: gated queues for group 0, else the launch queue of both ports of the ring (R346). -/
def queueStationFrame (f : TxFrame) (s : State) : State :=
  match f.launch with
  | none => queueFrame f s
  | some (g, t) => through 7 (fun s =>
      modRing f.ring (fun r => { r with hsrSeq := r.hsrSeq + 1 })
        ((portsOf f.ring).foldl (fun s n => enterBank f g t n s) s)) s

/-- Output work of one station (R391–R393); a class B or C station whose output buffer is lost with its DRAM channel or a codeword is
sent no frame (R261, Table 9-3). -/
def outputStation (n : Nat) (p : State × List OutCommand) : State × List OutCommand :=
  let s := p.1
  let e := s.nsp.inForce
  let st := station n s
  let now := st.state = .joining ∨ st.state = .inService
  if hasOutputs e n = false then p
  else if now ∧ (bufferLost n s || st.outLost) = true then
    (modStation n (fun x => { x with outLost := false }) { s with diag.framesLost := satU32 (s.diag.framesLost + 1) }, p.2)
  else if now then
    let seq := st.outSeq + 1
    let resync := st.state == .joining
    let g := cfgStationGroupNo e n
    let launch := groupLaunch g s
    let bytes := outputFrameBytes n seq resync s
    let f : TxFrame :=
      { ring := cfgStationRing e n == 1, dest := some st.mac, etherType := BitVec.ofNat 16 (cfgStationEtherType e)
        priority := some (cfgPriority e (cfgStationClass e n)), length := 36 + bytes.length
        payload := bytes ++ cmac (stationKey n s) bytes
        cycle := some s.cycle.counter, station := some n, launch := launch.map fun t => (g, t) }
    let s := modStation n (fun x => { x with
      outSeq := seq
      lastOut := some (launch.getD s.cycle.startTime)
      resyncCycle := if resync && x.resyncCycle.isNone then some s.cycle.counter else x.resyncCycle }) s
    (queueStationFrame f s,
      p.2 ++ [{ target := n, seq := seq, launch := launch.map fun t => t - s.cycle.startTime }])
  else if (st.atFreeze = .joining ∨ st.atFreeze = .inService) ∧ (st.state = .dropped ∨ st.state = .absent) then
    (stationReport 0x04 (ringKey n s) n 2
      (modStation n (fun x => { x with outputsDiscarded := satU32 (x.outputsDiscarded + 1) }) s), p.2)
  else p

/-! ### Qualities and local outputs -/

/-- Words that a faulted partition can write (R104). -/
def faultedWords (s : State) : List Nat :=
  match activeImage s with
  | none => []
  | some i =>
    if s.solver.faulted = 0 then []
    else staticWrites ((partInfos s.nsp.inForce i).filter fun p => s.solver.faulted.getLsbD p.part.number)

/-- Word that holds the value of an output point (Table 4-5). -/
def outputWordOf (p : Nat) : Nat := if p < 163840 then 0x01000 + (p - 81920) / 20 else 0x06000 + (p - 180224)

/-- Quality of an output point of a station (Table 15-6). -/
def outputPointQuality (n : Nat) (faulted : Bool) (s : State) : BitVec 2 :=
  let st := station n s
  let held := match st.lastOut with
    | some t => decide (timeBase s < t + 1000000 * cfgHoldTime s.nsp.inForce n)
    | none => false
  match st.state with
  | .absent | .mismatch => 0
  | .dropped => if held then 2 else 1
  | k =>
    if faulted then 2
    else if st.lastFrozenState = 3 then 0
    else if st.lastFrozenState = 2 then 1
    else if k = .joining ∨ st.lastFrozenState = 1 then 2
    else 3

/-- Output qualities are written: stations' points by Table 15-6, other points of faulted partitions HELD (R395). -/
def writeOutputQualities (s : State) : State :=
  let e := s.nsp.inForce
  let fw := faultedWords s
  let sts := configuredStations e
  let covered := sts.flatMap (outputPoints e)
  let bare := fw.flatMap fun a =>
    (if 0x01000 ≤ a ∧ a < 0x02000 then rangeFrom (81920 + 20 * (a - 0x01000)) 20
     else if 0x06000 ≤ a ∧ a < 0x0A000 then [180224 + (a - 0x06000)] else []).filter fun p => !decide (p ∈ covered)
  let s := sts.foldl (fun s n => (outputPoints e n).foldl (fun s p =>
    setQuality p (outputPointQuality n (decide (outputWordOf p ∈ fw)) s) s) s) s
  bare.foldl (fun s p => setQuality p 2 s) s

/-- Local outputs are posted with their final values and acknowledgement edges are taken (R404, R417). -/
def postLocal (s : State) : State :=
  let s := takeAcks (storeAt 0x0F051 s) s
  { s with localIo.posted := (rangeFrom 0x0F040 17).foldl (fun m a => mapPut 0 a (storeAt a s) m) [] }

/-! ### The output phase -/

/-- Tandems that a plan change rejoins: split now, joined in the new plan (R99). -/
def rejoining (new : Nat) (s : State) : List (Fin 16) :=
  match activeImage s with
  | some i => (List.finRange 16).filter fun t =>
      imagePlanState i s.solver.plan t.val == .split && imagePlanState i new t.val == .joined
  | none => []

/-- Figures of the program in the shadow bank (R158). -/
def shadowAdmitted (s : State) : Admitted := if s.solver.activeBank = 0 then s.cycle.admitted1 else s.cycle.admitted0

/-- A change of program waits for a boundary. -/
def changesProgram (t : Trigger) : Bool := t == .changeSwitch || t == .changeUndo

/-- Admitted cycle of the plan or program that may come into force at the boundary of this cycle; 0 with none (R169). -/
def nextAdmitted (s : State) : Nat :=
  max (match s.solver.planPending with | some (p, _) => ((admitted s).plans.getD p {}).admitted | none => 0)
    (if s.modes.triggers.any changesProgram then ((shadowAdmitted s).plans.getD s.solver.plan {}).admitted else 0)

/-- Requests accepted before the output phase become due at its boundary; rejoin tests start (R97, R99, R182, R190). The larger of
the two admitted cycles bounds a cycle that ends in a change (R169). -/
def ripen (s : State) : State :=
  let s := { s with
    cycle.bound := max s.cycle.bound (nextAdmitted s)
    change.ripe := s.modes.triggers.any fun t => changesProgram t || t == Trigger.changeConfirm }
  match s.solver.planPending with
  | some (p, _) =>
    { s with
      solver.planPending := some (p, true)
      solver.rejoinTests := rejoining p s
      solver.rejoinFailed := [] }
  | none => s

/-- Output frames and door messages of one class, stations before door objects (R152). -/
def outputClass (p : State × List OutCommand) (c : Nat) : State × List OutCommand :=
  let e := p.1.nsp.inForce
  let p := ((configuredStations e).filter fun n => cfgStationClass e n == c).foldl (fun p n => outputStation n p) p
  (channelsUsed e).foldl (fun p k =>
    ((transmitObjects e k).filter fun o => o.2.cls == c).foldl (fun p o => outputDoor k o.1 o.2 p) p) p

/-- The weft frame of the cycle goes to the lanes; rejoin tests, when there are any, are over, so that it names the plan that comes
into force (R101, R211; assumption log 132). -/
def weftPhase (s : State) : State :=
  let s := carryCommits s
  if sendsWeft s then sendWeft (buildWeft s.pair.queued s) s else s

/-- The outputs of the cycle are queued; its weft frame is still to be built. -/
def outputsQueued (out : List OutCommand) (s : State) : State :=
  { s with
    cycle.outputQueued := true
    solver.writtenLast := s.solver.written.length
    pair.queued := out
    pair.lastWeft := none }

/-- The work of the output phase (R151, R152, R211, R404). -/
def outputPhase (s : State) : State :=
  let p := (List.range 4).foldl outputClass (s, [])
  let s := outputsQueued p.2 (postLocal (writeOutputQualities p.1))
  pumpDoors (if s.solver.rejoinTests = [] then weftPhase s else s)

/-- Every place has ended its partitions (R151). -/
def placesDone (s : State) : Bool := s.solver.places.all fun p => p.2.running.isNone

/-- SOLVE_PHASE_END (R151, R152): the output phase runs. -/
def execSolvePhaseEnd (t : Nat) (s : State) : Host.Outcome State Fault Refusal :=
  if s.cycle.phase = .solve ∧ placesDone s then
    let s := atTime t s
    .next (outputPhase (ripen { s with
      cycle.phase := .output
      cycle.released := false }))
  else .next s

/-! ### Comparison by the backstop and release -/

/-- The cycle whose solve phase ended last (R239). -/
def solvedCycle (s : State) : BitVec 40 :=
  match s.cycle.phase with
  | .output | .idle => s.cycle.counter
  | _ => s.cycle.counter - 1

/-- SNAPSHOT_PAIR_COMPARE (R238): the oldest pair of a tandem's stream is compared; `upset` is what a fault of the backstop
makes of its result. Where backstop and tandem comparator disagree it is FAULT 0x1105. A pair of the solve phase that is found
unequal withholds the release of its cycle (R239); one of an idle tandem's test does so without a FAULT (R100; DEDUCED, assumption
log 149). -/
def execSnapshotPairCompare (tandem : Fin 16) (upset : Bool) (lag : Nat) (s : State) : Host.Outcome State Fault Refusal :=
  let t := tandem.val
  match mapVal [] t s.diag.streams with
  | [] => .next s
  | q :: r =>
    let equal := (q.lead == q.trail) != upset
    let verdict := (mapVal [] t s.diag.verdicts).headD true
    let s := { s with
      diag.streams := mapPut [] t r s.diag.streams
      diag.verdicts := mapMod [] t (·.drop 1) s.diag.verdicts
      diag.windows := s.diag.windows + 1
      diag.lagPeak := max s.diag.lagPeak lag }
    let s := if !equal && q.inSolve then { s with diag.disagreed := true } else s
    .next (if equal = verdict then s else enterFault 0x1105 t { s with diag.disagreed := true })

/-- SNAPSHOT_STREAM_LOST (R238): a joined tandem that is solving has delivered no pair for four windows. -/
def execSnapshotStreamLost (tandem : Fin 16) (s : State) : Host.Outcome State Fault Refusal :=
  .next (if s.cycle.phase = .solve ∧ planStateOf tandem.val s = .joined ∧ laneRuns tandem.val s then
    enterFault 0x1106 tandem.val { s with diag.disagreed := true } else s)

/-- CYCLE_RELEASE (R213, R239): every pair of the solved cycle has been compared; frames and messages may leave, and the
BOUNDARY follows when the weft frame is out. -/
def execCycleRelease (t : Nat) (s : State) : Host.Outcome State Fault Refusal :=
  if s.modes.solvedSinceStart && s.modes.mode != .fault && s.modes.mode != .off && !s.cycle.released && !s.diag.disagreed && s.cycle.phase != .solve && s.diag.streams.isEmpty then
    let s := atTime t s
    let s := { s with
      cycle.released := true
      cycle.releasedCycle := some (solvedCycle s) }
    let s := sendValue 18 s
    let s := if s.pair.boundaryDue then sendBoundary s.pair.boundaryAbandoned s else s
    .next (pumpDoors (pumpPorts s))
  else .next s

end Sys2Proof.Machine
end

