-- ==== Sys2Proof/Machine/Cycle.lean ====
section
/-!
DEFINITION. The cycle boundary: what takes effect there, triggers by rank, plan changes, the start of the next cycle; the
cycle watchdog (06_cycle_and_admission.md R151–R153, R169, R174, R175; 03_start_and_modes.md R67–R70;
04_logic_solver.md R97–R104; 08_redundant_pair.md R226–R232).
-/
namespace Sys2Proof.Machine

/-! ### End of a cycle -/

/-- The cycle's work is done, every rejoin test has ended and the weft frame is transmitted (R15, R99). -/
def cycleComplete (s : State) : Bool :=
  s.cycle.phase == .output && s.cycle.outputQueued && s.solver.rejoinTests.isEmpty && !s.pair.weftOpen

/-- Instant at which the bound of the present cycle has passed, ns of running time (R169, R175). -/
def cycleLimit (s : State) : Nat := s.cycle.startAt + cyclesNs s.cycle.bound

/-- Share of the retransmission reserve, 0.9 bit per ns and lane, that a cycle of `d` ns has used, unit 0.1 % (R206). -/
def reserveShare (d : Nat) (s : State) : Nat :=
  let lanes := s.seam.lane0.inService.toNat + s.seam.lane1.inService.toNat
  if lanes = 0 ∨ d = 0 then 0 else min 1000 (80000 * s.seam.resentBytes / (9 * lanes * d))

/-- Duration, longest cycle, statistics; what held for the first cycle only ends (R79, R119, R188, R464). -/
def closeCycle (s : State) : State :=
  let d := s.network.time.now - s.cycle.startAt
  let us := min 1048575 (d / 1000)
  let s := sample 1 0 0 ((cycleBoundUs s + 31) / 32) true true (Int.ofNat us) s
  { s with
    seam.reservePeak := max s.seam.reservePeak (reserveShare d s)
    seam.resentBytes := 0
    cycle.last := us
    cycle.longest := max s.cycle.longest d
    cycle.previousStart := some (Int.ofNat s.cycle.startTime)
    modes.firstFlags := 0
    modes.edgeFirst := false
    change.maskEdges := []
    change.maskCounters := [] }

/-- A cycle without a weft frame enters the history with RESULT 3 (R235). -/
def historyBoundary (s : State) : State := if s.pair.lastWeft.isNone then addHistory (historyWithout s) s else s

/-! ### Plan changes -/

/-- Lanes of some tandems. -/
def lanesOfTandems (l : List (Fin 16)) : List Nat := l.flatMap fun t => [2 * t.val, 2 * t.val + 1]

/-- Partitions of the plan in force that run on some solos. -/
def partitionsOnSolos (ls : List Nat) (s : State) : List Nat :=
  ls.flatMap fun n => (partitionsAt (16 + n) s).map (·.number)

/-- A failed rejoin test (R99): the tandem's lanes are failed, the partitions that the plan in force has on them are faulted, and the
alarm is raised. -/
def rejoinsFailed (failed : List (Fin 16)) (s : State) : State :=
  let ls := lanesOfTandems failed
  raiseAlarm .rejoinFailed 0 (faultPartitions (partitionsOnSolos ls s) (failLanes ls s))

/-- Lanes of the place that a partition has in a plan. -/
def placeLanes (p : Nat) : List Nat := if p < 16 then [2 * p, 2 * p + 1] else [p - 16]

/-- Partitions whose place in a plan uses no failed lane. -/
def healedPartitions (plan : Nat) (s : State) : List Nat :=
  match activeImage s with
  | some i => (i.partitions.filter fun p => !((placeLanes (placeIn plan p)).any (laneFailed s.solver.failedLanes))).map (·.number)
  | none => []

/-- A plan comes into force; partitions that it assigns to lanes not failed run again (R98, R99, R104). -/
def takePlan (p : Nat) (s : State) : State :=
  let faulted := (healedPartitions p s).foldl (fun (m : BitVec 256) n => m &&& ~~~(1#256 <<< n)) s.solver.faulted
  let s := { endPlan 0 s with
    solver.plan := p
    solver.faulted := faulted }
  if faulted = 0 then clearAlarm .partitionFaulted 0 s else s

/-- The pending plan request at this boundary: a failed rejoin test abandons it, a switch taken here has it refused (R97, R99). -/
def planBoundary (switching : Bool) (s : State) : State :=
  match s.solver.planPending with
  | none => s
  | some (p, ripe) =>
    let failed := s.solver.rejoinFailed
    let s := if failed = [] then s else rejoinsFailed failed s
    if switching then endPlan 2 s
    else if ripe = false then s
    else if failed = [] then takePlan p s
    else endPlan 4 s

/-! ### Triggers -/

/-- Command result of a mode command (R71). -/
def commandResult (n : Nat) (s : State) : State := { s with modes.commandResult := n }

/-- A change command that waited is refused for the mode, and the change is as it was before the command (R182, R190). -/
def refuseChange (k : ChangeState) (s : State) : State := setChange k { s with change.ripe := false, change.result := 2 }

/-- A waiting trigger meets a mode that does not accept it (R70, R182, R459). -/
def refuseTrigger (t : Trigger) (s : State) : State :=
  match t with
  | .handover .command | .start | .stop => commandResult 2 s
  | .handover .update => abortUpdate 6 s
  | .changeSwitch => refuseChange .ready s
  | .changeConfirm | .changeUndo => refuseChange .switched s
  | .handover .lever | .extractionStop | .partnerGone | .partnerStandby => s

/-- Every waiting trigger that `p` picks is refused. -/
def refuseTriggers (p : Trigger → Bool) (s : State) : State :=
  (s.modes.triggers.filter p).foldl (fun s t => refuseTrigger t s)
    { s with modes.triggers := s.modes.triggers.filter fun t => !p t }

/-- The solver stops at a boundary and the local outputs go back to KICKSTAND control (R55, R67). No boundary follows at which the
remaining triggers could be evaluated: they meet STOP at once (R70). -/
def stopAtBoundary (cause : Nat) (s : State) : State :=
  let s := releaseProgramControl (setMode .stop cause (stopSolver (dropPlan s)))
  refuseTriggers (fun _ => true) (sendBoth 1 (.heartbeat s.nsp.generation (imageId s)) s)

/-- HANDOVER is evaluated at a boundary: only ACTIVE with a synchronised standby, else refused with 3, or 2 for the mode
(R70, R226, R459). DESIGN CHOICE (assumption log 134): the update sequence's HANDOVER has the transition cause of a host command,
0x000B. -/
def takeHandover (c : HandoverCause) (s : State) : State :=
  let refuse (n : Nat) (s : State) : State :=
    match c with
    | .command => commandResult n s
    | .lever => leverAlone s
    | .update => s
  if s.modes.mode ≠ .active then
    if s.modes.mode = .solo then refuse 3 s else refuse 2 s
  else if standbySynchronised s then
    let s := dropPlan (if c = .command then commandResult 0 s else s)
    setMode .handover (if c = .lever then 0x000C else 0x000B)
      { s with pair.handover := some { cycle := s.cycle.counter + 1, nextJersey := s.pair.jersey + 1 } }
  else refuse 3 s

/-- A switch, confirmation or undo at its boundary (R182, R190); a switch in another mode is refused and the change READY
again. -/
def takeChange (t : Trigger) (s : State) : State :=
  let s := { s with change.ripe := false }
  match t with
  | .changeSwitch =>
    if s.modes.mode = .active ∨ s.modes.mode = .solo then doSwitch s
    else refuseChange .ready s
  | .changeConfirm =>
    let s := doConfirm s
    if s.modes.mode = .change then setMode (activeOrSolo s) 0x000A s else s
  | _ =>
    let s := doUndo s
    if s.modes.mode = .change then setMode (activeOrSolo s) 0x000A s else s

/-- A trigger is evaluated against the mode (R67, R70). -/
def takeTrigger (t : Trigger) (s : State) : State :=
  match t with
  | .partnerGone => if s.modes.mode = .active then readyIfSolo (setMode .solo 0x0006 s) else s
  | .partnerStandby =>
    if s.modes.mode = .solo ∧ s.pair.partner.mode = some 4 then setMode .active 0x0007 s else s
  | .stop =>
    if s.modes.mode = .active ∨ s.modes.mode = .solo then stopAtBoundary 0x000B (commandResult 0 s)
    else commandResult 2 s
  | .extractionStop => if s.modes.mode = .active ∨ s.modes.mode = .solo then stopAtBoundary 0x000C s else s
  | .handover c => takeHandover c s
  | .changeSwitch => takeChange t s
  | .changeConfirm => takeChange t s
  | .changeUndo => takeChange t s
  | .start => commandResult 2 s

/-- The highest trigger is taken; the others wait for the next boundary (R70). -/
def takeTriggers (s : State) : State :=
  match takenTrigger s with
  | some t => takeTrigger t { s with modes.triggers := s.modes.triggers.erase t }
  | none => s

/-- A takeover onto a switched checkpoint enters CHANGE at the boundary that ends its first cycle; behind a confirm boundary it stays
SOLO while the new base is being written (R196, Table 7-4). -/
def enterChangeAfterTakeover (s : State) : State :=
  if s.change.state = .switched ∧ s.change.confirmDue = false ∧ (s.modes.mode = .active ∨ s.modes.mode = .solo) then setMode .change 0x000A s else s

/-! ### Pair work at a boundary -/

/-- Suspension of weft frames takes effect; lanes that have run 100 ms carry weft blocks again (R174, R204). -/
def laneBoundary (s : State) : State :=
  let ready (l : SeamLane) : SeamLane := { l with weftReady := l.inService && !l.failed }
  let s := { s with
    seam.lane0 := ready s.seam.lane0
    seam.lane1 := ready s.seam.lane1 }
  if s.cycle.suspendDue then
    raiseAlarm .seamCapacity 0 { s with
      cycle.suspendDue := false
      cycle.weftSuspended := true }
  else s

/-- Service transfers of a resynchronisation (R181, R230 step 1). -/
def resyncTransfers (s : State) : List Service :=
  [configurationItem s.nsp.generation s.nsp.inForce s, .banks (activeImage s) (shadowImage s), .changeState (changeCode s.change.state),
   .plan (Fin.ofNat 4 s.solver.plan)] ++
    (match s.change.state, shadowImage s with
     | .loaded, some i => [.changeImage i]
     | _, _ => []) ++ [ruleItem s.protection.active, .resyncEnd]

/-- Conditions under which the active module begins a resynchronisation (R230). -/
def resyncPossible (s : State) : Bool :=
  s.seam.lane0.inService && s.seam.lane1.inService && !s.cycle.weftSuspended && s.modes.mode != .change &&
    s.pair.partner.mode == some 4 && !pairRefused s

/-- A resynchronisation asked for begins at this boundary; READY falls back to LOADED (R181, R230). Once its transfers have
gone, the frames from this boundary on carry RESYNC. -/
def resyncBoundary (s : State) : State :=
  if s.pair.resyncWanted && resyncPossible s then
    let s := if s.change.state = .ready then setChange .loaded s else s
    pumpSeam { s with
      pair.resyncWanted := false
      pair.resyncNext := none
      pair.resyncTransfer := true
      change.standby := if s.change.state = .loaded ∧ (shadowImage s).isSome then 1 else s.change.standby
      seam.serviceTx := resyncTransfers s }
  else if s.pair.resyncTransfer && s.seam.serviceTx.isEmpty then
    { s with
      pair.resyncTransfer := false
      pair.resyncNext := some 0 }
  else s

/-! ### The boundary -/

/-- The next cycle follows: counter raised, and its XCH phase starts unless the minimum cycle time has not passed (R151,
R153). -/
def nextCycle (s : State) : State :=
  let s := { s with cycle.counter := s.cycle.counter + 1 }
  if s.network.time.now < s.cycle.startAt + 1000 * cfgMinimumCycle s.nsp.inForce then { s with cycle.phase := .waiting }
  else beginCycle s.network.time.now s

/-- A change command that waited when HANDOVER was taken meets HANDOVER at the next boundary, which refuses it (R182). -/
def isChangeCommand (t : Trigger) : Bool := changesProgram t || t == .changeConfirm

/-- The boundary that ends a cycle (R15): the handover cycle has no successor on this module (R226 step 3). -/
def boundaryWork (s : State) : State :=
  let s := historyBoundary (mirrorBoundary (closeCycle s))
  let s := { s with solver.places := [] }
  if s.modes.mode = .handover then
    let s := commitRules (commitAtBoundary (refuseTriggers isChangeCommand s))
    { s with
      cycle.phase := .idle
      pair.handover := s.pair.handover.map fun h => { h with endedAt := some s.network.time.now } }
  else
    let s := planBoundary (takenTrigger s == some .changeSwitch) s
    let s := placeRekeyed (commitRules (commitAtBoundary (finishConfirm s)))
    let s := leverAfterWait (enterChangeAfterTakeover (takeTriggers s))
    if solving s.modes.mode then
      let s := resyncBoundary (laneBoundary s)
      nextCycle { s with cycle.bound := (planFigures s).admitted }
    else s

/-- A rejoin test of the output phase ends (R99, R238); its signatures go through the comparator and to the backstop as those of an idle
tandem's test do. The weft frame follows the last test. -/
def endRejoinTest (tandem : Fin 16) (pass : Bool) (s : State) : State :=
  if tandem ∈ s.solver.rejoinTests ∧ streamFull tandem.val s = false then
    let s := pushTest tandem.val (if pass then 0 else 1) s
    let s := { s with
      solver.rejoinTests := s.solver.rejoinTests.erase tandem
      solver.rejoinFailed := if pass then s.solver.rejoinFailed else s.solver.rejoinFailed ++ [tandem] }
    if s.solver.rejoinTests = [] ∧ s.cycle.outputQueued then weftPhase s else s
  else s

/-- CYCLE_BOUNDARY (R15, R99, R169): it waits for the rejoin tests, of which `testsEnded` are those that end at the same instant, with their
results. The instant lies within the bound of the cycle; past it only the cycle watchdog ends the cycle (R175). -/
def execCycleBoundary (t : Nat) (testsEnded : List (Fin 16 × Bool)) (s : State) : Host.Outcome State Fault Refusal :=
  let s := testsEnded.foldl (fun s p => endRejoinTest p.1 p.2 s) s
  let s' := atTime t s
  if cycleComplete s ∧ s'.network.time.now ≤ cycleLimit s then .next (boundaryWork s') else .next s

/-- MINIMUM_CYCLE_WAIT_END (R153): not before the minimum cycle time has passed since the start of cycle N. -/
def execMinimumCycleWaitEnd (t : Nat) (s : State) : Host.Outcome State Fault Refusal :=
  if s.cycle.phase = .waiting ∧ solving s.modes.mode ∧
      s.cycle.startAt + 1000 * cfgMinimumCycle s.nsp.inForce ≤ (atTime t s).network.time.now then .next (beginCycle t s)
  else .next s

/-- A weft frame is abandoned: the blocks still waiting go, its BOUNDARY carries ABANDONED once the cycle is released
(R175, R213, R239). -/
def abandonWeft (s : State) : State :=
  let s := raiseAlarm .weftAbandoned 0 { s with
    seam.weftTx := []
    pair.weftOpen := false
    cycle.abandoned := satU32 (s.cycle.abandoned + 1)
    cycle.abandonedCycle := s.cycle.counter }
  if cycleReleased s.cycle.counter s then sendBoundary true s
  else { s with
    pair.boundaryDue := true
    pair.boundaryAbandoned := true }

/-- CYCLE_WATCHDOG_EXPIRY (R175): the bound of the cycle has passed without a boundary; the boundary of an abandoned weft frame
occurs at that instant. -/
def execCycleWatchdogExpiry (s : State) : Host.Outcome State Fault Refusal :=
  match s.cycle.phase with
  | .idle | .waiting => .next s
  | .output =>
    let s := atTime (cycleLimit s) s
    if s.cycle.outputQueued ∧ s.solver.rejoinTests = [] then
      .next (boundaryWork (if s.pair.weftOpen then abandonWeft s else s))
    else .next (enterFault 0x1201 s.solver.plan s)
  | .xch | .solve => .next (enterFault 0x1201 s.solver.plan (atTime (cycleLimit s) s))

/-- REJOIN_TEST_DONE (R99, R238). -/
def execRejoinTestDone (tandem : Fin 16) (pass : Bool) (s : State) : Host.Outcome State Fault Refusal :=
  .next (endRejoinTest tandem pass s)

/-- Answer of a plan request (R97): 0 done, 1 pending, 2, 3 or 5 refused. DESIGN CHOICE (assumption log 135): of several refusals the
one for the mode or a pending transition comes first, then that of an absent plan, then that of a failed lane; the plan in force is
done at once only where none of them stands against it. -/
def planAnswer (p : Nat) (s : State) : Nat :=
  let pendingChange := s.modes.triggers.any fun t => t == Trigger.changeSwitch || t == Trigger.changeConfirm ||
    t == Trigger.changeUndo || triggerRank t == 6
  match activeImage s with
  | none => 2
  | some i =>
    if (s.modes.mode ≠ .active ∧ s.modes.mode ≠ .solo) ∨ pendingChange then 2
    else if i.plans.length ≤ p then 5
    else if (lanesOf i p).any (laneFailed s.solver.failedLanes) then 3
    else if p = s.solver.plan then 0
    else 1

/-- A plan request (R97). -/
def requestPlan (p : Nat) (s : State) : State :=
  let n := planAnswer p s
  { s with
    solver.planResult := n
    solver.planPending := if n = 1 then some (p, false) else s.solver.planPending }

/-- PLAN_REQUEST (R97). -/
def execPlanRequest (plan : BitVec 8) (s : State) : Host.Outcome State Fault Refusal := .next (requestPlan plan.toNat s)

end Sys2Proof.Machine
end

