-- ==== Sys2Proof/Machine/FirmwareOps.lean ====
section
/-!
DEFINITION. Firmware at a start: activation, fall-back, trial (18_firmware_update.md R448–R457); and the erasure of a
lifecycle change (11_protection_and_lifecycle.md R306, R309).
-/
namespace Sys2Proof.Machine

/-- Bolt slot 0 or 1. -/
def bolt (k : Fin 2) (s : State) : BoltSlot := if k = 0 then s.firmware.slot0 else s.firmware.slot1

/-- Bolt slot set. -/
def setBolt (k : Fin 2) (b : BoltSlot) (s : State) : State :=
  if k = 0 then { s with firmware.slot0 := b } else { s with firmware.slot1 := b }

/-- The slot with a role. -/
def slotWith (r : SlotRole) (s : State) : Option (Fin 2) :=
  if s.firmware.slot0.role = r then some 0 else if s.firmware.slot1.role = r then some 1 else none

/-- The other slot. -/
def otherBolt (k : Fin 2) : Fin 2 := if k = 0 then 1 else 0

/-- The image of a slot with a role. -/
def imageWith (r : SlotRole) (s : State) : Option FwHeader :=
  match slotWith r s with | some k => (bolt k s).image | none => none

/-- Trial ends without more: its marks are cleared (R453–R456). -/
def endTrial (s : State) : State :=
  clearAlarm .firmwareUnconfirmed 0 { s with
    firmware.trial := false
    firmware.trialStarts := 0
    firmware.faultInTrial := false
    firmware.revertPending := false }

/-- Result of an update command (0xB001:0C). -/
def updateResult (n : Nat) (s : State) : State := { s with firmware.result := n }

/-- A pair update that this module has joined is over for it (R459). -/
def leaveUpdate (cause : Nat) (s : State) : State :=
  if s.firmware.updateJoined then
    { s with
      firmware.updateJoined := false
      firmware.pairState := 8
      firmware.abortCause := cause }
  else s

/-- The copies of an activation (R453): `copyOk` is the verification of the staged image in the main area, `fallbackOk`
that of the copy back after a failure. -/
def activateFirmware (copyOk fallbackOk : Bool) (s : State) : State :=
  match slotWith .staged s with
  | none => { s with firmware.activating := false }
  | some k =>
    let main := s.firmware.main
    let s := setBolt (otherBolt k) { role := .fallback, image := some main } s
    if copyOk then
      let s := setBolt k { role := .installed, image := (bolt k s).image } s
      raiseAlarm .firmwareUnconfirmed 0 { s with
        firmware.main := ((bolt k s).image).getD main
        firmware.activating := false
        firmware.trial := true
        firmware.trialStarts := 1
        firmware.faultInTrial := false
        firmware.revertPending := false }
    else
      let s := setBolt k {} (setBolt (otherBolt k) { role := .installed, image := some main } s)
      let s := logOther .firmwareFallback [0x0020] { leaveUpdate 2 s with
        firmware.activating := false
        firmware.trial := false
        firmware.fallbackCause := 0x0020 }
      if fallbackOk then s else enterFault 0x020C 0 s

/-- Cause of a fall-back at this start, in the order of R455. -/
def fallbackCauseNow (s : State) : Option Nat :=
  if 4 ≤ s.firmware.trialStarts + 1 then some 0x0021
  else if s.firmware.faultInTrial then some 0x0022
  else if s.firmware.revertPending then some 0x0023
  else none

/-- The stored copies take the fall-back configuration record when there is one (R455 step 2, R457). -/
def restoreConfig (s : State) : State :=
  match s.firmware.fallbackConfig with
  | some (_, c) => { s with
      nsp.stored0 := c
      nsp.stored1 := c
      firmware.fallbackConfig := none }
  | none => s

/-- The fall-back (R455); a failed verification fails the stored-images check. DEDUCED, as after a failed copy of R453. -/
def fallBack (cause : Nat) (ok : Bool) (s : State) : State :=
  if ok then
    let old := imageWith .fallback s
    let s := match slotWith .installed s with | some k => setBolt k {} s | none => s
    let s := match slotWith .fallback s with
      | some k => setBolt k { role := .installed, image := old } s
      | none => s
    let s := endTrial (restoreConfig { leaveUpdate 2 s with
      firmware.main := old.getD s.firmware.main
      firmware.fallbackCause := cause })
    logOther .firmwareFallback [cause] s
  else enterFault 0x020C 0 s

/-- The slot that receives an image (R450 step 1): neither FALLBACK nor INSTALLED, an EMPTY one before a STAGED one; when
both hold one of those roles, the INSTALLED one. DEDUCED: the order among EMPTY and STAGED, by step 4. -/
def stagingTarget (s : State) : Fin 2 :=
  match slotWith .empty s, slotWith .staged s, slotWith .installed s with
  | some k, _, _ => k
  | none, some k, _ => k
  | none, none, some k => k
  | none, none, none => 0

/-- An image starts to arrive: its slot is erased (R450 step 1). -/
def beginStaging (total : Nat) (bySession : Option Nat) (s : State) : State :=
  let k := stagingTarget s
  setBolt k {} { s with
    firmware.target := k.val
    firmware.staging := 1
    firmware.received := []
    firmware.total := total
    firmware.bySession := bySession
    hub.transitLost := false }

/-- A staging ends with a result of Table 18-3 and its event: the slot is STAGED after result 0, and one STAGED before becomes
EMPTY; else the slot becomes EMPTY (R450 step 4). -/
def endStaging (result : Nat) (image : FwHeader) (s : State) : State :=
  let k : Fin 2 := if s.firmware.target = 0 then 0 else 1
  let s := if result = 0 then
      let s := match slotWith .staged s with | some j => setBolt j {} s | none => s
      setBolt k { role := .staged, image := some image } s
    else setBolt k {} s
  let s := logOther .staging [result, image.identity.toNat] { s with
    firmware.staging := 0
    firmware.stagingResult := result
    firmware.received := []
    firmware.total := 0
    firmware.bySession := none }
  completeReplies 0xB000 0x01 (if result = 0 then 0x00 else if result = 10 then 0x09 else 0x0D) s

/-- Slot Y of a pair update announces LEAVING and takes its firmware activation restart (R458). -/
def joinActivation (s : State) : State :=
  beginRestart .firmware (sendBoth 3 .none { s with
    firmware.activating := true
    firmware.updateJoined := true })

/-- Slot Y reports the result of a forwarded image; with result 0 it announces LEAVING and takes its activation restart (R458, R459). -/
def answerForwarded (result : Nat) (s : State) : State :=
  let s := pumpSeam { s with seam.serviceTx := s.seam.serviceTx ++ [.stagingResult (BitVec.ofNat 8 result)] }
  if result = 0 ∧ s.modes.mode = .standby then joinActivation s else s

/-- Slot X takes the staging result of slot Y: 0 leaves FORWARDING, a refusal aborts the sequence (R458, R459). -/
def partnerStaged (result : Nat) (s : State) : State :=
  if s.firmware.pairState = 1 then
    if result = 0 then { s with firmware.pairState := 2 }
    else { s with
      firmware.pairState := 8
      firmware.abortCause := 1 }
  else s

/-- A firmware transfer whose session has gone is abandoned (R436, R450). -/
def abandonStaging (session : Nat) (s : State) : State :=
  if s.firmware.staging = 1 ∧ s.firmware.bySession = some session then
    endStaging 11 { identity := BitVec.ofNat 32 (fieldLe 64 4 s.firmware.received) } s
  else s

/-- A module in trial is confirmed (R451, R456). -/
def confirmTrial (s : State) : State :=
  let s := match slotWith .fallback s with | some k => setBolt k {} s | none => s
  endTrial { s with
    firmware.minSecurity := max s.firmware.minSecurity s.firmware.main.security
    firmware.fallbackConfig := none }

/-- A module in trial may be confirmed: it has reached STANDBY, ACTIVE or SOLO in this start (R456). DEDUCED (assumption log 156): it need
not be in one of them still. -/
def mayConfirm (s : State) : Bool :=
  let m := s.modes.mode
  s.firmware.trial && (s.modes.startReached || m == .standby || m == .active || m == .solo)

/-- A confirmation reaches this module, from a host or from the active module; each module reports its own result (R456). -/
def confirmHere (s : State) : State := if mayConfirm s then updateResult 0 (confirmTrial s) else updateResult 4 s

/-- Firmware work of a start, before the stored-images check (R453–R455). -/
def firmwareStart (copyOk fallbackOk : Bool) (s : State) : State :=
  if s.firmware.trial then
    match fallbackCauseNow s with
    | some c => fallBack c fallbackOk s
    | none => raiseAlarm .firmwareUnconfirmed 0 { s with firmware.trialStarts := s.firmware.trialStarts + 1 }
  else if s.firmware.activating then activateFirmware copyOk fallbackOk s
  else s

/-- MRAM bytes of an address range read as 0 (R291, Table 11-3). -/
def eraseMram (lo hi : Nat) (s : State) : State :=
  { s with hub.mram := s.hub.mram.filter fun c => !decide (lo ≤ c.1 ∧ c.1 ≤ hi) }

/-- The key area is erased (R291, R302). -/
def eraseKeys (s : State) : State := eraseMram 0x340F00000 0x340FBFFFF { s with protection.keys := [] }

/-- Secret regions: the key area and every enabled central entry with SECRET set (R292, R302). -/
def eraseSecret (s : State) : State :=
  let es := (rangeFrom 192 64).filterMap fun k =>
    let r := (mapVal {} k s.protection.active : Region)
    if r.attr.getLsbD 31 && r.attr.getLsbD 29 then some (16 * r.base.toNat, 16 * r.limit.toNat + 15) else none
  let inside (c : Host.Cell) : Bool := es.any fun p => decide (p.1 ≤ c.1 ∧ c.1 ≤ p.2)
  let drop (l : List Host.Cell) : List Host.Cell := l.filter fun c => !inside c
  eraseKeys { s with
    hub.dram := drop s.hub.dram
    hub.sram := drop s.hub.sram
    hub.mram := drop s.hub.mram
    hub.flash := drop s.hub.flash }

/-- The party store is erased (Table 11-14). -/
def eraseParties (s : State) : State := eraseMram 0x340FC0000 0x340FFFFFF { s with protection.parties := [] }

/-- Everything that a change to DECOMMISSIONED erases besides (Table 11-14). -/
def eraseModule (s : State) : State :=
  let s := eraseMram 0x340800000 0x340DEFFFF (eraseMram 0x340E00000 0x340EFFFFF (eraseParties s))
  { s with
    protection.active := []
    protection.shadow := []
    nsp.settings := {}
    nsp.stored0 := {}
    nsp.stored1 := {}
    localIo.zero := []
    localIo.span := []
    solver.mirror := {}
    change.slot0 := none
    change.slot1 := none
    change.lastImage := none
    change.fallback := none
    firmware.slot0 := {}
    firmware.slot1 := {}
    firmware.fallbackConfig := none }

/-- Areas that a lifecycle change erases (Table 11-14). -/
def eraseFor (target : Lifecycle) (s : State) : State :=
  let s := eraseSecret s
  match target with
  | .decommissioned => eraseModule s
  | .provision => if s.protection.lifecycle = .inService then eraseParties s else s
  | .inService => s

/-- Both copies of the lifecycle record are written (R306, R309). -/
def writeLifecycle (state : Lifecycle) (mark : Option Lifecycle) (s : State) : State :=
  { s with
    protection.copy0 := { state := state, mark := mark }
    protection.copy1 := { state := state, mark := mark }
    protection.lifecycle := state
    protection.mark := mark }

/-- A start reads the lifecycle record from its first copy whose CRC passes (R306). -/
def readLifecycle (s : State) : State :=
  let c := if s.protection.copy0.intact then s.protection.copy0 else s.protection.copy1
  { s with
    protection.lifecycle := c.state
    protection.mark := c.mark }

/-- Steps 3 and 4 of a lifecycle change at a start that finds its mark (R309); `failed` names the area whose erasure fails
its verification. -/
def lifecycleStart (failed : Option (Fin 7)) (s : State) : State :=
  match s.protection.mark with
  | none => s
  | some target =>
    match failed with
    | some area => enterFault 0x1603 area.val s
    | none =>
      let s := writeLifecycle target none (eraseFor target s)
      logOther .lifecycleChange [] { s with protection.changes := s.protection.changes + 1 }

end Sys2Proof.Machine
end

