-- ==== Sys2Proof/Machine/IslandOps.lean ====
section
/-!
DEFINITION. Islands leaving and entering reset, and what their crossings do then (12_clock_islands.md R315–R321).
-/
namespace Sys2Proof.Machine

/-- The supervisor island runs: the module has power, and the window watchdog has not found it stopped (R494). -/
def supervisorUp (s : State) : Bool := s.modes.mode != .off && !s.diag.watchdogHeld

/-- Islands that a crossing joins (Table 12-4). -/
def crossingIslands (n : Nat) : List Nat :=
  ([[1, 2], [1, 8], [1, 8], [1, 8], [6, 1], [2, 3], [2, 4], [2, 5], [2, 6], [2, 7], [2, 8], [2, 9], [6, 4, 5], [8, 4, 7],
    [4, 5, 7, 2], [8, 9], [8, 1, 2, 3, 4, 5, 6, 7], [8, 4, 5, 7]] : List (List Nat)).getD (n - 1) []

/-- A crossing of kind stream (Table 12-4). -/
def isStream (n : Nat) : Bool := decide (n ∈ [1, 2, 4, 6, 7, 8, 9, 10, 11, 12])

/-- Every side of a crossing has left reset (R319). -/
def sidesUp (n : Nat) (s : State) : Bool := (crossingIslands n).all fun i => islandUp i s

/-- Numbers of the crossings. -/
def allCrossings : List Nat := rangeFrom 1 18

/-- The crossings of island 9 open last: when every island of 1 to 8 has left reset (R321). -/
def crossingMayOpen (n : Nat) (s : State) : Bool := !decide (n ∈ [12, 16]) || (rangeFrom 1 8).all fun i => islandUp i s

/-- Crossings whose sides are all out of reset start to open (R319–R321). -/
def startCrossings (s : State) : State :=
  allCrossings.foldl (fun s n =>
    if (crossing n s).state = 0 ∧ sidesUp n s ∧ crossingMayOpen n s then modCrossing n (fun c => { c with state := 1 }) s else s) s

/-- Every crossing that opens before this one is open: the others, for the crossings of island 9 (R321). -/
def othersOpen (n : Nat) (s : State) : Bool :=
  !decide (n ∈ [12, 16]) || allCrossings.all fun k => decide (k ∈ [12, 16]) || crossingOpen k s

/-- A crossing has opened (R320). -/
def openCrossing (n : Nat) (s : State) : State :=
  modCrossing n (fun c => { c with state := 2, openings := satU32 (c.openings + 1) }) s

/-- Items that a stream holds and a close discards (R319): the snapshot pairs and the posted values of the model's own
state; for another stream the manual leaves the number to the moment, a free value (assumption log 2). -/
def itemsHeld (n : Nat) (s : State) : Nat × State :=
  if n = 2 then ((s.diag.streams.map fun p => p.2.length).sum, { s with diag.streams := [] })
  else if n = 4 then
    ((s.solver.places.map fun p => p.2.posts.length).sum,
      { s with solver.places := mapAll {} (fun _ (l : Lane) => { l with posts := [] }) s.solver.places })
  else if isStream n then drawNat s
  else (0, s)

/-- A crossing closes (R319). -/
def closeCrossing (n : Nat) (s : State) : State :=
  if (crossing n s).state = 0 then s
  else
    let k := itemsHeld n s
    modCrossing n (fun c => { c with
      state := 0
      busyUntil := 0
      waits := false
      discarded := satU32 (c.discarded + k.1) }) k.2

/-- Crossings with a side in reset close (R319). -/
def closeCrossings (s : State) : State :=
  (allCrossings.filter fun n => !sidesUp n s).foldl (fun s n => closeCrossing n s) s

/-- A seam lane without block lock, its sequence state at zero (R201, R204, R205). -/
def emptyLane (l : SeamLane) : SeamLane :=
  { crcErrors := l.crcErrors, retransmissions := l.retransmissions }

/-- Source of the seam island clock (R315): lane 0, else lane 1, else the local reference; a change is counted. -/
def chooseSeamClock (s : State) : State :=
  let n := if s.seam.lane0.lock then 1 else if s.seam.lane1.lock then 2 else 0
  if (island 7 s).source = n then s
  else modIsland 7 (fun i => { i with
    source := n
    locked := n != 0
    changes := satU32 (i.changes + 1) }) s

/-- What an island loses in reset: its queues, its own memories, the state of its controllers (R324 step 3, R333). The
counters of the dictionary stay. -/
def wipeIsland (n : Nat) (s : State) : State :=
  match n with
  | 4 =>
    let port (p : Port) : Port :=
      { p with queues := [], bank0 := [], bank1 := [], line := none, guard := none, link := 0, pendingGates := none }
    let ring (r : Ring) : Ring := { r with seen := [], nodes := [], closed := false, unreturned := 0 }
    { s with
      network.ports := mapAll {} (fun _ p => port p) s.network.ports
      network.ringA := ring s.network.ringA
      network.ringB := ring s.network.ringB }
  | 5 =>
    let chan (c : Channel) : Channel :=
      { c with
        state := 0
        tecCount := 0
        recCount := 0
        alone := false
        ackErrors := 0
        queue := []
        twinQueue := []
        sending := none
        time := {}
        service := none
        objects := [] }
    { s with doors.channels := mapAll {} (fun _ c => chan c) s.doors.channels }
  | 7 =>
    chooseSeamClock { s with
      seam.lane0 := emptyLane s.seam.lane0
      seam.lane1 := emptyLane s.seam.lane1
      seam.weftTx := []
      seam.serviceTx := []
      seam.serviceOffset := 0
      seam.serviceBlocks := []
      seam.rxFrames := []
      seam.rxServices := []
      seam.rxResent := []
      seam.format := 0 }
  | _ => s

/-- An island enters reset with STATE `k`: 0 held, 3 stopped and held (Table 12-2). -/
def holdIsland (n k : Nat) (s : State) : State :=
  closeCrossings (wipeIsland n (modIsland n (fun i => { i with state := k }) s))

/-- An island leaves reset (R58, R319). The time base starts at 0 with island 6 (R337). -/
def releaseIsland (n : Nat) (s : State) : State :=
  let s := modIsland n (fun i => { i with state := 1, locked := n != 7 || i.source != 0 }) s
  let s := if n = 6 then { s with network.time.offset := - Int.ofNat s.network.time.now } else s
  startCrossings s

end Sys2Proof.Machine
end

