-- ==== Sys2Proof/Machine/StartOps.lean ====
section
/-!
DEFINITION. LOAD: configuration, program, start type, data store; and how solving begins from a search, a takeover or a
handover (03_start_and_modes.md R61–R63, R76–R79, R495; 04_logic_solver.md R119, R120; 08_redundant_pair.md R221–R223).
-/
namespace Sys2Proof.Machine

/-! ### Configuration and program -/

/-- The pair key is written (R205, 0x3001:02). -/
def pairKeySet (s : State) : Bool := mapVal [] (ekey 0x3001 2 0 0) s.protection.keys != []

/-- The stored configuration is valid: a copy passes its check, its format can be read, it names a pair and the pair key is
there (R62, R205, R457). -/
def configValid (s : State) : Bool :=
  match storedCopy s with
  | some c => decide (s.firmware.main.cfgLo ≤ c.format ∧ c.format ≤ s.firmware.main.cfgHi) &&
      cfgPairIdentity c.values != 0 && pairKeySet s
  | none => false

/-- A stored configuration in an older format is kept as the fall-back record and converted (R457). DEDUCED: the conversion
keeps every value (assumption log 22). -/
def convertConfig (c : StoredCopy) (s : State) : State :=
  if c.format < s.firmware.main.cfgOwn then
    let tag := match imageWith .fallback s with | some i => i.identity | none => 0
    let n : StoredCopy := { c with format := s.firmware.main.cfgOwn }
    { s with
      firmware.fallbackConfig := if s.firmware.fallbackConfig.isNone then some (tag, c) else s.firmware.fallbackConfig
      nsp.stored0 := n
      nsp.stored1 := n }
  else s

/-- LOAD step 1: the stored configuration comes into force and into the shadow (R61, R425). -/
def loadConfig (s : State) : State :=
  match storedCopy s with
  | some c =>
    let s := convertConfig c s
    { s with
      nsp.inForce := c.values
      nsp.shadow := c.values }
  | none => s

/-! ### Start type and data store -/

/-- The mirror that a start restores: the fallback of an unconfirmed change when the running mirror belongs to another
program (R194, R197). -/
def startMirror (id : BitVec 32) (s : State) : Mirror :=
  match s.change.fallback with
  | some f => if f.image = id then f else s.solver.mirror
  | none => s.solver.mirror

/-- Start type: cold reason by Table 3-9, 0 for warm (R78). -/
def coldReasonOf (id : BitVec 32) (s : State) : Nat :=
  let m := startMirror id s
  let other := match s.change.lastImage with | some i => i != id | none => false
  if s.modes.restart = .lifecycle then 1
  else if s.modes.restart = .coldCommand then 2
  else if other then 3
  else if m.valid = false ∨ m.image ≠ id then 4
  else if (s.modes.restart = .powerOn ∨ s.modes.restart = .powerFail) ∧ setPowerOnStartType s.nsp.settings = 1 then 5
  else 0

/-- Value that a constant gives its word: in a timer cell only PRESET and the type of CONTROL (Table 3-9a, R113). -/
def constantValue (a : Nat) (v : Word) : Word :=
  if 0x50000 ≤ a ∧ a ≤ 0x6FFFF then
    if a % 4 = 0 then v &&& 0x1E000 else if a % 4 = 1 then v else 0
  else v

/-- Constant words of a start: a warm one leaves counters and retained words to the mirror (Table 3-9a). -/
def startConstants (i : Image) (cold : Bool) : SMap Word :=
  i.constants.foldl (fun m p =>
    if inRebuilt p.1 && (cold || !inMirror p.1) then mapPut 0 p.1 (constantValue p.1 p.2) m else m) []

/-- The data store after a start (R76, Table 3-9a). -/
def startStore (i : Image) (cold : Bool) (m : Mirror) : SMap Word :=
  let st := startConstants i cold
  if cold then st else (mirrorState m).foldl (fun st p => mapPut 0 p.1 p.2 st) st

/-- The local input words from the KICKSTAND evaluation (R56, Table 3-9a). -/
def localStore (s : State) (st : SMap Word) : SMap Word :=
  (rangeFrom 0x0F000 0x35).foldl (fun st a => mapPut 0 a (localWord a s) st) st

/-- LOAD step 4: start type, data store, mirror (R76–R78, R117, R197). A cold start overwrites the mirror. -/
def initStore (i : Image) (s : State) : State :=
  let reason := coldReasonOf i.identity s
  let cold := reason != 0
  let m := startMirror i.identity s
  let st := startStore i cold m
  let s := if s.change.fallback.isSome || (flashSlot (otherSlot s) s).isSome then
      logOther .changeLostAtRestart [] s else s
  let s := if reason = 4 then logOther .retainedDataLost [] s else s
  let s := setFlash (otherSlot s) none s
  { s with
    modes.cold := cold
    modes.coldReason := reason
    modes.firstFlags := if cold then 2 else 1
    modes.edgeFirst := true
    solver.store := localStore s st
    solver.mirror := if cold then
        { image := i.identity, valid := true, base := mirrorWords st, baseAt := s.network.time.now } else m
    change.fallback := none
    change.lastImage := some i.identity }

/-- The regions of DMA engines 0 to 3 from the configuration (R294): LOAD sets them in both sets. -/
def setCycleRegions (s : State) : State :=
  let e := s.nsp.inForce
  let put (m : SMap Region) : SMap Region := (rangeFrom 0 64).foldl (fun m k =>
    let r := Config.cycleRegion e.nums e.blobs k
    mapPut {} k { base := r.1, limit := r.2.1, attr := r.2.2 } m) m
  { s with
    protection.active := put s.protection.active
    protection.shadow := put s.protection.shadow }

/-- LOAD step 5: gate lists, arbiter bases and output stages from the configuration in force (R61). -/
def configureIslands (s : State) : State :=
  let e := s.nsp.inForce
  let s := (rangeFrom 1 4).foldl (fun s p => modPort p (fun q => { q with gates := adminGates e p, pendingGates := none }) s) s
  loadBases e (refreshOutputs s)

/-- LOAD ends in STOP with a cause of R62; a STOP commanded in LOAD is done with it (R71). -/
def loadStop (cause : Nat) (s : State) : State :=
  setMode .stop cause { s with
    modes.cause := cause
    modes.stopAtEndOfLoad := false
    modes.commandResult := if s.modes.stopAtEndOfLoad then 0 else s.modes.commandResult }

/-- Steps 1 to 5 of LOAD (R61, R62). -/
def loadSteps (imageIntact : Bool) (s : State) : State :=
  if configValid s = false then loadStop 0x0304 s
  else
    let s := loadConfig s
    match flashSlot s.change.storedSlot s with
    | none => loadStop 0x0301 s
    | some i =>
      if imageIntact = false then loadStop 0x0302 s
      else
        let r := admissionOf s.nsp.inForce i 0 []
        let s := { s with cycle.report := r.1 }
        if r.1.refused then loadStop 0x0303 s
        else
          let s := setActive (some i) r.2 (setShadow none {} s)
          configureIslands (initStore i { setCycleRegions s with
            modes.loadStepsDone := true
            cycle.latest := r.2 })

/-! ### Conditions of the search -/

/-- Domains that are enabled (R63, 0x6021:03). -/
def enabledDomains (e : Entries) : List Nat := [1, 2].filter fun d => cfgDomainPorts e d != 0

/-- IPv4 address of a ring (0x1021). -/
def ringAddress (e : Entries) (r : Bool) : Nat := if r then cfgIpB e else cfgIpA e

/-- Ports that the configuration uses (R63). -/
def usedPorts (e : Entries) : List Nat :=
  (rangeFrom 1 4).filter fun p =>
    (configuredStations e).any (fun n => cfgStationRing e n == (ringOf p).toNat) || ringAddress e (ringOf p) != 0 ||
      (enabledDomains e).any fun d => (cfgDomainPorts e d).testBit (p - 1)

/-- A used port without link (R63). -/
def linklessPorts (s : State) : List Nat := (usedPorts s.nsp.inForce).filter fun p => (port p s).link == 0

/-- A domain's record, 1 A or 2 B. -/
def domainOf (d : Nat) (s : State) : Domain := if d = 2 then s.network.time.domainB else s.network.time.domainA

/-- Time base offset from a domain, ns (R340). -/
def offsetFrom (d : Nat) (s : State) : Int := (domainOf d s).offset - s.network.time.offset

/-- The time condition of R63. -/
def timeReady (s : State) : Bool :=
  let ds := enabledDomains s.nsp.inForce
  ds.isEmpty || ds.any fun d => (domainOf d s).good && decide ((offsetFrom d s).natAbs ≤ 1000000)

/-- The alarm of each used port still without link at the end of the wait (R63). -/
def linkAlarms (s : State) : State := (linklessPorts s).foldl (fun s p => raiseAlarm .portLinkDown p s) s

/-- The conditions of R63 are met. -/
def searchReady (s : State) : Bool :=
  s.supply.charged && (s.modes.linkWaited || (linklessPorts s).isEmpty && timeReady s)

/-! ### The first cycle of this module -/

/-- Start time of a checkpoint's cycle in this module's time base (R120, R209): converted when the cycle was the partner's. -/
def convertStart (c : Checkpoint) (s : State) : Int :=
  if c.own then Int.ofNat c.start
  else match s.pair.offset with
    | some o => Int.ofNat c.start - o
    | none => Int.ofNat c.boundaryAt - Int.ofNat (cyclesNs (planFigures s).admitted)

/-- Transmit objects queue their first message again (R367). -/
def freshDoors (s : State) : State :=
  let obj (o : DoorObject) : DoorObject := { o with firstDone := false, due := 0 }
  let chan (c : Channel) : Channel := { c with objects := mapAll {} (fun _ o => obj o) c.objects }
  { s with doors.channels := mapAll {} (fun _ c => chan c) s.doors.channels }

/-- The module starts to solve at `t` with cycle `counter`, flags of Table 3-10, and CYCLE_DELTA from `previous`; CYCLE_LAST
is 0 (R79, R119). -/
def startSolving (counter : BitVec 40) (flags : BitVec 6) (previous : Option Int) (t : Nat) (s : State) : State :=
  beginCycle t (freshDoors { s with
    cycle.counter := counter
    cycle.previousStart := previous
    cycle.last := 0
    cycle.released := true
    cycle.rebuild := false
    cycle.suspendDue := false
    cycle.bound := (planFigures s).admitted
    modes.firstFlags := flags
    pair.lastWeft := none
    pair.weftOpen := false
    pair.boundaryDue := false
    diag.streams := []
    diag.verdicts := []
    diag.disagreed := false
    solver.places := [] })

/-- The module knows a jersey: the highest is kept in MRAM (R223). -/
def knowJersey (j : BitVec 32) (s : State) : State :=
  { s with pair.highest := if s.pair.highest < j then j else s.pair.highest }

/-- A jersey is heard or reported since LOAD began (R222, R223). -/
def hearJersey (j : BitVec 32) (s : State) : State :=
  knowJersey j { s with pair.heard := if s.pair.heard < j then j else s.pair.heard }

/-- A jersey is taken, kept in MRAM before any frame carries it (R223). -/
def takeJersey (j : BitVec 32) (s : State) : State := knowJersey j { s with pair.jersey := j }

/-- Smallest jersey above the highest known whose bit 0 is the pair position (R221, R222). -/
def searchJersey (s : State) : BitVec 32 :=
  let h := max s.pair.highest.toNat s.pair.heard.toNat
  BitVec.ofNat 32 (if (h + 1) % 2 = pairPosition s then h + 1 else h + 2)

/-- No cycle of this start has been solved, and no checkpoint committed (R495). -/
def neverSolved (s : State) : Bool := !s.modes.solvedSinceStart && s.pair.checkpoint.isNone

/-- The first cycle after a search (R119, R495). -/
def solveFromSearch (t : Nat) (s : State) : State :=
  if neverSolved s then
    let n := if s.modes.cold then 1 else mirrorCycle s.solver.mirror + 1
    startSolving n s.modes.firstFlags none t s
  else
    let prev := match s.pair.checkpoint with
      | some c => if c.cycle = s.cycle.counter then some (convertStart c s) else s.cycle.previousStart
      | none => s.cycle.previousStart
    startSolving (s.cycle.counter + 1) 0x20 prev t { s with modes.edgeFirst := false }

/-- No standby work any more (R215). -/
def leaveStandby (s : State) : State :=
  { stopCommitting s with pair.standby := .none }

/-- SOLO at the end of a search (R65, R221): a commit before it is long complete; a loaded change is ready (R181). -/
def soloFromSearch (t : Nat) (s : State) : State :=
  readyIfSolo <| resumeCommit (solveFromSearch t (setMode .solo 0x0004 (takeJersey (searchJersey s)
    { leaveStandby s with pair.committing := none })))

/-- A module in STANDBY carries no failed mark and no faulted partition, for its lanes do not run (R102). DESIGN CHOICE (assumption log
136): R102 also says that a mark lasts until the next restart; here entering STANDBY without one clears it. -/
def clearMarks (s : State) : State := clearFaults { s with solver.failedLanes := 0 }

/-- STANDBY, unsynchronised (R65, R215): a commit before it is long complete. -/
def enterStandby (cause : Nat) (s : State) : State :=
  setMode .standby cause { stopCommitting (clearMarks s) with
    pair.standby := .unsynchronised
    pair.committing := none }

end Sys2Proof.Machine
end

