-- ==== Sys2Proof/Machine/Start.lean ====
section
/-!
DEFINITION. Meanings of the staged start: KICKSTAND, island release, SELFTEST, LOAD, partner search, and the reset of a
restart (03_start_and_modes.md R55–R66, R74, R321).
-/
namespace Sys2Proof.Machine

/-- KICKSTAND_IN_FORCE (R55–R58, R240): the self-check from mask ROM has ended. -/
def execKickstandInForce (selfCheckOk : Bool) (s : State) : Host.Outcome State Fault Refusal :=
  if s.modes.mode = .kickstand ∧ s.modes.restartPending = false then
    if selfCheckOk then
      .next (setMode .selftest 0x0002 { s with
        diag.latch := false
        modes.kickstandInForce := true })
    else .next (enterFault 0x0101 0 s)
  else .next s

/-- Order in which the islands leave reset (R58). -/
def releaseOrder : List Nat := [6, 2, 3, 1, 7, 4, 5]

/-- ISLAND_RELEASE (R58, R309, R453–R455): the next island leaves reset; after the last one the start does its firmware
copies and the erasure of a lifecycle change. -/
def execIslandRelease (copyOk fallbackOk : Bool) (eraseFailed : Option (Fin 7)) (s : State) :
    Host.Outcome State Fault Refusal :=
  if s.modes.mode = .selftest ∧ s.modes.released < 7 then
    let n := releaseOrder.getD s.modes.released 6
    let s := releaseIsland n { s with modes.released := s.modes.released + 1 }
    if s.modes.released = 7 then
      let s := firmwareStart copyOk fallbackOk s
      .next (if s.modes.mode = .selftest then lifecycleStart eraseFailed (readLifecycle s) else s)
    else .next s
  else .next s

/-- Cause of a failed check (Table 3-2). -/
def checkCause : SelfCheck → Nat
  | .clocks => 0x0201 | .crossings => 0x0202 | .memories => 0x0203 | .lanes => 0x0204 | .hub => 0x0205
  | .dram => 0x0206 | .seam => 0x0207 | .network => 0x0208 | .doors => 0x0209 | .localIo => 0x020A | .slot => 0x020B
  | .images => 0x020C

/-- Number of islands that must have left reset before a check starts (R58, R309, R453). -/
def checkNeeds : SelfCheck → Nat
  | .slot | .localIo => 0
  | .hub => 2
  | .dram => 3
  | .memories | .lanes => 4
  | .seam => 5
  | .network => 6
  | .doors | .clocks | .crossings | .images => 7

/-- Every check of Table 3-2. -/
def allChecks : List SelfCheck :=
  [.clocks, .crossings, .memories, .lanes, .hub, .dram, .seam, .network, .doors, .localIo, .slot, .images]

/-- SELFTEST has passed: the lifecycle state decides (R60). -/
def selftestPassed (s : State) : State :=
  match s.protection.lifecycle with
  | .provision => setMode .provision 0x0003 s
  | .inService => setMode .load 0x0003 s
  | .decommissioned => enterFault 0x0211 0 s

/-- SELFTEST_CHECK_DONE (R33, R47, R58–R60, R74): a check ends; `capacitance` is the bank capacitance measured by then, which is
held against the alarm level at once. -/
def execSelftestCheckDone (check : SelfCheck) (pass : Bool) (capacitance : Nat) (s : State) :
    Host.Outcome State Fault Refusal :=
  if s.modes.mode = .selftest ∧ checkNeeds check ≤ s.modes.released then
    let s := capacitanceAlarm { s with supply.capacitance := capacitance }
    if pass && (check != .slot || s.front.slotValid) then
      let s := { s with
        modes.checksPassed := if check ∈ s.modes.checksPassed then s.modes.checksPassed else s.modes.checksPassed ++ [check]
        hub.channels := if check = .dram then 3 else s.hub.channels }
      .next (if allChecks.all (fun c => decide (c ∈ s.modes.checksPassed)) then selftestPassed s else s)
    else .next (enterFault (checkCause check) 0 s)
  else .next s

/-- SELFTEST_TIMEOUT (R59). -/
def execSelftestTimeout (s : State) : Host.Outcome State Fault Refusal :=
  .next (if s.modes.mode = .selftest then enterFault 0x0210 0 s else s)

/-- LOAD_STEPS_DONE (R61, R62): steps 1 to 5 of LOAD have ended; the alarms of a link wait that has already passed follow. -/
def execLoadStepsDone (imageIntact : Bool) (t : Nat) (s : State) : Host.Outcome State Fault Refusal :=
  if s.modes.mode = .load ∧ s.modes.loadStepsDone = false then
    let s := loadSteps imageIntact (atTime t s)
    .next (if s.modes.mode = .load ∧ s.modes.linkWaited then linkAlarms s else s)
  else .next s

/-- LINK_WAIT_EXPIRY (R63). -/
def execLinkWaitExpiry (s : State) : Host.Outcome State Fault Refusal :=
  if (s.modes.mode = .load ∨ s.modes.mode = .selftest) ∧ s.modes.linkWaited = false then
    let s := { s with modes.linkWaited := true }
    .next (if s.modes.mode = .load ∧ s.modes.loadStepsDone then linkAlarms s else s)
  else .next s

/-- LOAD_TIMEOUT (R63). -/
def execLoadTimeout (s : State) : Host.Outcome State Fault Refusal :=
  .next (if s.modes.mode = .load then enterFault 0x0305 0 s else s)

/-- A search opens with its first window (R64, R65). -/
def openSearch (byStart : Bool) (s : State) : State := { s with modes.search := { running := true, byStart := byStart } }

/-- PARTNER_SEARCH_START (R47, R63, R64): the conditions of the search are met; a STOP commanded in LOAD takes its place
(Table 3-7). -/
def execPartnerSearchStart (t : Nat) (s : State) : Host.Outcome State Fault Refusal :=
  if s.modes.mode = .load ∧ s.modes.loadStepsDone ∧ s.modes.search.running = false ∧ searchReady s then
    let s := capacitanceAlarm (atTime t s)
    .next (if s.modes.stopAtEndOfLoad then
      commandResult 0 (setMode .stop 0x000B { s with modes.stopAtEndOfLoad := false })
      else openSearch false s)
  else .next s

/-! ### Search window -/

/-- Outcomes of a search window (Table 3-3). -/
inductive SearchOutcome where
  | standby | solo | stop | stopCause | again
  deriving DecidableEq, Repr

/-- Modes heard in the window that count: after a pair mismatch the network path alone (R65). -/
def modesHeard (s : State) : List Nat :=
  (s.modes.search.heard.filter fun h => !s.seam.pairMismatch || h.1 == .network).map (·.2)

/-- The module may operate after the search (Table 3-3). -/
def mayOperate (s : State) : Bool := s.modes.search.byStart || setStartBehaviour s.nsp.settings == 0

/-- Search result (0x2000:09) and outcome of a window: the first row of Table 3-3 that applies (R65). -/
def searchOutcome (s : State) : Nat × SearchOutcome :=
  let h := modesHeard s
  let first := pairPosition s == 0
  let operate := if mayOperate s then SearchOutcome.solo else .stop
  if h.any fun m => 5 ≤ m ∧ m ≤ 8 then (1, .standby)
  else if 4 ∈ h then (2, if 9 ≤ s.modes.search.standbyWindows then .stopCause else .again)
  else if 3 ∈ h then (if first then (3, operate) else (4, .again))
  else if 9 ∈ h then
    (5, if s.modes.search.byStart = false then .stop
      else if first ∨ 2 ≤ s.modes.search.stopWindows then .solo else .again)
  else (6, operate)

/-- Windows in which the rows STANDBY and STOP applied are counted; another row starts the count again (Table 3-3). -/
def countWindow (r : Nat) (s : State) : State :=
  { s with
    modes.search.standbyWindows := if r = 2 then s.modes.search.standbyWindows + 1 else 0
    modes.search.stopWindows := if r = 5 then s.modes.search.stopWindows + 1 else 0
    modes.search.heard := []
    modes.searchResult := r }

/-- The search has ended; a START command that began it is done (R71). -/
def closeSearch (s : State) : State :=
  let s := if s.modes.search.byStart then commandResult 0 s else s
  { s with modes.search := {} }

/-- A link that is down at the end of a search raises its alarm, whatever the outcome (Table 8-10). -/
def linkAfterSearch (s : State) : State := if seamUp s then s else raiseAlarm .seamLinkDown 0 s

/-- The outcome of a search (R62, R65). DESIGN CHOICE (assumption log 137): a START search that ends in STOP with cause 0x0306 is logged
as a transition from STOP to STOP. -/
def endSearch (o : SearchOutcome) (t : Nat) (s : State) : State :=
  match o with
  | .again => s
  | .standby => linkAfterSearch (enterStandby 0x0004 (closeSearch s))
  | .solo => linkAfterSearch (soloFromSearch t (closeSearch s))
  | .stop => linkAfterSearch (setMode .stop 0x0004 (closeSearch s))
  | .stopCause => linkAfterSearch (setMode .stop 0x0306 { closeSearch s with modes.cause := 0x0306 })

/-- SEARCH_WINDOW_END (R65, R66): a window whose outcome would operate repeats while the bank is not charged (R47). -/
def execSearchWindowEnd (t : Nat) (s : State) : Host.Outcome State Fault Refusal :=
  if s.modes.search.running ∧ (s.modes.mode = .load ∨ s.modes.mode = .stop) then
    let s := atTime t s
    let r := searchOutcome s
    let o := if s.supply.charged = false ∧ (r.2 = .standby ∨ r.2 = .solo) then SearchOutcome.again else r.2
    .next (endSearch o t (countWindow r.1 s))
  else .next s

/-! ### Restart -/

/-- RESTART_RESET (R75, R321): the islands are reset and wiped, and the start runs from mask ROM (R57). -/
def execRestartReset (selfCheckOk : Bool) (t : Nat) (s : State) : Host.Outcome State Fault Refusal :=
  if s.modes.restartPending ∧ s.modes.mode ≠ .off ∧ s.supply.powerFail = false then
    .next (enterKickstand selfCheckOk 0x000E (resetIslands (atTime t s)))
  else .next s

end Sys2Proof.Machine
end

