-- ==== Sys2Proof/Machine/Modes.lean ====
section
/-!
DEFINITION. Meanings of the mode commands and of the automatic restart (03_start_and_modes.md R67–R73, Table 3-7).
-/
namespace Sys2Proof.Machine

/-- A trigger waits once for a boundary (R70). -/
def addTrigger (t : Trigger) (s : State) : State :=
  if t ∈ s.modes.triggers then s else { s with modes.triggers := s.modes.triggers ++ [t] }

/-- Modes in which Table 3-7 accepts a restart; not during a power-fail sequence, which restarts by R46 only (Table 9-8). -/
def acceptsRestart (s : State) : Bool :=
  !s.supply.powerFail && match s.modes.mode with
    | .load | .standby | .stop | .fault | .provision => true
    | _ => false

/-- START (R71, R495, Table 3-7): refused in another mode, in a STOP that no admitted program stands behind (R62), and while
the debug unlock lasts (R308). -/
def commandStart (s : State) : State :=
  if s.modes.mode = .stop ∧ ¬(0x0301 ≤ s.modes.transCause ∧ s.modes.transCause ≤ 0x0304) ∧
      s.protection.unlocked = false ∧ s.modes.restartPending = false then
    if s.modes.search.running then s else commandResult 1 (openSearch true s)
  else commandResult 2 s

/-- START. -/
def execStart (s : State) : Host.Outcome State Fault Refusal := .next (commandStart s)

/-- A standby stops at once (R69, Table 3-5). -/
def standbyStop (cause : Nat) (s : State) : State := setMode .stop cause (leaveStandby s)

/-- STOP (R69, R71, R459, Table 3-7). DESIGN CHOICE (assumption log 138): in LOAD a partner search that already runs is abandoned, and
STOP is entered where the next one would start. -/
def commandStop (s : State) : State :=
  let s := abortUpdate 6 s
  match s.modes.mode with
  | .load => commandResult 1 { s with modes.stopAtEndOfLoad := true, modes.search := {} }
  | .standby => commandResult 0 (standbyStop 0x000B s)
  | .active | .solo | .handover => commandResult 1 (addTrigger .stop s)
  | .stop => commandResult 0 s
  | _ => commandResult 2 s

/-- STOP. -/
def execStop (s : State) : Host.Outcome State Fault Refusal := .next (commandStop s)

/-- HANDOVER command (R71, R226, Table 3-7): result 3 without a synchronised standby, 2 in another mode. -/
def commandHandover (s : State) : State :=
  match s.modes.mode with
  | .active => if standbySynchronised s then commandResult 1 (addTrigger (.handover .command) s) else commandResult 3 s
  | .solo => commandResult 3 s
  | _ => commandResult 2 s

/-- HANDOVER. -/
def execHandover (s : State) : Host.Outcome State Fault Refusal := .next (commandHandover s)

/-- A restart by command, in the modes of Table 3-7; the answer says whether it was accepted. -/
def commandRestart (kind : RestartKind) (s : State) : State :=
  if acceptsRestart s then
    if s.modes.restartPending then s else beginRestart kind (commandResult 1 s)
  else commandResult 2 s

/-- WARM_RESTART (R71, R74). -/
def execWarmRestart (s : State) : Host.Outcome State Fault Refusal := .next (commandRestart .warmCommand s)

/-- Operating seconds of the automatic restarts of the last 24 h (R73). -/
def recentRestarts (s : State) : List Nat := s.modes.autoRestarts.filter fun x => decide (s.quilt.seconds < x + 86400)

/-- AUTOMATIC_RESTART (R73): 10 s after the flush, within the limit. -/
def execAutomaticRestart (s : State) : Host.Outcome State Fault Refusal :=
  let n := recentRestarts s
  if s.modes.mode = .fault ∧ s.modes.autoRestartArmed ∧ s.modes.restartPending = false ∧
      n.length < setAutoRestartLimit s.nsp.settings then
    .next (beginRestart .automatic { s with modes.autoRestarts := s.quilt.seconds :: n })
  else .next s

end Sys2Proof.Machine
end

