-- ==== Sys2Proof/Machine/Change.lean ====
section
/-!
DEFINITION. Meanings of the commands of an online change (07_online_change.md R178–R182, R190–R193).
-/
namespace Sys2Proof.Machine

/-- Result of a change command (R182, 0x2040:07). -/
def changeResult (n : Nat) (s : State) : State := { s with change.result := n }

/-- An image that is loaded, or being refused, leaves the shadow bank and its flash slot (R178, R179). -/
def dropChange (s : State) : State :=
  let s := clearAlarm .standbyChangeRefused 0 (setShadow none {} (setFlash (otherSlot s) none s))
  { s with
    change.standby := 0
    change.loadingImage := none }

/-- A write of a change image is accepted (R178, R179). -/
def acceptsChange (s : State) : Bool :=
  (s.modes.mode == .active || s.modes.mode == .solo) &&
    match s.change.state with
    | .empty | .refused | .loaded | .ready => true
    | _ => false

/-- A change image has been received (R178): it goes to the flash slot and into the shadow bank, and the load starts; refused with result 2 in another mode or state (R179). -/
def loadChange (image : Image) (s : State) : State :=
  if acceptsChange s then
    let s := dropChange s
    let s := setFlash (otherSlot s) (some image) { s with
      change.loadingImage := some image
      hub.transitLost := false }
    setChange .loading (setShadow (some image) {} s)
  else changeResult 2 s

/-- CHANGE_IMAGE_WRITE (R178). -/
def execChangeImageWrite (image : Image) (s : State) : Host.Outcome State Fault Refusal := .next (loadChange image s)

/-- Admission of an image that is to replace the running one (R180, R199). -/
def admitChange (i : Image) (s : State) : Report × Admitted :=
  let e := s.nsp.inForce
  match activeImage s with
  | some old =>
    admissionOf e i 1 (changeFindings e old i (admitted s) (admittedOf e i (partInfos e i)) s.solver.plan s.solver.failedLanes)
  | none => admissionOf e i 1 []

/-- An admitted image stands in the shadow bank with its switch figures (R178, R186). -/
def holdChange (i : Image) (a : Admitted) (s : State) : State :=
  let e := s.nsp.inForce
  let s := setShadow (some i) a { s with cycle.latest := a }
  match activeImage s with
  | some old =>
    { s with
      change.switchTime := switchTime e old i
      change.undoTime := switchTime e i old
      change.carried := carriedTotal old i
      change.failedAtLoad := s.solver.failedLanes }
  | none => s

/-- The loaded image goes to a partner in STANDBY; in SOLO the change is ready (R181). -/
def offerChange (i : Image) (s : State) : State :=
  if s.pair.partner.mode = some 4 then
    pumpSeam { s with
      change.standby := 1
      seam.serviceTx := s.seam.serviceTx ++ [.changeImage i] }
  else readyIfSolo s

/-- CHANGE_LOAD_DONE (R178, R180): the load ends in LOADED or REFUSED, the latter also where the image was lost in DRAM (R261). -/
def execChangeLoadDone (s : State) : Host.Outcome State Fault Refusal :=
  match s.change.state, s.change.loadingImage with
  | .loading, some i =>
    let r := admitChange i s
    let s := { s with
      cycle.report := r.1
      change.loadingImage := none }
    if r.1.refused || imageLost s then .next (completeReplies 0x2040 0x01 0x08 (setChange .refused (dropChange s)))
    else .next (completeReplies 0x2040 0x01 0x00 (offerChange i (setChange .loaded (holdChange i r.2 s))))
  | _, _ => .next s

/-- The standby's result of a change image has come (R181). -/
def standbyChangeResult (image : BitVec 32) (admitted : Bool) (s : State) : State :=
  if s.change.state = .loaded ∧ image = shadowId s ∧ solving s.modes.mode then
    if admitted then setChange .ready (clearAlarm .standbyChangeRefused 0 { s with change.standby := 2 })
    else raiseAlarm .standbyChangeRefused 0 { s with change.standby := 3 }
  else s

/-- STANDBY_CHANGE_RESULT (R181). -/
def execStandbyChangeResult (image : BitVec 32) (admitted : Bool) (s : State) : Host.Outcome State Fault Refusal :=
  .next (standbyChangeResult image admitted s)

/-- Discard of a change (R179): accepted in LOADED or READY, refused with result 2 in any other state. -/
def commandDiscard (s : State) : State :=
  match s.change.state with
  | .loaded | .ready => setChange .empty (changeResult 0 (dropChange s))
  | _ => changeResult 2 s

/-- CHANGE_DISCARD (R179): a write of 1; 0 has no effect. -/
def execChangeDiscard (value : BitVec 8) (s : State) : Host.Outcome State Fault Refusal :=
  .next (if value = 1 then commandDiscard s else s)

/-- A lane used by the plan in force has been marked failed since the load (R182). -/
def laneLostSinceLoad (s : State) : Bool :=
  match shadowImage s with
  | some i => (lanesOf i s.solver.plan).any fun n => s.solver.failedLanes.getLsbD n && !s.change.failedAtLoad.getLsbD n
  | none => false

/-- The switch command (R182, R458): 3 while the standby is not ready. -/
def commandSwitch (s : State) : State :=
  if (s.modes.mode ≠ .active ∧ s.modes.mode ≠ .solo) ∨ updateRuns s then changeResult 2 s
  else match s.change.state with
    | .loaded => changeResult 3 s
    | .ready =>
      if laneLostSinceLoad s then changeResult 4 s
      else addTrigger .changeSwitch (setChange .switchPending (changeResult 1 { s with change.ripe := false }))
    | _ => changeResult 2 s

/-- The first of confirm and undo accepted in SWITCHED waits for its boundary (R190). -/
def commandEnd (k : ChangeState) (t : Trigger) (s : State) : State :=
  if s.change.state = .switched then addTrigger t (setChange k (changeResult 1 { s with change.ripe := false }))
  else changeResult 2 s

/-- CONFIRM_COMMAND (R190). -/
def execConfirmCommand (s : State) : Host.Outcome State Fault Refusal :=
  .next (commandEnd .confirmPending .changeConfirm s)

/-- UNDO_COMMAND (R190). -/
def execUndoCommand (s : State) : Host.Outcome State Fault Refusal := .next (commandEnd .undoPending .changeUndo s)

/-- CONFIRMATION_DEADLINE (R193): counts as an undo command accepted at expiry; a deadline of 0 in 0x2040:08 disables it. -/
def execConfirmationDeadline (s : State) : Host.Outcome State Fault Refusal :=
  .next (if s.change.state = .switched ∧ setConfirmationDeadline s.nsp.settings ≠ 0 then
    commandEnd .undoPending .changeUndo s else s)

end Sys2Proof.Machine
end

