-- ==== Sys2Proof/Machine/SessionOps.lean ====
section
/-!
DEFINITION. The end of an NSP session and what it takes with it (17_object_dictionary.md R433–R436;
10_hub_memory_and_ordering.md R282; 12_clock_islands.md R325).
-/
namespace Sys2Proof.Machine

/-- A session ends: its slot is free, its locks become abandoned, its transfers are gone (R282, R433, R436). -/
def endSession (n : Nat) (s : State) : State :=
  let s := if s.protection.ruleSession = some n then { s with protection.ruleSession := none } else s
  abandonStaging n (abandonLocks (0x80 + n) (modSession n (fun x => { key := x.key }) s))

/-- Every session of a party ends (R435). -/
def endParty (p : Nat) (s : State) : State :=
  ((List.range 16).filter fun n => (session n s).phase != .free && (session n s).party == p).foldl (fun s n => endSession n s) s

/-- Island that carries a session's frames: 4 network, 5 door bus; the front service connector has none that can be reset. -/
def carrierIsland : Carrier → Nat
  | .network _ _ _ _ => 4
  | .door _ => 5
  | .fs => 0

/-- Masters that an island in reset takes with it: the MAC ports of island 4 (R264, R282). -/
def islandMasters (island : Nat) : List Nat := if island = 4 then [0x60, 0x61] else []

/-- Every session ends (R283). -/
def endSessions (s : State) : State :=
  ((List.range 16).filter fun n => (session n s).phase != .free).foldl (fun s n => endSession n s) s

/-- Sessions carried by an island end when it enters reset, and the locks of its masters become abandoned (R282, R325). -/
def endCarried (island : Nat) (s : State) : State :=
  let ns := (rangeFrom 0 16).filter fun n => match (session n s).carrier with
    | some c => carrierIsland c == island
    | none => false
  (islandMasters island).foldl (fun s m => abandonLocks m s) (ns.foldl (fun s n => endSession n s) s)

end Sys2Proof.Machine
end

