-- ==== Sys2Proof/Machine/Diag.lean ====
section
/-!
DEFINITION. Meanings of the supervisor's monitors and of the scrubbers (09_diagnostics_and_safe_state.md R241–R248, R494;
12_clock_islands.md R312–R314, R322).
-/
namespace Sys2Proof.Machine

/-! ### Clocks -/

/-- Band of the count in a 10 µs interval (Table 12-1); island 8 has none. -/
def clockBand (island : Nat) : Nat × Nat :=
  ([(4800, 5200), (7680, 8320), (11520, 12480), (1500, 1625), (768, 832), (2400, 2600), (1500, 1625), (0, 0), (140, 180)] :
    List (Nat × Nat)).getD (island - 1) (0, 0)

/-- The count lies in the band. -/
def inBand (island count : Nat) : Bool := decide ((clockBand island).1 ≤ count ∧ count ≤ (clockBand island).2)

/-- Islands whose clock comes from a PLL of their own (Table 12-1). -/
def hasPll (n : Nat) : Bool := decide (n ∈ [1, 2, 3, 4, 6])

/-- One island's count; an island that counts in band after its release is running (Table 12-2). A PLL whose clock leaves its band has
lost its lock (Table 12-1; DEDUCED, assumption log 151), and the loss is counted (0xC000:08). -/
def noteCount (n count : Nat) (i : Island) : Island :=
  { i with
    count := count
    stopped := count == 0
    outOfBand := !inBand n count
    locked := if hasPll n then inBand n count else i.locked
    changes := if hasPll n && i.locked && !inBand n count then satU32 (i.changes + 1) else i.changes
    state := if i.state = 1 ∧ inBand n count then 2 else i.state }

/-- A count out of band is a clock fault: of an island that has left reset, and of one that is held after SELFTEST has released it. DEDUCED
(assumption log 150): before SELFTEST has released it the check of Table 3-2 judges its clock, and an island of STATE 3 has had its
clock fault. -/
def judged (n : Nat) (s : State) : Bool :=
  (island n s).state != 3 && (islandUp n s || (s.modes.mode != .kickstand && s.modes.mode != .selftest))

/-- The monitor has counted the clock of an island; a clock fault holds the island in reset until the next restart (R241, R312, R313,
R322). -/
def monitorIsland (p : State × List (Nat × Nat)) (c : Nat × Nat) : State × List (Nat × Nat) :=
  let s := modIsland c.1 (noteCount c.1 c.2) p.1
  if inBand c.1 c.2 || !judged c.1 p.1 then (s, p.2)
  else (endCarried c.1 (holdIsland c.1 3 s), p.2 ++ [(0x1011, c.1)])

/-- CLOCK_MONITOR_INTERVAL (R241): the counts of islands 1 to 7 and 9. -/
def execClockMonitorInterval (counts : List Nat) (s : State) : Host.Outcome State Fault Refusal :=
  if supervisorUp s then
    let p := ([1, 2, 3, 4, 5, 6, 7, 9].zip counts).foldl monitorIsland (s, [])
    .next (enterFaults p.2 p.1)
  else .next s

/-- One island's deviation against its alarm limit; a limit of 0 disables the alarm (R313). -/
def deviationOf (n : Nat) (ppm : Int) (s : State) : State :=
  let limit := setDeviationLimit s.nsp.settings n
  let s := modIsland n (fun i => { i with deviation := ppm }) s
  if limit ≠ 0 ∧ limit < ppm.natAbs then
    raiseAlarm .clockDeviation n (modIsland n (fun i => { i with withinLimit := 0 }) s)
  else if (.clockDeviation, n) ∈ s.alarms then
    let k := (island n s).withinLimit + 1
    if 10 ≤ k then clearAlarm .clockDeviation n (modIsland n (fun i => { i with withinLimit := 0 }) s)
    else modIsland n (fun i => { i with withinLimit := k }) s
  else s

/-- CLOCK_DEVIATION_CHECK (R312, R313): the deviations of islands 1 to 9 in ppm. -/
def execClockDeviationCheck (ppm : List Int) (s : State) : Host.Outcome State Fault Refusal :=
  if supervisorUp s then .next (((rangeFrom 1 9).zip ppm).foldl (fun s p => deviationOf p.1 p.2 s) s) else .next s

/-- REFERENCE_CHECK (R241, R314): edges of the 32.768 kHz reference in 10 ms, the island 9 RC count, and the deviation of the
supervisor oscillator in 0.01 %. -/
def execReferenceCheck (edges rcCount : Nat) (deviation : Int) (s : State) : Host.Outcome State Fault Refusal :=
  if supervisorUp s then
    let osc := if 200 < deviation.natAbs then [(0x1001, (BitVec.ofInt 32 deviation).toNat)] else []
    let ref := if edges = 0 ∧ inBand 9 rcCount then [(0x1701, 0)] else []
    .next (enterFaults (osc ++ ref) s)
  else .next s

/-- MASK_ROM_RECHECK (R241). -/
def execMaskRomRecheck (crcOk : Bool) (s : State) : Host.Outcome State Fault Refusal :=
  .next (if supervisorUp s ∧ crcOk = false then enterFault 0x1002 0 s else s)

/-! ### Rails and temperature -/

/-- Band of an internal rail in mV (Table 9-2). -/
def railBand (rail : Nat) : Nat × Nat :=
  ([(760, 850), (1140, 1260), (1710, 1890), (3140, 3470), (4750, 5250), (3100, 3500)] : List (Nat × Nat)).getD (rail - 1) (0, 0)

/-- One rail sampled: the second consecutive sample outside its band is a rail fault (R242). -/
def sampleRail (p : State × List (Nat × Nat)) (c : Nat × Nat) : State × List (Nat × Nat) :=
  let s := p.1
  let r := mapVal {} c.1 s.diag.rails
  let out := decide (0 < r.low) || decide (0 < r.high)
  let below := decide (c.2 < (railBand c.1).1)
  let above := decide ((railBand c.1).2 < c.2)
  let r : Rail := { millivolts := c.2, low := if below then r.low + 1 else 0, high := if above then r.high + 1 else 0 }
  let s := { s with diag.rails := mapPut {} c.1 r s.diag.rails }
  (s, if out && below then p.2 ++ [(0x1021, c.1)] else if out && above then p.2 ++ [(0x1022, c.1)] else p.2)

/-- RAIL_SAMPLE (R242): rails 1 to 6 in mV. -/
def execRailSample (millivolts : List Nat) (s : State) : Host.Outcome State Fault Refusal :=
  if supervisorUp s then
    let p := ((rangeFrom 1 6).zip millivolts).foldl sampleRail (s, [])
    .next (enterFaults p.2 p.1)
  else .next s

/-- One junction sensor read (R243): alarm at 110 °C, a fault at the second consecutive reading of 125 °C. -/
def readJunction (p : State × List (Nat × Nat)) (c : Nat × Int) : State × List (Nat × Nat) :=
  let s := p.1
  let hot := if 125 ≤ c.2 then mapVal 0 c.1 s.diag.hot + 1 else 0
  let s := { s with
    diag.junctions := mapPut 0 c.1 c.2 s.diag.junctions
    diag.hot := mapPut 0 c.1 hot s.diag.hot
    diag.peak := match s.diag.peak with | some m => some (max m c.2) | none => some c.2 }
  let s := if 110 ≤ c.2 then raiseAlarm .temperatureHigh c.1 s else s
  (s, if 2 ≤ hot then p.2 ++ [(0x1031, c.1)] else p.2)

/-- JUNCTION_READ (R243): islands 1 to 4 in °C. -/
def execJunctionRead (celsius : List Int) (s : State) : Host.Outcome State Fault Refusal :=
  if supervisorUp s then
    let p := ((rangeFrom 1 4).zip celsius).foldl readJunction (s, [])
    .next (enterFaults p.2 p.1)
  else .next s

/-! ### Window watchdog -/

/-- WINDOW_WATCHDOG_EXPIRY (R240, R494): the latch is set, islands 1, 4, 5 and 7 are held in reset, and island 2 records FAULT
0x1003; no declaration is sent. -/
def execWindowWatchdogExpiry (s : State) : Host.Outcome State Fault Refusal :=
  if supervisorUp s then
    let s := { s with
      diag.latch := true
      diag.watchdogHeld := true }
    let s := ([1, 4, 5, 7] : List Nat).foldl (fun s n => endCarried n (holdIsland n 0 s)) s
    .next { enterFault 0x1003 0 s with pair.faultRepeats := 0 }
  else .next s

/-! ### Scrubbing -/

/-- Lines or codewords of a store (Table 9-4). -/
def scrubLines (k : Nat) : Nat := ([131072, 524288, 131072] : List Nat).getD k 268435456

/-- Lines or codewords of one scrub step (Table 9-4). -/
def scrubWidth (k : Nat) : Nat := if k ≤ 2 then 1 else 2

/-- Bound of a full pass, ns (Table 9-4). -/
def scrubBound (k : Nat) : Nat := if k ≤ 2 then 20000000 else 8000000000

/-- The store can be scrubbed: its island runs, and its DRAM channel is in service (R261). -/
def scrubs (k : Nat) (s : State) : Bool :=
  match k with
  | 0 => islandUp 1 s
  | 1 => islandUp 1 s
  | 2 => islandUp 2 s
  | _ => islandUp 3 s && channelIn (k - 3) s

/-- A line corrected by a scrub: the third consecutive pass is persistent (R247). -/
def scrubCorrected (k line : Nat) (s : State) : State :=
  let n := mapVal 0 line (scrubber k s).corrected + 1
  let s := countCorrection k (modScrubber k (fun x => { x with
    corrected := mapPut 0 line n x.corrected
    thisPass := insertNat line x.thisPass }) s)
  if 3 ≤ n then
    raiseAlarm .persistentCorrection 0 { s with
      diag.persistentStore := min (k + 1) 4
      diag.persistentLine := line }
  else s

/-- A scrub pass has ended (R247, R248). -/
def endPass (k : Nat) (s : State) : State :=
  let d := s.network.time.now - (scrubber k s).passStart
  let s := modScrubber k (fun x => { x with
    next := 0
    passStart := s.network.time.now
    passTime := d
    corrected := x.corrected.filter fun p => decide (p.1 ∈ x.thisPass)
    thisPass := [] }) s
  if scrubBound k < d then raiseAlarm .scrubBehind 0 { s with diag.overruns := satU32 (s.diag.overruns + 1) } else s

/-- One line or codeword of a scrub step: read, corrected, rewritten (R245–R248). -/
def scrubLine (k line : Nat) (s : State) : State :=
  let n := upsetOf k line s
  if n = 0 then s else if n ≤ 2 then scrubCorrected k line (setUpset k line 0 s) else lineLost k line s

/-- SCRUB_STEP (R245–R248): a queued rewrite goes before the scrub sequence; else the next line, of DRAM the next two codewords, is
read, corrected, rewritten. The operand tells what has come to be in error in them. -/
def execScrubStep (store : Fin 5) (symbolsInError : List Nat) (s : State) : Host.Outcome State Fault Refusal :=
  let k := store.val
  let x := scrubber k s
  if scrubs k s = false then .next s
  else match x.rewrites with
    | n :: r => .next (rewriteLine k n (modScrubber k (fun x => { x with rewrites := r }) s))
    | [] =>
      let s := if x.started then s else modScrubber k (fun y => { y with
        started := true
        passStart := s.network.time.now }) s
      let s := scrubLine k x.next (meetUpset k x.next (symbolsInError.getD 0 0) s)
      let s := if scrubWidth k = 2 then scrubLine k (x.next + 1) (meetUpset k (x.next + 1) (symbolsInError.getD 1 0) s) else s
      let s := modScrubber k (fun y => { y with next := x.next + scrubWidth k }) s
      .next (if scrubLines k ≤ x.next + scrubWidth k then endPass k s else s)

end Sys2Proof.Machine
end

