-- ==== Sys2Proof/Machine/HubAccess.lean ====
section
/-!
DEFINITION. One access of a hub master: protection, decoding, the memories and the registers behind the map
(10_hub_memory_and_ordering.md R259–R265, R281, R283; 11_protection_and_lifecycle.md R286–R298, R307).
-/
namespace Sys2Proof.Machine

/-! ### The address map -/

/-- Targets of the hub address map (Table 10-1). -/
inductive HubTarget where
  | dram | sram | dataStore | program (bank : Fin 2) | mram | flash | hubRegister | islandRegister | reserved
  deriving DecidableEq, Repr

/-- First and last byte of each target (Table 10-1). -/
def hubMap : List (HubTarget × Nat × Nat) :=
  [(.dram, 0x000000000, 0x27FFFFFFF), (.sram, 0x300000000, 0x30027FFFF), (.dataStore, 0x310000000, 0x3103FFFFF),
   (.program 0, 0x320000000, 0x3207FFFFF), (.program 1, 0x320800000, 0x320FFFFFF), (.mram, 0x340000000, 0x340FFFFFF),
   (.flash, 0x400000000, 0x41FFFFFFF), (.hubRegister, 0xF00000000, 0xF000FFFFF), (.islandRegister, 0xF00100000, 0xF008FFFFF)]

/-- Target of a hub byte address. -/
def targetOf (a : Nat) : HubTarget :=
  match hubMap.find? fun r => decide (r.2.1 ≤ a ∧ a ≤ r.2.2) with
  | some r => r.1
  | none => .reserved

/-- Last byte of the quilt area (Table 11-3). -/
def quiltEnd : Nat := 0x3407FFFFF

/-- The range accepts the access (Table 10-1): not a reserved one, not of another size or alignment (R259). -/
def accepted (write : Bool) (a size : Nat) : Bool :=
  let t := targetOf a
  decide (0 < size) && targetOf (a + size - 1) == t &&
    match t with
    | .dram | .sram => true
    | .dataStore | .hubRegister | .islandRegister => size == 4 && a % 4 == 0
    | .program _ => size == 8 && a % 8 == 0
    | .mram => !(write && decide (a ≤ quiltEnd))
    | .flash => !write
    | .reserved => false

/-- The access overlaps a range of bytes. -/
def overlaps (a size lo hi : Nat) : Bool := decide (a ≤ hi ∧ lo < a + size)

/-- Crossing between island 2 and another island, its islands 1, 3 to 9 (Table 12-4). -/
def hubCrossing (island : Nat) : Nat := if island ≤ 2 then 1 else island + 3

/-- An access to an island whose crossing is not open completes at once and is counted (R319). -/
def windowClosed (n : Nat) (s : State) : Bool := n != 2 && (crossing (hubCrossing n) s).state != 2

/-! ### Protection -/

/-- Region that a checker has while none is committed (R294, Table 11-7), by the keys of the rule sets; those of engines 0 to 3 come
with LOAD. -/
def regionReset (k : Nat) : Region :=
  if k < 64 then {}
  else if k = 192 then { base := 0, limit := 0xFFFFFFFF, attr := 0x84000003 }
  else if 192 < k then {}
  else match k % 16 with
    | 0 => { base := 0, limit := 0x27FFFFFF, attr := 0x80000003 }
    | 1 => { base := 0x30000000, limit := 0x30027FFF, attr := 0x80000003 }
    | 2 => { base := 0x40000000, limit := 0x41FFFFFF, attr := 0x80000001 }
    | _ => {}

/-- Region `k` of a rule set. -/
def regionOf (k : Nat) (m : SMap Region) : Region := mapVal (regionReset k) k m

/-- First byte of a region. -/
def regionLo (r : Region) : Nat := 16 * r.base.toNat

/-- Last byte of a region. -/
def regionHi (r : Region) : Nat := 16 * r.limit.toNat + 15

/-- The region takes part in checks (Table 11-6). -/
def regionEnabled (r : Region) : Bool := r.attr.getLsbD 31

/-- The region contains the whole access. -/
def regionHolds (r : Region) (a size : Nat) : Bool := decide (regionLo r ≤ a ∧ a + size ≤ regionHi r + 1)

/-- Level of a master (Table 11-1, R286): a DMA engine's is its chain's. -/
def isPriv (m : Nat) (s : State) : Bool :=
  if 0x44 ≤ m ∧ m ≤ 0x4B then (mapVal {} (m - 0x40) s.hub.dma : Dma).priv else m != 0x58

/-- Region keys of the checker of a master with their numbers, ascending; none for a fixed path (Table 11-1, R290). -/
def checkerOf (m : Nat) (s : State) : Option (List (Nat × Region)) :=
  let central (bit : Nat) : Option (List (Nat × Region)) :=
    some (((rangeFrom 0 64).map fun i => (i, regionOf (192 + i) s.protection.active)).filter fun p => p.2.attr.getLsbD bit)
  if 0x40 ≤ m ∧ m ≤ 0x4B then
    some ((rangeFrom 0 16).map fun r => (r, regionOf (16 * (m - 0x40) + r) s.protection.active))
  else if m = 0x50 then central 24
  else if m = 0x51 then central 25
  else if m = 0x58 then central 26
  else none

/-- The default map permits a PRIV access (Table 11-2); a reserved range goes on to its decode error. -/
def defaultPermits (m : Nat) (write : Bool) (a : Nat) : Bool :=
  match targetOf a with
  | .program _ => !write || m == 0x51
  | .mram => !(write && decide (a ≤ quiltEnd))
  | .flash => !write
  | _ => true

/-- The access overlaps the protected area (Table 11-3). -/
def inProtected (a size : Nat) : Bool := overlaps a size 0x340F00000 0x340FFFFFF

/-- The update engine may write a bank (R121, Table 11-2): the shadow bank in LOAD or while an online change is being loaded, both
banks on a module in STANDBY during step 1 of a resynchronisation. -/
def updateMayWrite (b : Fin 2) (s : State) : Bool :=
  (b != s.solver.activeBank && (s.modes.mode == .load || s.change.state == .loading)) ||
    (s.modes.mode == .standby && s.pair.standby == .resynchronising && !s.pair.resyncAccepted)

/-- A program store write that R121 and R262 refuse whatever the rules say. The debug port writes where Table 11-15 lets it, but not
the active bank while a program runs (assumption log 147). -/
def programRefused (m : Nat) (write : Bool) (a : Nat) (s : State) : Bool :=
  match targetOf a with
  | .program b => write &&
      (if m = 0x51 then !updateMayWrite b s
       else if m = 0x58 then b == s.solver.activeBank && solving s.modes.mode
       else true)
  | _ => false

/-- Targets that the fixed path of a master without a checker reaches (R286, Table 11-1): the manual names them by function, and the
ranges are the model's reading (assumption log 143). -/
def fixedPath (m a : Nat) : Bool :=
  let t := targetOf a
  if m = 0x52 then decide (0x340800000 ≤ a ∧ a ≤ 0x3409FFFFF)
  else if m = 0x55 then t == .sram || t == .dataStore || t == .hubRegister || t == .islandRegister
  else if m = 0x70 then t == .sram
  else if m = 0x71 ∨ m = 0x72 then t == .dram && dramChannel a == m - 0x71
  else t == .dram || t == .sram

/-- Bytes from an address to the end of its beat: a codeword of DRAM, a line of SRAM; else the whole access (R260, R290). -/
def beatLength (a rest : Nat) : Nat :=
  match targetOf a with
  | .dram => min (20 - dramOffset a % 20) (4096 - a % 4096)
  | .sram => 20 - (a - 0x300000000) % 20
  | _ => rest

/-- Beats of an access; the fuel is its size. -/
def beatsFrom : Nat → Nat → Nat → List (Nat × Nat)
  | 0, a, size => [(a, size)]
  | k + 1, a, size =>
    let n := beatLength a size
    if size ≤ n then [(a, size)] else (a, n) :: beatsFrom k (a + n) (size - n)

/-- Check of one beat (R290): none when permitted, else the deciding REGION and the REASON of its notice (Table 11-9). -/
def checkBeat (m : Nat) (write : Bool) (a size : Nat) (s : State) : Option (Nat × Nat) :=
  match checkerOf m s with
  | none => if programRefused m write a s then some (0xFF, 0) else none
  | some rs =>
    let priv := isPriv m s
    let holds := rs.filter fun p => regionEnabled p.2 && regionHolds p.2 a size
    let decides := (holds.filter fun p => priv || !p.2.attr.getLsbD 2).head?
    let verdict : Option (Nat × Nat) :=
      match decides with
      | some p =>
        if p.2.attr.getLsbD (if write then 1 else 0) then (if programRefused m write a s then some (p.1, 1) else none)
        else some (p.1, 1)
      | none =>
        if priv then (if defaultPermits m write a && !programRefused m write a s then none else some (0xFE, 1))
        else if holds.isEmpty then some (0xFF, 0) else some (0xFF, 3)
    if inProtected a size && m != 0x58 then some (0xFF, 2) else verdict

/-- First beat of a request that is not permitted: its address, REGION and REASON (R290). -/
def firstBadBeat (m : Nat) (write : Bool) (a size : Nat) (s : State) : Option (Nat × Nat × Nat) :=
  (beatsFrom size a size).findSome? fun b => (checkBeat m write b.1 b.2 s).map fun v => (b.1, v)

/-- Check of a request, beat by beat (R290): none when every beat is permitted, else REGION and REASON of the first that is not. -/
def checkAccess (m : Nat) (write : Bool) (a size : Nat) (s : State) : Option (Nat × Nat) :=
  (firstBadBeat m write a size s).map (·.2)

/-- Masters whose accesses pass the hub slot in every phase: the cycle engine and the checkpoint engine (R154). -/
def ownsSlot (m : Nat) : Bool := decide (0x40 ≤ m ∧ m ≤ 0x43) || m == 0x50

/-- The access waits for the solve phase: it goes to the data store while the cycle engine owns the hub slot (R154, R262). -/
def waitsForSlot (m a : Nat) (s : State) : Bool := targetOf a == .dataStore && slotOwned s && !ownsSlot m && !windowClosed 1 s

/-! ### Memories -/

/-- The canonical form of a memory behind the hub: addresses strictly rising, no byte 0 listed, which is what an unlisted address
reads as (assumption log 1). -/
def Memory.wf (m : List Host.Cell) : Bool := mapWf 0 m

/-- Bytes of a sparse memory. -/
def readCells (a size : Nat) (m : List Host.Cell) : List Byte := (rangeFrom a size).map fun i => mapVal 0 i m

/-- Bytes written to a sparse memory. -/
def writeCells (a : Nat) (data : List Byte) (m : List Host.Cell) : List Host.Cell :=
  ((rangeFrom a data.length).zip data).foldl (fun m p => mapPut 0 p.1 p.2 m) m

/-- A bank's image. -/
def bankImage (b : Fin 2) (s : State) : Option Image := if b = 0 then s.solver.bank0 else s.solver.bank1

/-- Instruction written into a bank; one that holds no image takes a nameless one (R262). -/
def writeBank (b : Fin 2) (i : Nat) (c : Code) (s : State) : State :=
  let old := (bankImage b s).getD
    { identity := 0, isaRev := 3, costRev := 3, code := [], partitions := [], functions := [], plans := [], constants := []
      stateMap := [] }
  let new := some { old with code := mapPut 0 i c old.code }
  if b = 0 then { s with solver.bank0 := new } else { s with solver.bank1 := new }

/-- Bytes of a block of the quilt area: the counter record, or a header with its records (R461, R471). -/
def blockBytes' (n : Nat) (q : Quilt) : List Byte :=
  if n ≤ 1 then
    let r := if n = 0 then q.counters.1 else q.counters.2
    let b := leBytes 4 r.seconds ++ leBytes 4 r.powerCycles ++ leBytes 4 r.writes
    b ++ leBytes 4 (crc32 b).toNat
  else match (mapVal none n q.blocks : Option QuiltBlock) with
    | none => []
    | some k =>
      let first := match k.records with | r :: _ => r.seq.toNat | [] => 0
      let b := leBytes 4 k.seq.toNat ++ leBytes 1 k.severity ++ leBytes 3 1 ++ leBytes 4 first ++ leBytes 4 k.openedAt ++ leBytes 12 0
      b ++ leBytes 4 (crc32 b).toNat ++ k.records.flatMap recordBytes

/-- Byte of MRAM: of the quilt area from its blocks, else as stored (R291, R461). -/
def mramByte (a : Nat) (s : State) : Byte :=
  if a ≤ quiltEnd then byteAt (a % 4096) (blockBytes' ((a - 0x340000000) / 4096) s.quilt) else mapVal 0 a s.hub.mram

/-- Line of a line-coded store with the number of its scrubber (R245): none for the others. -/
def lineOf (a : Nat) : Option (Nat × Nat) :=
  match targetOf a with
  | .dataStore => some (0, (a - 0x310000000) / 32)
  | .program _ => some (1, (a - 0x320000000) / 32)
  | .sram => some (2, (a - 0x300000000) / 20)
  | .dram => some (3 + dramChannel a, dramCodeword a)
  | _ => none

/-- Lines or codewords that an access reads (R245). -/
def accessLines (a size : Nat) : List (Nat × Nat) := (beatsFrom size a size).filterMap fun b => lineOf b.1

/-- Every line or codeword of an access is decoded: counted and queued for its rewrite, or lost (R245, R246); `symbols` of the first
one have come to be in error. -/
def decodeAccess (a size symbols : Nat) (s : State) : State :=
  let s := match lineOf a with
    | some (k, line) => meetUpset k line symbols s
    | none => s
  (accessLines a size).foldl (fun s p => decodeLine p.1 p.2 s) s

/-- A line or codeword of an access, with `symbols` of the first one in error, cannot be corrected (R245). -/
def accessLost (a size symbols : Nat) (s : State) : Bool :=
  (lineOf a).isSome && decide (3 ≤ symbols) || (accessLines a size).any fun p => decide (3 ≤ upsetOf p.1 p.2 s)

/-- The lines of a write are written back whole (R106, R260). -/
def rewriteAccess (a size : Nat) (s : State) : State := (accessLines a size).foldl (fun s p => rewriteLine p.1 p.2 s) s

/-- Some byte of a DRAM access lies on a channel out of service (R261). -/
def dramDown (a size : Nat) (s : State) : Bool :=
  targetOf a == .dram && (rangeFrom a size).any fun i => !channelIn (dramChannel i) s

/-! ### Registers -/

/-- Word CLK_STATUS of an island (Table 12-2). -/
def clockWord (n : Nat) (s : State) : Nat :=
  let i := island n s
  let locked := i.locked || decide (n ∈ [5, 8, 9])
  i.stopped.toNat * 2 ^ 31 + i.outOfBand.toNat * 2 ^ 30 + locked.toNat * 2 ^ 29 + i.state * 2 ^ 26 + i.source * 2 ^ 24 + i.count % 65536

/-- Word LOCK_STATE (Table 10-14). -/
def lockWord (k : Nat) (s : State) : Nat :=
  let l := lockAt k s
  l.owner.isSome.toNat * 2 ^ 31 + l.abandoned.toNat * 2 ^ 30 + l.queue.length % 64 * 2 ^ 16 + l.owner.getD 0

/-- Words of an arbiter by offset: ARB_PORT_CFG, ARB_PORT_STATE, ARB_COMMIT (Table 10-5 to 10-7). DESIGN CHOICE: LEVEL is the effective
level of R266 also right after reset, where Table 10-6 gives 0 (assumption log 148). -/
def arbiterWord (a o : Nat) (s : State) : Nat :=
  let x := arbiter a s
  if o < 0x40 then
    let p := o / 4
    portKind a p * 256 + (arbPort a p x).baseShadow
  else if o < 0x80 then
    let p := (o - 0x40) / 4
    let q := arbPort a p x
    if portKind a p = 3 then 0
    else q.revoked * 65536 + (match x.grant with | some g => g.port == p | none => false).toNat * 8192 +
      (!q.requests.isEmpty).toNat * 4096 +
      portLevel a p x * 256 + q.losses * 16 + q.base
  else if o = 0x80 then x.commits * 65536 + x.tripPort * 4096
  else 0

/-- Word of a region at offset 0, 4 or 8 (R293). -/
def regionWord (r : Region) (o : Nat) : Nat := if o = 0 then r.base.toNat else if o = 4 then r.limit.toNat else if o = 8 then r.attr.toNat else 0

/-- Region key, and whether it is a shadow copy, of a register offset from 0xF_0002_0000 (R293). -/
def regionAt (o : Nat) : Option (Nat × Bool) :=
  if o < 0x1800 then some (16 * (o / 0x200) + o % 0x100 / 16, decide (o % 0x200 < 0x100))
  else if 0x2000 ≤ o ∧ o < 0x2400 then some (192 + (o - 0x2000) / 16, true)
  else if 0x2400 ≤ o ∧ o < 0x2800 then some (192 + (o - 0x2400) / 16, false)
  else none

/-- Register of the hub at an offset of its window, without the acquiring read of a lock. -/
def hubWord (o : Nat) (s : State) : Nat :=
  if 0x1000 ≤ o ∧ o < 0x1400 then arbiterWord ((o - 0x1000) / 0x100) (o % 0x100) s
  else if 0x4000 ≤ o ∧ o < 0x5000 then (if o % 16 = 0 then lockWord ((o - 0x4000) / 16) s else 0)
  else if 0x20000 ≤ o ∧ o < 0x22800 then
    match regionAt (o - 0x20000) with
    | some (k, shadow) => regionWord (regionOf k (if shadow then s.protection.shadow else s.protection.active)) (o % 16)
    | none => 0
  else if 0x23100 ≤ o ∧ o < 0x23200 then
    match s.protection.ring[(o - 0x23100) / 16]? with
    | some n => fieldLe (o % 16) 4 (noticeBytes n)
    | none => 0
  else 0

/-- Number that four bytes of a DOMAIN entry spell. -/
def blobWord (index sub a b o : Nat) (e : Entries) : Nat := fieldLe o 4 (entryBytes e index sub a b)

/-- Register of the door bus island at an offset of channel `k` (R358, R360, R373): entry with its byte offset, or number. -/
inductive DoorWord where
  | number (index sub : Nat) (default : Int)
  | blob (index sub b o : Nat)
  | none
  deriving DecidableEq, Repr

/-- What lies at an offset of a channel's registers. -/
def doorWordAt (o : Nat) : DoorWord :=
  if o = 0 then .number 0x7000 0x03 0x04F878F0
  else if o = 4 then .number 0x7000 0x04 0xA0079DC0
  else if 0x1000 ≤ o ∧ o < 0x3000 then
    (if o % 32 < 20 then .blob 0x7010 0x02 ((o - 0x1000) / 32) (o % 32) else .none)
  else if 0x8000 ≤ o ∧ o < 0xA000 then .blob 0x7021 0x01 0 (o - 0x8000)
  else if 0xA000 ≤ o ∧ o < 0xA080 then .blob 0x7021 0x02 0 (o - 0xA000)
  else .none

/-- Defined bits of the word at an offset of a channel's registers; reserved bits read zero and are not written (R7, Tables 14-2, 14-3,
14-6, 14-12, 14-13). -/
def doorMask (o : Nat) : BitVec 32 :=
  if o = 0 then 0xFFFFFFF0
  else if o = 4 then 0xFFFFFFC0
  else if o < 0x3000 then
    (if o % 32 = 4 then 0x1FFFFFFF else if o % 32 = 8 then 0xFFFFFE3F else if o % 32 = 12 then 0x01FF01FF else 0xFFFFFFFF)
  else if o < 0xA000 then 0xC00000FF
  else 0xFFFF

/-- Entry `i` of the operational gate list of a port as its word (Table 13-2). -/
def gateWord (p i : Nat) (s : State) : Nat :=
  match (port p s).gates.entries[i]? with
  | some g => g.1.toNat * 2 ^ 24 + g.2
  | none => 0xFF000000

/-- Register of an island control window at an offset from 0xF_0010_0000 (R263). -/
def islandWord (o : Nat) (s : State) : Nat :=
  if 0x700004 ≤ o ∧ o ≤ 0x700024 then clockWord ((o - 0x700000) / 4) s
  else if 0x310000 ≤ o ∧ o < 0x314000 then
    let p := (o - 0x310000) / 0x1000 + 1
    let i := o % 0x1000
    if i < 0x200 then cfgGateEntry s.nsp.inForce p (i / 4)
    else if 0x800 ≤ i ∧ i < 0xA00 then gateWord p ((i - 0x800) / 4) s
    else 0
  else if 0x400000 ≤ o ∧ o < 0x480000 then
    let k := (o - 0x400000) / 0x10000
    let word := match doorWordAt (o % 0x10000) with
      | .number index sub d => entryNat s.nsp.inForce index sub d.toNat k 0
      | .blob index sub b i => blobWord index sub k b i s.nsp.inForce
      | .none => 0
    (BitVec.ofNat 32 word &&& doorMask (o % 0x10000)).toNat
  else 0

/-- Island of a control window offset. -/
def windowIsland (o : Nat) : Nat := o / 0x100000 + 1

/-- A register access that failed is counted (R319, R322). -/
def failAccess (n : Nat) (s : State) : State :=
  modCrossing (hubCrossing n) (fun c => { c with accessesFailed := satU32 (c.accessesFailed + 1) }) s

/-- A hub register read: reading a lock at offset 4 is a try (R283); a chain head register holds address bits [35:4] (assumption log
144). -/
def readHubRegister (m o : Nat) (s : State) : State × Nat :=
  if 0x4000 ≤ o ∧ o < 0x5000 ∧ o % 16 = 4 then
    let s := acquireLock m ((o - 0x4000) / 16) false s
    (s, mapVal 0 m s.hub.lockResults)
  else if 0x8000 ≤ o ∧ o < 0x8300 ∧ o % 0x40 = 0 then (s, (mapVal {} ((o - 0x8000) / 0x40) s.hub.dma : Dma).head / 16)
  else (s, hubWord o s)

/-- A region's word set. -/
def setRegionWord (o : Nat) (v : BitVec 32) (r : Region) : Region :=
  if o = 0 then { r with base := v } else if o = 4 then { r with limit := v } else if o = 8 then { r with attr := v &&& 0xE7000007 } else r

/-- A hub register written (R263, R270, R277, R281, R293): shadow regions only by PRIV masters and while the shadow set is open; a
chain that a register write starts runs at the level of the master that wrote it (assumption log 144). -/
def writeHubRegister (m o : Nat) (v : BitVec 32) (s : State) : State :=
  if 0x1000 ≤ o ∧ o < 0x1400 then
    let a := (o - 0x1000) / 0x100
    let i := o % 0x100
    if i < 0x40 then
      if portKind a (i / 4) = 0 then modArbiter a (modArbPort a (i / 4) (fun q => { q with baseShadow := min (v.toNat % 16) 13 })) s else s
    else if i = 0x80 ∧ v.getLsbD 0 then commitBases a s
    else s
  else if 0x8000 ≤ o ∧ o < 0x8300 ∧ o % 0x40 = 0 then armChain ((o - 0x8000) / 0x40) (16 * v.toNat) (isPriv m s) none s
  else if 0x4000 ≤ o ∧ o < 0x5000 ∧ o % 16 = 8 then releaseLock m ((o - 0x4000) / 16) s
  else if 0x20000 ≤ o ∧ o < 0x22800 ∧ isPriv m s ∧ s.protection.stage = .open then
    match regionAt (o - 0x20000) with
    | some (k, true) => { s with protection.shadow := mapMod (regionReset k) k (setRegionWord (o % 16) v) s.protection.shadow }
    | _ => s
  else s

/-- Bytes with four of them replaced. -/
def setWordBytes (o : Nat) (v : BitVec 32) (l : List Byte) : List Byte :=
  let l := l ++ List.replicate (o + 4 - l.length) 0
  l.take o ++ leBytes 4 v.toNat ++ l.drop (o + 4)

/-- A register of an island control window written: the administrative gate lists and the registers of the door bus island, which
hold the configuration in force (R335, R358, R360, R373); every other one ignores it. -/
def writeIslandRegister (o : Nat) (v : BitVec 32) (s : State) : State :=
  if 0x310000 ≤ o ∧ o < 0x314000 ∧ o % 0x1000 < 0x200 then
    let k := ekey 0x6011 0x08 ((o - 0x310000) / 0x1000 + 1) (o % 0x1000 / 4)
    { s with nsp.inForce.nums := mapPut 0xFF000000 k (Int.ofNat v.toNat) s.nsp.inForce.nums }
  else if 0x400000 ≤ o ∧ o < 0x480000 then
    let k := (o - 0x400000) / 0x10000
    let v := v &&& doorMask (o % 0x10000)
    match doorWordAt (o % 0x10000) with
    | .number index sub d => { s with nsp.inForce.nums := mapPut d (ekey index sub k 0) (Int.ofNat v.toNat) s.nsp.inForce.nums }
    | .blob index sub b i => { s with
        nsp.inForce.blobs := mapMod [] (ekey index sub k b) (setWordBytes i v) s.nsp.inForce.blobs }
    | .none => s
  else s

/-! ### One access -/

/-- Free bytes: what a master receives for an uncorrectable codeword (assumption log 2). -/
def freeBytes (size : Nat) (s : State) : List Byte × State :=
  let d := drawNat s
  (leBytes size d.1, d.2)

/-- A word written through the hub slot; in the solve phase the first write of a shared word keeps its old value (R95). -/
def storeWord (a : Nat) (v : Word) (s : State) : State :=
  let keep := s.cycle.phase == .solve && decide (a ∈ (planFigures s).shared) && (mapVal none a s.solver.before).isNone
  { s with
    solver.before := if keep then mapPut none a (some (storeAt a s)) s.solver.before else s.solver.before
    solver.store := mapPut 0 a v s.solver.store }

/-- A permitted read of an accepted size: bytes, and status 0, or 0x12 for an uncorrectable codeword (Table 10-13). -/
def performRead (m a size symbols : Nat) (s : State) : State × List Byte × Nat :=
  match targetOf a with
  | .dram =>
    if windowClosed 3 s then (closedWrite 6 s, leBytes size 0, 0)
    else if dramDown a size s then
      let f := freeBytes size s
      (f.2, f.1, 0x12)
    else if accessLost a size symbols s then
      let f := freeBytes size (decodeAccess a size symbols s)
      (f.2, f.1, 0x12)
    else (decodeAccess a size symbols s, readCells a size s.hub.dram, 0)
  | .sram =>
    if accessLost a size symbols s then
      let f := freeBytes size (decodeAccess a size symbols s)
      (f.2, f.1, 0x12)
    else (decodeAccess a size symbols s, readCells a size s.hub.sram, 0)
  | .dataStore =>
    if windowClosed 1 s then (s, leBytes size 0, 0)
    else if accessLost a size symbols s then
      let f := freeBytes size (decodeAccess a size symbols s)
      (f.2, f.1, 0x12)
    else (decodeAccess a size symbols s, leBytes 4 (storeAt ((a - 0x310000000) / 4) s).toNat, 0)
  | .program b =>
    if windowClosed 1 s then (s, leBytes size 0, 0)
    else
      let i := (a - 0x320000000) / 8 % 1048576
      let c : Code := match bankImage b s with | some x => mapVal 0 i x.code | none => 0
      if accessLost a size symbols s then
        let f := freeBytes size (decodeAccess a size symbols s)
        (f.2, f.1, 0x12)
      else (decodeAccess a size symbols s, leBytes 8 c.toNat, 0)
  | .mram => (s, (rangeFrom a size).map fun i => mramByte i s, 0)
  | .flash => (s, readCells a size s.hub.flash, 0)
  | .hubRegister =>
    let r := readHubRegister m (a - 0xF00000000) s
    (r.1, leBytes 4 r.2, 0)
  | .islandRegister =>
    let o := a - 0xF00100000
    if windowClosed (windowIsland o) s then (failAccess (windowIsland o) s, leBytes 4 0, 0)
    else (s, leBytes 4 (islandWord o s), 0)
  | .reserved => (s, leBytes size 0, 0)

/-- A permitted write of an accepted size. -/
def performWrite (m a : Nat) (data : List Byte) (symbols : Nat) (s : State) : State × Nat :=
  let v : BitVec 32 := BitVec.ofNat 32 (ofLe data)
  match targetOf a with
  | .dram =>
    if windowClosed 3 s then (closedWrite 6 s, 0)
    else if dramDown a data.length s then (s, 0x12)
    else
      let lost := accessLost a data.length symbols s
      let s := rewriteAccess a data.length (decodeAccess a data.length symbols s)
      ({ s with hub.dram := writeCells a data s.hub.dram }, if lost then 0x12 else 0)
  | .sram =>
    let lost := accessLost a data.length symbols s
    let s := rewriteAccess a data.length (decodeAccess a data.length symbols s)
    ({ s with hub.sram := writeCells a data s.hub.sram }, if lost then 0x12 else 0)
  | .dataStore =>
    if windowClosed 1 s then (closedWrite 1 s, 0)
    else
      let lost := accessLost a data.length symbols s
      let s := rewriteAccess a data.length (decodeAccess a data.length symbols s)
      (storeWord ((a - 0x310000000) / 4) (v.setWidth 20) s, if lost then 0x12 else 0)
  | .program b =>
    if windowClosed 1 s then (closedWrite 1 s, 0)
    else
      let lost := accessLost a data.length symbols s
      let s := rewriteAccess a data.length (decodeAccess a data.length symbols s)
      (writeBank b ((a - 0x320000000) / 8 % 1048576) (BitVec.ofNat 40 (ofLe data)) s, if lost then 0x12 else 0)
  | .mram => ({ s with hub.mram := writeCells a data s.hub.mram }, 0)
  | .hubRegister => (writeHubRegister m (a - 0xF00000000) v s, 0)
  | .islandRegister =>
    let o := a - 0xF00100000
    if windowClosed (windowIsland o) s then (failAccess (windowIsland o) s, 0) else (writeIslandRegister o v s, 0)
  | .flash => (s, 0)
  | .reserved => (s, 0)

/-- A decode error is counted with its master (R259). -/
def decodeError (m : Nat) (s : State) : State :=
  { s with
    hub.decodeErrors := satU32 (s.hub.decodeErrors + 1)
    hub.lastDecodeMaster := m }

/-- The update engine's transfer ends and its image is refused (Table 11-8, R450). -/
def updateViolated (s : State) : State :=
  if s.firmware.staging = 1 ∨ s.firmware.staging = 2 then
    let forwarded := s.firmware.bySession.isNone
    let s := endStaging 10 { identity := BitVec.ofNat 32 (fieldLe 64 4 s.firmware.received) } s
    if forwarded then answerForwarded 10 s else s
  else if s.change.state = .loading then completeReplies 0x2040 0x01 0x09 (setChange .refused (dropChange s))
  else s

/-- A violation: its notice, and the consequence that does not concern a descriptor (Table 11-8, R297). -/
def violation (m region reason kind a : Nat) (s : State) : State :=
  let d : Nat := if 0x40 ≤ m ∧ m ≤ 0x4B then (mapVal {} (m - 0x40) s.hub.dma : Dma).current else 0
  let s := addNotice (noticeFor m (a / 16) region reason kind (isPriv m s) (kind == 2) (d / 16) s) s
  if (0x40 ≤ m ∧ m ≤ 0x43) ∨ m = 0x50 then enterFault 0x1602 m s
  else if m = 0x51 then updateViolated s
  else s

/-- One access of a master other than the debug port: check, decoding, effect (R259, R290, R295); a master without a checker reaches
nothing outside its fixed path (R286). The status is 0, or that of Table 10-13: DECODE, protection fault, uncorrectable. `buffered` marks a burst of a write buffer (R296). -/
def hubAccess (m : Nat) (write buffered : Bool) (a size : Nat) (data : List Byte) (symbols : Nat) (s : State) :
    State × List Byte × Nat :=
  let zeros := leBytes (if write then 0 else size) 0
  match firstBadBeat m write a size s with
  | some v => (violation m v.2.1 v.2.2 (if buffered then 2 else if write then 1 else 0) v.1 s, zeros, 0x11)
  | none =>
    if (checkerOf m s).isNone && !fixedPath m a then (s, zeros, 0)
    else if accepted write a size = false then (decodeError m s, zeros, 0x10)
    else if write then
      let r := performWrite m a data symbols s
      (r.1, [], r.2)
    else performRead m a size symbols s

/-! ### The debug port -/

/-- The access overlaps a locked range (R292). -/
def inLocked (a size : Nat) (s : State) : Bool :=
  overlaps a size 0x310000000 0x3103FFFFF || overlaps a size 0x320000000 0x320FFFFFF || overlaps a size 0x400000000 0x41FFFFFFF ||
    overlaps a size 0x340800000 0x340FFFFFF ||
    (rangeFrom 192 64).any fun k =>
      let r := regionOf k s.protection.active
      regionEnabled r && r.attr.getLsbD 30 && overlaps a size (regionLo r) (regionHi r)

/-- The table of R307 turns the access to zeros (Table 11-15). -/
def debugHit (a size : Nat) (s : State) : Bool :=
  match s.protection.lifecycle with
  | .provision | .decommissioned => false
  | .inService => inProtected a size || (inLocked a size s && !s.protection.unlocked)

/-- The debug port's own status word (R307): LOCKED_HIT in bit 0, which a write of 1 clears (assumption log 145). -/
def debugStatus (write : Bool) (data : List Byte) (s : State) : State :=
  if write then { s with
    hub.answer := []
    protection.lockedHit := s.protection.lockedHit && !(byteAt 0 data).getLsbD 0 }
  else { s with hub.answer := leBytes 4 s.protection.lockedHit.toNat }

/-- A debug port access (R307). -/
def debugAccess (write : Bool) (a size : Nat) (data : List Byte) (symbols : Nat) (s : State) : State :=
  if (checkAccess 0x58 write a size s).isSome || debugHit a size s then
    { s with
      hub.answer := leBytes (if write then 0 else size) 0
      protection.lockedHit := true
      protection.hits := satU32 (s.protection.hits + 1) }
  else if accepted write a size = false then
    { decodeError 0x58 s with hub.answer := leBytes (if write then 0 else size) 0 }
  else if write then { (performWrite 0x58 a data symbols s).1 with hub.answer := [] }
  else
    let r := performRead 0x58 a size symbols s
    { r.1 with hub.answer := r.2.1 }

end Sys2Proof.Machine
end

