-- ==== Sys2Proof/Machine/Crossings.lean ====
section
/-!
DEFINITION. Crossings and single-island resets (12_clock_islands.md R317–R325).
-/
namespace Sys2Proof.Machine

/-- CROSSING_OPEN (R317, R320): the handshake of a crossing has ended; four disagreeing sample pairs are FAULT 0x1702.
The crossings of island 9 open last (R321). -/
def execCrossingOpen (crossing : Fin 18) (agreed : Bool) (s : State) : Host.Outcome State Fault Refusal :=
  let n := crossing.val + 1
  let c := Machine.crossing n s
  if c.state = 0 then .next s
  else if agreed = false then
    .next (enterFault 0x1702 n (modCrossing n (fun c => { c with retries := satU32 (c.retries + 4) }) s))
  else if c.state = 1 ∧ sidesUp n s ∧ othersOpen n s then .next (openCrossing n s)
  else .next s

/-- CROSSING_CLOSE (R319): a side sees the other side's RUN low. -/
def execCrossingClose (crossing : Fin 18) (s : State) : Host.Outcome State Fault Refusal :=
  let n := crossing.val + 1
  if sidesUp n s then .next s else .next (closeCrossing n s)

/-- REGISTER_ACCESS_TIMEOUT (R322): an access to islands 1 to 8 has had no answer in 1,024 ticks and completes as on a closed
crossing. -/
def execRegisterAccessTimeout (island : Fin 8) (s : State) : Host.Outcome State Fault Refusal :=
  let n := island.val + 1
  if windowClosed n s then .next s
  else .next (failAccess n { s with hub.answer := [0, 0, 0, 0] })

/-- A write to 0xC002:01 (R324): accepted only in STOP, for islands 4, 5 and 7. While a reset is in progress the write is refused and
0xC002:02 goes on reading 1. -/
def resetIsland (v : Nat) (s : State) : State :=
  if s.islands.reset.isSome then s
  else if s.modes.mode ≠ .stop then { s with islands.resetResult := 2 }
  else if v ≠ 4 ∧ v ≠ 5 ∧ v ≠ 7 then { s with islands.resetResult := 3 }
  else { s with
    islands.reset := some (v, .scheduled)
    islands.resetResult := 1 }

/-- ISLAND_RESET (R324). -/
def execIslandReset (value : BitVec 8) (s : State) : Host.Outcome State Fault Refusal := .next (resetIsland value.toNat s)

/-- The reset of an island cannot end: the supervisor island has stopped, or the island's clock has, and it stays in reset until the next
restart (R322, R494). -/
def staysHeld (n : Nat) (s : State) : Bool := !supervisorUp s || (island n s).state == 3

/-- A single-island reset ends without the island (R324): result 4, with its alarm. -/
def resetFails (n : Nat) (s : State) : State :=
  raiseAlarm .islandResetFailed 0 (holdIsland n (island n s).state { s with
    islands.reset := none
    islands.resetResult := 4 })

/-- ISLAND_RESET_ASSERT (R324, R325): the island enters reset; the sessions that it carries end. An island that is already held until the
next restart stays so (R322, R494). -/
def execIslandResetAssert (s : State) : Host.Outcome State Fault Refusal :=
  match s.islands.reset with
  | some (n, .scheduled) =>
    if staysHeld n s then .next (resetFails n s) else
    let s := holdIsland n 0 (endCarried n { s with islands.reset := some (n, .asserted) })
    let s := modIsland n (fun i => { i with resets := satU16 (i.resets + 1) }) s
    .next (logOther .islandReset [n] s)
  | _ => .next s

/-- ISLAND_RESET_RELEASE (R324): the island is released with its configuration; its loopback runs. One that is held until the
next restart is not released (R322, R494). -/
def execIslandResetRelease (s : State) : Host.Outcome State Fault Refusal :=
  match s.islands.reset with
  | some (n, .asserted) =>
    if staysHeld n s then .next (resetFails n s) else
    .next (configureIslands (releaseIsland n { s with islands.reset := some (n, .loopback) }))
  | _ => .next s

/-- ISLAND_RESET_LOOPBACK_DONE (R324): result 0, or the island stays in reset with result 4. -/
def execIslandResetLoopbackDone (pass : Bool) (s : State) : Host.Outcome State Fault Refusal :=
  match s.islands.reset with
  | some (n, .loopback) =>
    if pass then .next { s with
      islands.reset := none
      islands.resetResult := 0 }
    else .next (resetFails n (if staysHeld n s then s else modIsland n (fun i => { i with state := 0 }) s))
  | _ => .next s

end Sys2Proof.Machine
end

