-- ==== Sys2Proof/Machine/SeamLink.lean ====
section
/-!
DEFINITION. The lanes of the seam link: reception, acknowledgement, failure and return of a lane
(08_redundant_pair.md R201–R206; 06_cycle_and_admission.md R174).
-/
namespace Sys2Proof.Machine

/-- The module is in a mode in which it sends weft frames (R204, R232). -/
def weftMode (s : State) : Bool := s.modes.mode == .active || s.modes.mode == .handover || s.modes.mode == .change

/-- The other lane. -/
def otherLane (l : Fin 2) : Fin 2 := if l = 0 then 1 else 0

/-- An ACK goes out on its lane: the highest LANE_SEQ received in order, and the one to resend or 0xFFFF (R203). -/
def sendAck (l : Fin 2) (resend : BitVec 16) (s : State) : State :=
  let m := { pairMsg 8 (.ack ((seamLane l s).rxNext - 1) resend) s with seq := s.pair.seamPath.txSeq }
  pumpSeam (modSeamLane l (fun x => { x with
      control := x.control ++ [m]
      ackOwed := 0
      asked := if resend = 0xFFFF then x.asked else some resend })
    { s with pair.seamPath.txSeq := s.pair.seamPath.txSeq + 1 })

/-- With one lane gone, the one-lane cycle exceeds the bound of a class in use (R174). -/
def oneLaneTooSlow (s : State) : Bool :=
  match activeImage s with
  | some i => (boundedClasses s.nsp.inForce i).any fun c => decide (boundOf s.nsp.inForce c < (planFigures s).t1)
  | none => false

/-- A resynchronisation under way starts again from step 1 (R230). -/
def restartResync (s : State) : State :=
  let asActive := s.pair.resyncTransfer || s.pair.resyncNext.isSome
  let asStandby := s.pair.standby == .resynchronising
  { s with
    pair.resyncWanted := s.pair.resyncWanted || asActive
    pair.resyncTransfer := false
    pair.resyncNext := none
    pair.resyncAccepted := s.pair.resyncAccepted && !asStandby
    pair.resyncBase := s.pair.resyncBase && !asStandby
    pair.resyncLines := if asStandby then 0 else s.pair.resyncLines
    seam.serviceTx := if asActive then [] else s.seam.serviceTx
    seam.serviceOffset := if asActive then 0 else s.seam.serviceOffset
    seam.serviceNumber := if asActive then s.seam.serviceNumber + 1 else s.seam.serviceNumber }

/-- Blocks of a failed lane that the other lane takes over: control messages, weft and service blocks (R204). An ACK belongs to its
lane (R203). -/
def moveBlocks (l : Fin 2) (s : State) : State :=
  let x := seamLane l s
  let bs := x.unacked.map (·.block)
  let msgs := (x.control ++ (bs.filter fun b => b.type == 2).map fun b => parsePair b.payload).filter fun m => m.kind != 8
  let wefts := bs.filter fun b => b.type == 1
  modSeamLane (otherLane l) (fun y => { y with control := y.control ++ msgs })
    { s with
      seam.weftTx := wefts ++ s.seam.weftTx
      seam.serviceBlocks := s.seam.serviceBlocks ++ bs.filter fun b => b.type == 3
      seam.resentBlocks := s.seam.resentBlocks + wefts.length }

/-- A lane fails (R204): its outstanding blocks move, it retrains, a resynchronisation begins again, and weft frames are
suspended from the next boundary when one lane is too slow (R174, R230, R315). -/
def failLane (l : Fin 2) (s : State) : State :=
  if (seamLane l s).failed then s
  else
    let s := moveBlocks l s
    let s := modSeamLane l (fun x => { emptyLane x with failed := true }) s
    let s := raiseAlarm .seamLaneFailed l.val { s with seam.laneFailures := satU32 (s.seam.laneFailures + 1) }
    let s := chooseSeamClock (restartResync s)
    let s := if weftMode s && oneLaneTooSlow s then { s with cycle.suspendDue := true } else s
    pumpSeam s

/-- A lane is in service again: both in service end a suspension of weft frames (R174, Table 8-10). -/
def laneReturned (s : State) : State :=
  if s.seam.lane0.inService && s.seam.lane1.inService then
    clearAlarm .seamCapacity 0 { s with
      cycle.weftSuspended := false
      cycle.suspendDue := false }
  else s

/-! ### Reception -/

/-- Number of errors within 1 ms up to now. -/
def recentErrors (l : List Nat) (now : Nat) : List Nat := l.filter fun t => decide (now < t + 1000000)

/-- A CRC error: counted, a resend asked for; more than 64 within 1 ms fail the lane (R203, R204). -/
def crcError (l : Fin 2) (s : State) : State :=
  let now := s.network.time.now
  let s := modSeamLane l (fun x => { x with
    crcErrors := satU32 (x.crcErrors + 1)
    crcTimes := recentErrors x.crcTimes now ++ [now] }) s
  if 64 < (seamLane l s).crcTimes.length then failLane l s else sendAck l (seamLane l s).rxNext s

/-- The expected LANE_SEQ moves past blocks that have already arrived; the fuel is their number (R203). -/
def skipAhead : Nat → SeamLane → SeamLane
  | 0, x => x
  | n + 1, x =>
    if x.rxNext ∈ x.rxAhead then skipAhead n { x with rxNext := x.rxNext + 1, rxAhead := x.rxAhead.filter (· != x.rxNext) }
    else x

/-- The block has been received before (R203). -/
def isDuplicate (q : BitVec 16) (x : SeamLane) : Bool :=
  decide (32768 ≤ (q - x.rxNext).toNat) || decide (q ∈ x.rxAhead)

/-- A block with a new LANE_SEQ is noted (R203). -/
def noteBlock (q : BitVec 16) (x : SeamLane) : SeamLane :=
  let x := { x with ackOwed := x.ackOwed + 1, asked := if x.asked = some q then none else x.asked }
  if q = x.rxNext then skipAhead x.rxAhead.length { x with rxNext := x.rxNext + 1 }
  else { x with rxAhead := x.rxAhead ++ [q] }

/-- Bytes from `o` on that a frame's pieces hold without a gap; the fuel is the number of pieces (R202). -/
def joinPieces (ps : List (Nat × List Byte)) : Nat → Nat → List Byte
  | 0, _ => []
  | n + 1, o =>
    match ps.find? fun p => p.1 == o && !p.2.isEmpty with
    | some p => p.2 ++ joinPieces ps n (o + p.2.length)
    | none => []

/-- A block joins the pieces of its frame or transfer, found by FRAME_TAG (R22, R202). -/
def joinBlock (b : SeamBlock) (l : List RxFrame) : RxFrame :=
  let old := (l.find? fun f => f.tag == b.tag).getD { tag := b.tag, pieces := [] }
  { old with
    pieces := old.pieces.filter (fun p => p.1 != b.offset) ++ [(b.offset, b.payload)]
    length := if b.last then some (b.offset + b.payload.length) else old.length }

/-- Bytes that a frame or transfer holds from its start on without a gap. -/
def rxBytes (f : RxFrame) : List Byte := joinPieces f.pieces f.pieces.length 0

/-- Every byte of a frame or transfer has arrived. -/
def rxWhole (f : RxFrame) : Bool := f.length == some (rxBytes f).length

/-- A weft block joins its frame; a frame that is whole comes out with it. -/
def takeWeftBlock (b : SeamBlock) (s : State) : State × Option (List Byte) :=
  let f := joinBlock b s.seam.rxFrames
  let rest := s.seam.rxFrames.filter fun x => x.tag != b.tag
  if rxWhole f then ({ s with seam.rxFrames := rest }, some (rxBytes f))
  else ({ s with seam.rxFrames := rest ++ [f] }, none)

/-- A service block joins its transfer, which waits there until SERVICE_TRANSFER_RECEIVED takes it. -/
def takeServiceBlock (b : SeamBlock) (s : State) : State :=
  { s with seam.rxServices := (s.seam.rxServices.filter fun x => x.tag != b.tag) ++ [joinBlock b s.seam.rxServices] }

/-- The oldest whole transfer leaves the receiver. -/
def takeTransfer (s : State) : State := { s with seam.rxServices := s.seam.rxServices.eraseP rxWhole }

/-- An ACK goes out at least once per 8 blocks received (R203). -/
def ackIfOwed (l : Fin 2) (s : State) : State := if 8 ≤ (seamLane l s).ackOwed then sendAck l 0xFFFF s else s

/-- A weft block that arrives again, or that an ACK had asked for, counts as resent (Table 8-12). DESIGN CHOICE (assumption log 139):
the manual does not say how a standby knows that a block was resent. -/
def noteResent (b : SeamBlock) (x : SeamLane) (s : State) : State :=
  if b.type = 1 ∧ (isDuplicate b.laneSeq x = true ∨ x.asked = some b.laneSeq) then
    { s with seam.rxResent := s.seam.rxResent ++ [b.tag] }
  else s

/-- ACK_RECEIVED (R203): acknowledged blocks are freed; a block named for resending is resent, unless it has already been
sent four times (R204). -/
def execAckReceived (lane : Fin 2) (received resend : BitVec 16) (s : State) : Host.Outcome State Fault Refusal :=
  let done (u : Unacked) : Bool := decide ((received - u.block.laneSeq).toNat < 32768)
  let s := modSeamLane lane (fun x => { x with
    unacked := x.unacked.filter fun u => !done u
    resend := x.resend.filter fun q => !decide ((received - q).toNat < 32768) }) s
  match (seamLane lane s).unacked.find? fun u => u.block.laneSeq == resend with
  | some u =>
    if resend = 0xFFFF then .next (pumpSeam s)
    else if 4 ≤ u.sends then .next (failLane lane s)
    else .next (pumpSeam (modSeamLane lane (fun x => { x with
      resend := if resend ∈ x.resend then x.resend else x.resend ++ [resend] }) s))
  | none => .next (pumpSeam s)

/-- ACK_TIMER (R203): 4 µs or 8 blocks have passed while blocks arrive. -/
def execAckTimer (lane : Fin 2) (s : State) : Host.Outcome State Fault Refusal :=
  .next (if (seamLane lane s).ackOwed = 0 then s else sendAck lane 0xFFFF s)

/-- RETRANSMIT_TIMEOUT (R203, R204): a block is unacknowledged for 16 µs; one sent four times fails the lane. -/
def execRetransmitTimeout (lane : Fin 2) (seq : BitVec 16) (s : State) : Host.Outcome State Fault Refusal :=
  match (seamLane lane s).unacked.find? fun u => u.block.laneSeq == seq with
  | some u =>
    if 4 ≤ u.sends then .next (failLane lane s)
    else .next (pumpSeam (modSeamLane lane (fun x => { x with
      resend := if seq ∈ x.resend then x.resend else x.resend ++ [seq] }) s))
  | none => .next s

/-- A lane that still retrains loses its lock: it stays failed, and its next lock begins with a HELLO again (R204, R205, R315). -/
def loseLock (l : Fin 2) (s : State) : State :=
  chooseSeamClock (modSeamLane l (fun x => { emptyLane x with failed := true }) s)

/-- BLOCK_LOCK_LOSS (R204, R315). -/
def execBlockLockLoss (lane : Fin 2) (s : State) : Host.Outcome State Fault Refusal :=
  .next (if (seamLane lane s).lock then (if (seamLane lane s).failed then loseLock lane s else failLane lane s) else s)

/-- LANE_RETRAIN_DONE (R204): 100 ms without a CRC error. A module that sends weft frames stripes them over the lane again
from its next boundary. -/
def execLaneRetrainDone (lane : Fin 2) (s : State) : Host.Outcome State Fault Refusal :=
  let x := seamLane lane s
  if x.failed && x.lock && x.helloAccepted then
    let s := modSeamLane lane (fun x => { x with failed := false, inService := true, weftReady := !weftMode s }) s
    .next (pumpSeam (laneReturned (clearAlarm .seamLaneFailed lane.val s)))
  else .next s

/-- The HELLO of this module (R205). -/
def helloMsg (s : State) : PairMsg :=
  { pairMsg 7 (.formats (BitVec.ofNat 16 s.firmware.main.weftLo) (BitVec.ofNat 16 s.firmware.main.weftHi)
      s.firmware.main.revision) s with seq := s.pair.seamPath.txSeq }

/-- BLOCK_LOCK_ACHIEVED (R205, R315): the lane's sequence numbers start anew and a HELLO goes out on it. -/
def execBlockLockAchieved (lane : Fin 2) (roundTrip : Nat) (s : State) : Host.Outcome State Fault Refusal :=
  if (seamLane lane s).lock = false ∧ islandUp 7 s then
    let m := helloMsg s
    let s := modSeamLane lane (fun x => { emptyLane x with lock := true, failed := x.failed, control := [m] })
      { s with
        seam.roundTrip := roundTrip
        pair.seamPath.txSeq := s.pair.seamPath.txSeq + 1 }
    .next (pumpSeam (chooseSeamClock s))
  else .next s

/-- SEAM_BLOCK_TRANSMITTED (R202): the block on a lane has left; the BOUNDARY follows the last weft block (R213). -/
def execSeamBlockTransmitted (lane : Fin 2) (t : Nat) (s : State) : Host.Outcome State Fault Refusal :=
  if (seamLane lane s).sending.isSome then
    let s := modSeamLane lane (fun x => { x with sending := none }) (atTime t s)
    .next (checkWeft (pumpSeam s))
  else .next s

end Sys2Proof.Machine
end

