-- ==== Sys2Proof/Machine/PairOps.lean ====
section
/-!
DEFINITION. What the pair does with accepted messages: path state, synchronisation of the standby, commits, takeover,
HANDOVER on both modules (08_redundant_pair.md R209, R213–R229; 07_online_change.md R195, R196; 03_start_and_modes.md
R69; 18_firmware_update.md R458, R459).
-/
namespace Sys2Proof.Machine

/-! ### Acceptance -/

/-- A path's record. -/
def pathOf (p : PairPath) (s : State) : Path := match p with | .seam => s.pair.seamPath | .network => s.pair.netPath

/-- A path's record changed. -/
def modPath (p : PairPath) (f : Path → Path) (s : State) : State :=
  match p with
  | .seam => { s with pair.seamPath := f s.pair.seamPath }
  | .network => { s with pair.netPath := f s.pair.netPath }

/-- The message leaves the hand-over list of the seam receiver, in which it arrived (R201). -/
def takeHanded (m : PairMsg) (s : State) : State := { s with seam.handed := s.seam.handed.erase m }

/-- Conditions of acceptance (R209). -/
def messageAccepted (p : PairPath) (m : PairMsg) (cmacOk : Bool) (s : State) : Bool :=
  let x := pathOf p s
  let later := match x.last with | some (t, _) => decide (t < m.send) | none => true
  m.pairId == pairIdentity s && some m.slot == partnerSlotOf s &&
    (p == .seam || cmacOk) && (!x.up || later)

/-- Partner time base minus own, measured at a heartbeat on the seam: half the round trip is the delay (R209). -/
def measuredOffset (m : PairMsg) (s : State) : Int := Int.ofNat (m.send + s.seam.roundTrip / 2) - Int.ofNat (timeBase s)

/-- Send time of a message in the own time base: by the seam's offset, else by the common domain, else the receive time
(R209). -/
def ownSend (m : PairMsg) (s : State) : Int :=
  match s.pair.offset with
  | some o => Int.ofNat m.send - o
  | none => if s.network.time.state = 2 then Int.ofNat m.send else Int.ofNat (timeBase s)

/-- The path is up, and its alarm clears (R209, Table 8-10). -/
def pathUp (p : PairPath) (m : PairMsg) (s : State) : State :=
  let s := if p = .seam ∧ m.kind = 1 then { s with pair.offset := some (measuredOffset m s) } else s
  let o := ownSend m s
  let s := modPath p (fun x => { x with up := true, last := some (m.send, m.seq), lastSend := o }) s
  match p with
  | .seam => clearAlarm .seamLinkDown 0 s
  | .network => clearAlarm .networkHeartbeatLost 0 s

/-- Mode that the partner counts with: one that has announced LEAVING is in STANDBY no more until it asks for a
resynchronisation, and the module that is handing over to this one counts as its standby (R226). DEDUCED. -/
def partnerMode (m : PairMsg) (s : State) : Option Nat :=
  if s.pair.partner.left && m.mode == 4 then none
  else if solving s.modes.mode && m.mode == 7 && m.jersey + 1 == s.pair.jersey then some 4
  else some m.mode

/-- Pending proposals are dropped at a takeover and a HANDOVER, with a confirmed rule commit (R301). -/
def dropProposals (s : State) : State :=
  { s with
    protection.proposals := []
    protection.stage := if s.protection.stage = .draining then .draining else .open
    protection.carried := false
    protection.ruleSession := none
    nsp.commit := .none }

/-- What an accepted message announces (Table 8-3); its jersey is heard (R222, R223). A module in FAULT whose partner has taken over
drops its proposals (R301). -/
def notePartner (p : PairPath) (m : PairMsg) (s : State) : State :=
  let md := partnerMode m s
  let s := hearJersey m.jersey { s with
    pair.partner.mode := md
    pair.partner.jersey := m.jersey
    pair.partner.sync := m.sync
    pair.partner.cycle := m.cycle
    pair.partner.left := s.pair.partner.left && m.mode == 4
    pair.declared := s.pair.declared && m.mode == 10
    front.partnerSlot := if p = .seam then some m.slot else s.front.partnerSlot }
  let s := match m.arg with
    | .heartbeat g i => { s with
        pair.partner.generation := g
        pair.partner.image := i }
    | _ => s
  let s := if s.modes.mode = .fault ∧ (m.mode = 5 ∨ m.mode = 6) then dropProposals s else s
  if s.modes.search.running then { s with modes.search.heard := (p, m.mode) :: s.modes.search.heard } else s

/-- The message confirms this module's HANDOVER (R225, R226). -/
def isConfirmation (m : PairMsg) (s : State) : Bool :=
  match s.pair.handover with
  | some h => s.modes.mode == .handover && m.jersey == h.nextJersey && (m.kind == 4 || m.mode == 5)
  | none => false

/-- A higher jersey in a message that announces ACTIVE, SOLO, HANDOVER or CHANGE supersedes an active module (R225). -/
def supersede (m : PairMsg) (s : State) : State :=
  if solving s.modes.mode && decide (5 ≤ m.mode ∧ m.mode ≤ 8) && decide (s.pair.jersey < m.jersey) && !isConfirmation m s then
    enterFault 0x1301 m.jersey.toNat s
  else s

/-- A highest-seen jersey that a station or door unit reports (R222, R225): the one named in NEXT_JERSEY is no supersession
during HANDOVER. -/
def reportedJersey (j : BitVec 32) (s : State) : State :=
  let s := hearJersey j s
  let named := match s.pair.handover with | some h => s.modes.mode == .handover && j == h.nextJersey | none => false
  if solving s.modes.mode && decide (s.pair.jersey < j) && !named then enterFault 0x1301 j.toNat s else s

/-! ### Synchronisation of the standby -/

/-- Words of a handover frame applied before its BOUNDARY are taken back (R227). -/
def restoreBefore (s : State) : State :=
  match s.pair.handoverBefore with
  | some (_, ws) => { s with
      solver.store := ws.foldl (fun st p => mapPut 0 p.1 p.2 st) s.solver.store
      pair.handoverBefore := none }
  | none => s

/-- The standby's history entry of a frame, with the blocks of it that arrived resent (R235). -/
def standbyHistory (f : WeftFrame) (result timing : Nat) (s : State) : State :=
  let tag : BitVec 16 := f.cycle.setWidth 16
  addHistory (historyOf f result timing (s.seam.rxResent.count tag))
    { s with seam.rxResent := s.seam.rxResent.filter (· != tag) }

/-- The standby becomes unsynchronised: its frames stay uncommitted, which the history shows with RESULT 5 (R215, R235). -/
def loseSync (s : State) : State :=
  if s.modes.mode = .standby ∧ s.pair.standby ≠ .unsynchronised then
    let s := restoreBefore s
    stopCommitting (s.pair.frames.foldl (fun s f => standbyHistory f 5 0 s) s)
  else s

/-- A frame of a cycle is in hand with its BOUNDARY, or committed (R215). -/
def holdsCycle (n : BitVec 40) (s : State) : Bool :=
  let done := match s.pair.checkpoint with | some c => decide ((c.cycle - n).toNat < 2 ^ 39) | none => false
  done || (match s.pair.committing with | some (f, _) => f.cycle == n | none => false) ||
    (s.pair.frames.any (fun f => f.cycle == n) && s.pair.boundaries.any fun b => b.1.cycle == n)

/-- A declaration (Table 8-6): the fault of the active module whose jersey the checkpoint carries. -/
def isDeclaration (m : PairMsg) (s : State) : Bool :=
  m.kind == 2 && match s.pair.checkpoint with | some c => c.jersey == m.jersey | none => false

/-- The message comes from the active module of this standby: it announces a mode with authority or its STOP, or declares the fault
that ended it (R215, R217). -/
def fromActive (m : PairMsg) (s : State) : Bool := decide (5 ≤ m.mode ∧ m.mode ≤ 9) || isDeclaration m s

/-- The checks of R215 against a message of the active module, also once frames of a resynchronisation are committed. -/
def checkSync (m : PairMsg) (s : State) : State :=
  let follows := s.pair.standby == .synchronised || s.pair.standby == .resynchronising && s.pair.resyncLines != 0
  if s.modes.mode = .standby ∧ follows = true ∧ fromActive m s = true then
    let gap := !holdsCycle (m.cycle - 1) s
    let differs := match m.arg, s.pair.checkpoint with
      | .heartbeat g i, some c => c.cycle == m.cycle && (g != c.generation || i != c.image)
      | _, _ => false
    if gap || differs then loseSync s else s
  else s

/-- STOP of the partner by command, as a heartbeat announces it (R69): at once where the frame that carries STOP cannot be
committed any more, because the seam path is lost or the frame has failed its CRC. -/
def partnerStops (m : PairMsg) (s : State) : State :=
  if s.modes.mode = .standby ∧ m.mode = 9 ∧ m.stopByCommand then
    let last := match s.pair.checkpoint with | some c => c.cycle == m.cycle | none => false
    let failed := s.pair.badFrame == some (m.cycle.setWidth 16)
    if s.pair.standby ≠ .synchronised ∨ s.pair.seamPath.up = false ∨ last = true ∨ failed = true then standbyStop 0x000D s else s
  else s

/-! ### Commit -/

/-- Sequence numbers of the targets continue from the records of a checkpoint (R224). -/
def keepSequences (l : List OutCommand) (s : State) : State :=
  l.foldl (fun s c =>
    if c.target < 2 ^ 14 then modStation c.target (fun x => { x with outSeq := c.seq }) s
    else modObject (c.target / 256 % 8) (c.target % 256) (fun o => { o with seq := c.seq }) s) s

/-- Word entries and resync records go into the data store (R214 step 1). -/
def writeFrame (f : WeftFrame) (s : State) : State :=
  let slices := f.slices.flatMap fun l => (rangeFrom (8 * l.1) l.2.length).zip l.2
  { s with solver.store := (f.words ++ slices).foldl (fun st p => mapPut 0 p.1 p.2 st) s.solver.store }

/-- The first-cycle masks of a switch or undo end with the first cycle of the new program (R188). -/
def endMasks (s : State) : State :=
  { s with
    change.maskEdges := []
    change.maskCounters := [] }

/-- A switch or undo on the standby: banks, then the rebuild by its own switch engine (R195). Its first-cycle masks stand until the
frame of the new program's first cycle is committed, for a takeover in between runs that cycle (R188, R196). -/
def standbyExchange (f : WeftFrame) (s : State) : State :=
  let s := rebuildRegion { exchangeProgram { s with cycle.counter := f.cycle } with cycle.counter := f.cycle + 1 }
  { s with
    cycle.counter := f.cycle
    modes.firstFlags := 0 }

/-- Online change flags of a committed frame (R195). The fallback of a switch is the mirror with the record of that frame (R194). -/
def commitChange (f : WeftFrame) (s : State) : State :=
  let s := if f.flags.getLsbD 0 then
      let old := s.solver.mirror
      let s := standbyExchange f (endMasks s)
      setChange .switched { s with
        change.fallback := some { old with newBase := none }
        change.timersRestarted := restartedBySwitch s
        change.switchedAt := s.network.time.now }
    else endMasks s
  let s := if f.flags.getLsbD 1 then { s with change.confirmDue := true } else s
  let s := if f.flags.getLsbD 2 then setChange .ready (standbyExchange f s) else s
  finishConfirm s

/-- A configuration or rule set that was received takes effect (R214, R305, R426). -/
def commitConfig (f : WeftFrame) (s : State) : State :=
  if f.flags.getLsbD 6 then
    let s := match s.pair.heldConfig with
      | some c => storeConfig { c with generation := f.generation } (applyConfig c.values s)
      | none => s
    let s := match s.pair.heldRules with
      | some r => { s with
          protection.active := r
          protection.shadow := r
          protection.epoch := s.protection.epoch + 1 }
      | none => s
    let lost := s.pair.heldConfig.isNone && s.pair.heldRules.isNone
    let s := { s with
      pair.heldConfig := none
      pair.heldRules := none
      nsp.generation := f.generation }
    if lost then loseSync s else s
  else { s with nsp.generation := f.generation }

/-- Resync records of a commit; after the last line a new mirror base is written (R230). -/
def commitSlices (f : WeftFrame) (s : State) : State :=
  if s.pair.standby = .resynchronising then
    let n := s.pair.resyncLines + f.slices.length
    let s := { s with pair.resyncLines := n }
    if resyncCount ≤ n ∧ s.pair.resyncBase = false then startBase f.cycle { s with pair.resyncBase := true } else s
  else s

/-- The frame becomes the checkpoint (R214). -/
def setCheckpoint (f : WeftFrame) (boundaryAt : Nat) (s : State) : State :=
  knowJersey f.jersey { s with
    cycle.counter := f.cycle
    pair.jersey := f.jersey
    solver.plan := f.plan
    pair.checkpoint := some
      { cycle := f.cycle, jersey := f.jersey, plan := f.plan, start := f.start, image := imageId s
        generation := s.nsp.generation, commands := f.commands, boundaryAt := boundaryAt } }

/-- The mirror engine takes the words of a frame (R214 step 3, R117). -/
def commitMirror (f : WeftFrame) (s : State) : State :=
  let r : MirrorRecord := { cycle := f.cycle, words := f.words.filter fun p => inMirror p.1, time := s.network.time.now }
  { s with solver.mirror := mirrorTake r s.solver.mirror }

/-- A commit completes (R214). -/
def commitFrame (f : WeftFrame) (boundaryAt : Nat) (s : State) : State :=
  let s := commitMirror f (writeFrame f s)
  let s := commitConfig f (commitChange f s)
  let s := commitSlices f (keepSequences f.commands s)
  let s := standbyHistory f 4 ((timeBase s - boundaryAt) / 10) (setCheckpoint f boundaryAt s)
  if f.flags.getLsbD 4 ∧ s.modes.mode = .standby then standbyStop 0x000D s else s

/-- The commit in progress completes (R214). -/
def completeCommit (s : State) : State :=
  match s.pair.committing with
  | some (f, t) => commitFrame f t { s with pair.committing := none }
  | none => s

/-- The frame that may be committed next: the one after the checkpoint; at the start of a resynchronisation the first with
RESYNC (R214, R230 step 3). -/
def nextFrame (s : State) : Option WeftFrame :=
  match s.pair.standby, s.pair.checkpoint with
  | .synchronised, some c => s.pair.frames.find? fun f => f.cycle == c.cycle + 1
  | .resynchronising, some c =>
    if s.pair.resyncAccepted = false then none
    else if s.pair.resyncLines = 0 then s.pair.frames.find? fun f => f.flags.getLsbD 7
    else s.pair.frames.find? fun f => f.cycle == c.cycle + 1
  | .resynchronising, none =>
    if s.pair.resyncAccepted then s.pair.frames.find? fun f => f.flags.getLsbD 7 else none
  | _, _ => none

/-- Before-images of the words that a frame writes (R227). -/
def beforeImages (f : WeftFrame) (s : State) : List (Nat × Word) := f.words.map fun p => (p.1, storeAt p.1 s)

/-- The standby applies a handover frame as soon as it holds it and frame H−1 is committed (R226 step 2, R227). -/
def applyHandover (s : State) : State :=
  match s.pair.committing, nextFrame s with
  | none, some f =>
    if f.flags.getLsbD 3 && s.pair.standby == .synchronised && s.pair.handoverBefore.isNone then
      writeFrame f { s with pair.handoverBefore := some (f.cycle, beforeImages f s) }
    else s
  | _, _ => s

/-! ### Becoming active -/

/-- Missed counts start at 0 on a module that becomes active by takeover or HANDOVER (R396). -/
def zeroMissed (s : State) : State :=
  { s with stations.stations := mapAll {} (fun _ x => { x with missed := 0 }) s.stations.stations }

/-- Receive objects take any SEQ after a takeover (R366). -/
def forgetDoorSeq (s : State) : State :=
  let chan (c : Channel) : Channel := { c with objects := mapAll {} (fun _ o => { o with seqValid := false }) c.objects }
  { s with doors.channels := mapAll {} (fun _ c => chan c) s.doors.channels }

/-- On a takeover onto a switched checkpoint the deadline restarts in full; behind a confirm boundary there is none (Table 7-4). -/
def restartDeadline (s : State) : State :=
  if s.change.state = .switched ∧ s.change.confirmDue = false then { s with change.switchedAt := s.network.time.now } else s

/-- A pair update that this module takes part in is aborted (R459). -/
def abortJoined (cause : Nat) (s : State) : State := leaveUpdate cause (abortUpdate cause s)

/-- Detection time in µs: from the send time of the last message on the later path (0x3000:0C). -/
def detectionUs (s : State) : Nat :=
  let last := max s.pair.seamPath.lastSend s.pair.netPath.lastSend
  (Int.ofNat (timeBase s) - last).toNat / 1000

/-- Time from detection to the first cycle, µs: at most 4 ms, otherwise open, so a free value below that bound (R219, assumption
log 140). -/
def takeoverDelay (s : State) : Nat × State :=
  let d := drawNat s
  (d.1 % 4001, d.2)

/-- The takeover (R196, R218): from the last committed checkpoint, with a risen jersey, in SOLO. Its first cycle starts when the time
that 0x3000:0D reports has passed since detection. -/
def takeover (t : Nat) (s : State) : State :=
  let s := completeCommit s
  match s.pair.checkpoint with
  | none => s
  | some c =>
    if s.modes.mode ≠ .standby then s
    else
      let s := restoreBefore s
      let d := takeoverDelay s
      let s := { d.2 with
        pair.takeovers := s.pair.takeovers + 1
        pair.detection := detectionUs s
        pair.takeoverTime := d.1
        solver.plan := c.plan
        modes.edgeFirst := false }
      let s := setMode .solo 0x0005 (takeJersey (c.jersey + 1) (leaveStandby s))
      let s := readyIfSolo (restartDeadline (freeLocks (dropProposals (forgetDoorSeq (zeroMissed s)))))
      let s := sendBoth 1 (.heartbeat s.nsp.generation (imageId s)) (abortJoined 3 s)
      startSolving (c.cycle + 1) 0x04 (some (convertStart c s)) (max t s.network.time.now + 1000 * d.1) s

/-- The pair update passes to the module that becomes active by its HANDOVER (R458). -/
def joinUpdate (s : State) : State :=
  if s.firmware.updateJoined then
    { s with
      firmware.updateJoined := false
      firmware.pairState := 5 }
  else s

/-- The standby becomes active by HANDOVER: frame H and its BOUNDARY are there (R226 step 4). -/
def becomeActive (f : WeftFrame) (boundaryAt t : Nat) (s : State) : State :=
  let s := if s.pair.handoverBefore.isNone then writeFrame f s else { s with pair.handoverBefore := none }
  let s := commitConfig f (commitMirror f (keepSequences f.commands s))
  let s := standbyHistory f 6 ((timeBase s - boundaryAt) / 10) (setCheckpoint f boundaryAt (endMasks s))
  let prev := s.pair.checkpoint.map fun c => convertStart c s
  let s := { leaveStandby s with
    modes.edgeFirst := false
    pair.partner.mode := some 4
    pair.partner.sync := true }
  let s := setMode .active 0x0008 (takeJersey f.nextJersey s)
  let s := joinUpdate (freeLocks (dropProposals (zeroMissed s)))
  let m := { pairMsg 4 .none s with cycle := f.cycle }
  startSolving (f.cycle + 1) 0x08 prev t (sendNetwork m (sendSeam m s))

/-- A frame with its BOUNDARY in hand is committed, or hands over authority (R214, R226). -/
def tryCommit (t : Nat) (s : State) : State :=
  if s.modes.mode ≠ .standby ∨ s.pair.committing.isSome then s
  else match nextFrame s with
    | none => s
    | some f =>
      match s.pair.boundaries.find? fun b => b.1.cycle == f.cycle with
      | none => s
      | some b =>
        let s := { s with
          pair.frames := s.pair.frames.filter fun x => x.cycle != f.cycle
          pair.boundaries := s.pair.boundaries.filter fun x => x.1.cycle != f.cycle }
        if f.flags.getLsbD 3 && s.pair.standby == .synchronised then becomeActive f b.2 t s
        else { s with pair.committing := some (f, b.2) }

/-! ### The handing module -/

/-- A frame of the handover cycle is still in a port's queues or on its line (R226 step 5). -/
def framesLeft (n : BitVec 40) (s : State) : Bool :=
  let is (f : TxFrame) : Bool := f.cycle == some n && f.station.isSome
  s.network.ports.any fun p =>
    p.2.bank0.any is || p.2.bank1.any is || p.2.queues.any (fun q => q.2.any is) ||
      (match p.2.line with | some f => is f | none => false)

/-- Own checkpoint of the handing module: the state at the end of cycle H, in its own time base (R226, R495). -/
def ownCheckpoint (s : State) : Checkpoint :=
  { cycle := s.cycle.counter, jersey := s.pair.jersey, plan := s.solver.plan, start := s.cycle.startTime, own := true
    image := imageId s, generation := s.nsp.generation
    commands := match s.pair.lastWeft with | some f => f.commands | none => []
    boundaryAt := timeBase s }

/-- Held host writes not applied by the end of cycle H are discarded (R226). -/
def discardAtHandover (s : State) : State :=
  let n := s.cycle.hostWrites.length
  if n = 0 then s
  else logOther .hostWritesDiscarded [n] { s with
    cycle.hostWrites := []
    pair.discardedHandover := satU32 (s.pair.discardedHandover + n) }

/-- What waited for the HANDOVER to end, on a module that is now in STANDBY (R50, R70, R71, R458). -/
def afterHandover (s : State) : State :=
  let stop := Trigger.stop ∈ s.modes.triggers
  let command := Trigger.handover .command ∈ s.modes.triggers
  let s := { s with modes.triggers := [] }
  let s := if command then commandResult 2 s else s
  let s := leverAfterWait s
  let s := if s.front.extraction = .preparing ∧ s.pair.standby = .synchronised then stopCommitting (sendBoth 3 .none s) else s
  if stop then commandResult 0 (standbyStop 0x000B s)
  else if s.firmware.pairState = 4 then
    beginRestart .firmware (sendBoth 3 .none { s with
      firmware.pairState := 5
      firmware.activating := true })
  else s

/-- The handing module enters STANDBY once it is confirmed, cycle H has ended and its frames have left (R226 step 5); its NSP sessions
end (R283). -/
def finishHandover (s : State) : State :=
  match s.modes.mode, s.pair.handover with
  | .handover, some h =>
    if h.confirmed && h.endedAt.isSome && !framesLeft h.cycle s then
      let c := ownCheckpoint s
      let s := releaseProgramControl (discardAtHandover s)
      let s := setMode .standby 0x0008 { clearMarks s with
        pair.handover := none
        pair.handovers := s.pair.handovers + 1
        pair.standby := .synchronised
        pair.checkpoint := some c
        pair.frames := []
        pair.boundaries := []
        solver.places := []
        cycle.phase := .idle }
      afterHandover (endSessions (dropProposals s))
    else s
  | _, _ => s

/-- The confirmation of a HANDOVER is accepted (R226 step 5). -/
def confirmHandover (m : PairMsg) (s : State) : State :=
  if isConfirmation m s then
    finishHandover { s with pair.handover := s.pair.handover.map fun h => { h with confirmed := true } }
  else s

/-! ### Pair update -/

/-- A pair update moves on with what the partner announces (Table 18-4). A partner that still reports itself synchronised has not
restarted yet. -/
def advanceUpdate (s : State) : State :=
  let here := s.pair.partner.mode == some 4
  let sync := standbySynchronised s
  let go (n : Nat) (s : State) : State := { s with firmware.pairState := n }
  match s.firmware.pairState with
  | 2 => if here && !sync then go 3 s else s
  | 3 => if sync then addTrigger (.handover .update) (go 4 s) else s
  | 5 => if here && !sync then go 6 s else s
  | 6 => if sync then go 7 s else s
  | _ => s

/-- The restarted partner of a pair update names another firmware revision in its HELLO than the one it was to run: it has fallen back
(R459). -/
def partnerFellBack (revision : BitVec 32) (s : State) : State :=
  let staged := (imageWith .staged s).map (·.revision)
  match s.firmware.pairState with
  | 2 | 3 => if staged = some revision then s else abortUpdate 2 s
  | 5 | 6 => if s.firmware.main.revision = revision then s else abortUpdate 2 s
  | _ => s

/-- The partner has gone: lost, leaving, in STOP or in FAULT (Table 3-5). -/
def partnerLost (s : State) : State :=
  match s.modes.mode with
  | .active => addTrigger .partnerGone s
  | _ => s

end Sys2Proof.Machine
end

