-- ==== Sys2Proof/Machine/Doors.lean ====
section
/-!
DEFINITION. The door buses: frames received and sent, expiry, fault confinement, the twin path, time master and schedule
matrix, service segments (14_door_buses.md R359–R380; 19_event_recorder.md R466).
-/
namespace Sys2Proof.Machine

/-! ### Fault confinement -/

/-- Error-active, error-passive or bus-off by the counters; a bus-off channel stays so until its recovery (R375). The limits
127 and 255 are PRESUMED from ISO 11898-1 (assumption log 27). -/
def stateByCounters (e : Entries) (k : Nat) (c : Channel) : Channel :=
  if onBus c then
    if 255 < c.tecCount then
      { c with
        state := if cfgProfile e k = 1 then 4 else 3
        busOffEntries := satU32 (c.busOffEntries + 1)
        sending := none }
    else { c with state := if 127 < c.tecCount ∨ 127 < c.recCount then 2 else 1 }
  else c

/-- Alarms of a channel that follow from its state (Table 14-15). -/
def channelAlarms (k : Nat) (s : State) : State :=
  let c := channel k s
  let s := if busOff c then raiseAlarm .doorBusOff k s else if onBus c then clearAlarm .doorBusOff k s else s
  let s := setAlarm .doorBusAlone k c.alone s
  let s := if 96 ≤ c.tecCount ∨ 96 ≤ c.recCount then raiseAlarm .doorBusWarning k s else s
  pairImpairedAlarm k s

/-- Something happens on channel `k`: its state, alarms, twin path and next messages follow (R375–R377). -/
def onChannel (k : Nat) (f : Channel → Channel) (s : State) : State :=
  let was := impaired k s
  let s := modChannel k (fun c => stateByCounters s.nsp.inForce k (f c)) s
  let s := channelAlarms k s
  let s := if impaired k s && !was then openTwin k s else s
  pumpDoor (twinOf k) (pumpDoor k s)

/-- The controller runs and takes part in the bus: channel in use, island 5 up, error-active or error-passive. -/
def busLive (k : Nat) (s : State) : Bool := islandUp 5 s && onBus (channel k s)

/-- REC after a frame received without error: one less, from above 127 a value of 119 to 127 that ISO 11898-1 leaves open
(assumption logs 2, 27). -/
def lowerRec (free n : Nat) : Nat := if 127 < n then 119 + free % 9 else n - 1

/-- A frame of another node has been received: counters, and the channel is no longer alone (R375, R376). -/
def hearNode (k : Nat) (s : State) : State :=
  let d := drawNat s
  onChannel k (fun c => { c with
    received := c.received + 1
    recCount := lowerRec d.1 c.recCount
    ackErrors := 0
    alone := false }) d.2

/-- CAN_RECEIVE_ERROR (R375): REC rises by one. -/
def execCanReceiveError (channel : Fin 8) (s : State) : Host.Outcome State Fault Refusal :=
  let k := channel.val
  if busLive k s then
    .next (onChannel k (fun c => { c with
      errorFrames := satU32 (c.errorFrames + 1)
      recCount := min 255 (c.recCount + 1) }) s)
  else .next s

/-- CAN_INTEGRATION (R359): a channel in use, with the timing of the stored configuration until LOAD has brought one into
force, leaves the off-bus state. -/
def execCanIntegration (channel : Fin 8) (s : State) : Host.Outcome State Fault Refusal :=
  let k := channel.val
  if islandUp 5 s = true ∧ channelUsed (pairConfig s) k = true ∧ (Machine.channel k s).state = 0 then
    .next (onChannel k (fun c => { c with state := 1, tecCount := 0, recCount := 0 }) s)
  else .next s

/-- A write of 1 to 0x7002:01 (R375): in STATE 4 the 128 occurrences start; elsewhere it is refused. -/
def recoverBus (k : Nat) (s : State) : State :=
  modChannel k (fun c => if c.state = 4 then { c with state := 3, recovery := 1 } else { c with recovery := 2 }) s

/-- BUS_OFF_RECOVERY (R375). -/
def execBusOffRecovery (channel : Fin 8) (value : BitVec 8) (s : State) : Host.Outcome State Fault Refusal :=
  .next (if value = 1 then recoverBus channel.val s else s)

/-- BUS_OFF_RECOVERY_DONE (R375). -/
def execBusOffRecoveryDone (channel : Fin 8) (s : State) : Host.Outcome State Fault Refusal :=
  let k := channel.val
  if (Machine.channel k s).state = 3 ∧ islandUp 5 s then
    .next (onChannel k (fun c => { c with state := 1, tecCount := 0, recCount := 0, recovery := 0 }) s)
  else .next s

/-- DOOR_BUS_WARNING_CLEAR (R380): both counters have stayed below 96 for 10 s. -/
def execDoorBusWarningClear (channel : Fin 8) (s : State) : Host.Outcome State Fault Refusal :=
  let c := Machine.channel channel.val s
  if c.tecCount < 96 ∧ c.recCount < 96 then .next (clearAlarm .doorBusWarning channel.val s) else .next s

/-- DOOR_RECEIVE_CHECKS_CLEAR (R380): 10 s without a rejection. -/
def execDoorReceiveChecksClear (channel : Fin 8) (s : State) : Host.Outcome State Fault Refusal :=
  .next (clearAlarm .doorReceiveChecks channel.val (modChannel channel.val (fun c => { c with rejectTimes := [] }) s))

/-! ### Receiving -/

/-- A frame on a reference or service identifier is not offered to objects (R361, R371, R378). -/
def reservedId (e : Entries) (k : Nat) (f : CanFrame) : Bool :=
  let n := f.id.toNat
  !f.ide && (decide (cfgReferenceBase e k ≤ n ∧ n < cfgReferenceBase e k + 8) ||
    decide (cfgServiceBase e ≤ n ∧ n < cfgServiceBase e + 4))

/-- The object takes a frame by format and identifier (R361); a remote frame matches none (R356). -/
def matchesObject (d : DoorDesc) (f : CanFrame) : Bool :=
  !f.remote && d.ide == f.ide && d.fdf == f.fdf && (d.id ^^^ f.id) &&& d.mask == 0

/-- The receive objects to which a frame on channel `k` is offered, in ascending object number: home channel, object,
descriptor. DEDUCED: at the same number the channel's own object comes first (assumption log 28). -/
def offeredObjects (e : Entries) (k : Nat) : List (Nat × Nat × DoorDesc) :=
  sortBy (fun x => x.2.1) ((receiveObjects e k).map (fun p => (k, p.1, p.2)) ++
    ((receiveObjects e (twinOf k)).filter fun p => p.2.twin).map fun p => (twinOf k, p.1, p.2))

/-- What the checks of R366 found: the step that failed, a duplicate, or the SEQ taken. -/
inductive DoorVerdict where
  | rejected
  | duplicate
  | complete
  deriving DecidableEq, Repr

/-- The checks of R366 in their order. `stamp` is the receive timestamp in the time base, `bound` the door bound in ns. -/
def checkDoor (d : DoorDesc) (x : DoorObject) (data : List Byte) (cmacOk : Bool) (stamp bound : Nat) : DoorVerdict :=
  if data.length ≠ frameLength d then .rejected
  else if d.envelope = false then .complete
  else if (byteAt 0 data).toNat / 16 ≠ 1 ∨ (byteAt 11 data).toNat ≠ d.length then .rejected
  else if cmacOk = false then .rejected
  else
    let q := BitVec.ofNat 16 (fieldLe 1 2 data)
    let step := if x.seqValid then (q - x.seq).toNat else 1
    let late : Int := - (BitVec.ofNat 32 (fieldLe 7 4 data) - BitVec.ofNat 32 stamp).toInt
    if step = 0 then .duplicate
    else if 32767 < step then .rejected
    else if -100000 ≤ late ∧ late ≤ Int.ofNat bound then .complete else .rejected

/-- A frame that fails a check is counted and reported (R366, Table 15-8); more than 16 within 1 s raise the alarm (Table
14-15). -/
def rejectDoor (k home : Nat) (d : DoorDesc) (s : State) : State :=
  let now := s.network.time.now
  let s := modChannel k (fun c => { c with
    rejected := satU32 (c.rejected + 1)
    rejectedCycle := c.rejectedCycle + 1
    rejectTimes := (c.rejectTimes.filter fun t => decide (now < t + 1000000000)) ++ [now] }) s
  let s := if 16 < (channel k s).rejectTimes.length then raiseAlarm .doorReceiveChecks k s else s
  report d.cls 0x07 k 1 (64 * home + d.unit) 2 s

/-- A door tap of the object's channel: a changed count reports one door cycle (R466). -/
def tapDoor (home o : Nat) (d : DoorDesc) (user : List Byte) (s : State) : State :=
  let e := s.nsp.inForce
  if cfgTapObject e home = o then
    let n := (byteAt (cfgTapCount e home) user).toNat
    if mapVal none home s.quilt.tapCounts = some n then s
    else
      let s := { s with quilt.tapCounts := mapPut none home (some n) s.quilt.tapCounts }
      let v := fieldLe (cfgTapDuration e home) 2 user
      let s := if v = 0 then s else sample 6 home 0 20 true false v s
      sample 7 (64 * home + d.unit) 0 0 false true (fieldLe (cfgTapCurrent e home) 2 user) s
  else s

/-- A frame becomes complete: the object's latest message, the open window of the matrix, the unit's jersey, the tap (R364,
R366, R374, R466). A message without an envelope carries no SEQ; the object counts them (assumption log 28). -/
def takeDoor (k home o : Nat) (d : DoorDesc) (data : List Byte) (stamp : Nat) (s : State) : State :=
  let user := if d.envelope then slice 12 d.length data else data.take d.length
  let seq := if d.envelope then BitVec.ofNat 16 (fieldLe 1 2 data) else (doorObject home o s).seq + 1
  let s := modObject home o (fun x => { x with
    latest := some { data := user, seq := seq, stamp := stamp, twin := k != home }
    seq := seq
    seqValid := true }) s
  let s := modChannel k (fun c => { c with
    time.window := match c.time.window with
      | some (w, b) => some (w, b || (w == o && k == home))
      | none => none }) s
  let s := tapDoor home o d user s
  if d.envelope then
    let j := BitVec.ofNat 32 (fieldLe 3 4 data)
    reportedJersey j { s with doors.unitJersey := mapPut 0 (64 * home + d.unit) j s.doors.unitJersey }
  else s

/-- A frame is offered to the objects of its channel (R361, R366). -/
def offerFrame (k : Nat) (f : CanFrame) (cmacOk : Bool) (t : Nat) (s : State) : State :=
  let e := s.nsp.inForce
  let stamp := timeAt s t
  match (offeredObjects e k).find? fun x => matchesObject x.2.2 f with
  | none =>
    report 3 0x08 k 2 (slotNumber s) 0 (modChannel k (fun c => { c with unmatched := satU32 (c.unmatched + 1) }) s)
  | some (home, o, d) =>
    match checkDoor d (doorObject home o s) f.data cmacOk stamp (1000 * cfgDoorBound e k) with
    | .rejected => rejectDoor k home d s
    | .duplicate => modChannel k (fun c => { c with duplicates := satU32 (c.duplicates + 1) }) s
    | .complete => takeDoor k home o d f.data stamp s

/-- CAN_FRAME_RECEIVED (R361, R364–R366). -/
def execCanFrameReceived (channel : Fin 8) (f : CanFrame) (cmacOk : Bool) (t : Nat) (s : State) :
    Host.Outcome State Fault Refusal :=
  let s := atTime t s
  let k := channel.val
  if busLive k s then
    let s := hearNode k s
    if reservedId s.nsp.inForce k f then .next s else .next (through 8 (offerFrame k f cmacOk t) s)
  else .next s

/-! ### Sending -/

/-- DOOR_LAUNCH (R368): the lowest identifier pending is offered for arbitration. -/
def execDoorLaunch (channel : Fin 8) (t : Nat) (s : State) : Host.Outcome State Fault Refusal :=
  let s := atTime t s
  if islandUp 5 s then .next (pumpDoor channel.val s) else .next s

/-- The same copy of the same message. -/
def sameMessage (m x : DoorMsg) : Bool := x.home == m.home && x.object == m.object && x.seq == m.seq && x.twin == m.twin

/-- A copy leaves its queue: acknowledged on the channel that sent it (R377). -/
def leaveQueue (k : Nat) (m : DoorMsg) (s : State) : State :=
  modChannel k (fun c => { c with
    queue := c.queue.filter fun x => !sameMessage m x
    twinQueue := c.twinQueue.filter fun x => !sameMessage m x }) s

/-- RESULT of an acknowledged message (R377, Table 14-9): 1 the home copy, 2 the twin copy alone. -/
def noteAck (m : DoorMsg) (s : State) : State :=
  let s := modObject m.home m.object (fun x => { x with
    result := if m.twin then (if x.acked = some m.seq then x.result else 2) else 1
    acked := some m.seq }) s
  if m.twin then modChannel m.home (fun c => { c with twinSent := satU32 (c.twinSent + 1) }) s else s

/-- A frame with a data phase of its own has let the channel measure its transmitter delay (R358, 0x7001:13): a free value of 0 to 127
minimum time quanta (assumption log 89). -/
def measureDelay (k : Nat) (m : DoorMsg) (s : State) : State :=
  let d := doorDesc s.nsp.inForce m.home m.object
  if d.fdf && d.brs && (cfgDataTiming s.nsp.inForce k).testBit 31 then
    let n := drawNat s
    modChannel k (fun c => { c with txDelay := n.1 % 128 }) n.2
  else s

/-- DOOR_MESSAGE_ACKNOWLEDGED (R368, R375–R377): TEC falls by one, the channel is no longer alone, the next message starts. -/
def execDoorMessageAcknowledged (channel : Fin 8) (t : Nat) (s : State) : Host.Outcome State Fault Refusal :=
  let s := atTime t s
  let k := channel.val
  match (Machine.channel k s).sending with
  | some m =>
    if busLive k s then
      .next (onChannel k (fun c => { c with
        sending := none
        sent := c.sent + 1
        tecCount := c.tecCount - 1
        ackErrors := 0
        alone := false }) (noteAck m (leaveQueue k m (measureDelay k m s))))
    else .next s
  | none => .next s

/-- Counters of a transmission that ends in error: TEC rises by 8, but not at an acknowledgement error of an error-passive
transmitter; sixteen acknowledgement errors in a row leave the channel alone, except in restricted operation (R375, R376). The
amount is PRESUMED from ISO 11898-1 (assumption log 27). -/
def failTransmit (ackError restricted : Bool) (c : Channel) : Channel :=
  let n := if ackError then min 16 (c.ackErrors + 1) else 0
  { c with
    errorFrames := satU32 (c.errorFrames + 1)
    tecCount := if ackError && c.state == 2 then c.tecCount else c.tecCount + 8
    ackErrors := n
    alone := c.alone || (n == 16 && !restricted)
    sending := none }

/-- DOOR_TRANSMIT_ERROR (R375–R377): the message stays queued and is offered again; one of an exclusive window is not, and
counts as a missed window (R374). -/
def execDoorTransmitError (channel : Fin 8) (ackError : Bool) (t : Nat) (s : State) : Host.Outcome State Fault Refusal :=
  let s := atTime t s
  let k := channel.val
  if busLive k s then
    let e := s.nsp.inForce
    let exclusive := match (Machine.channel k s).sending with
      | some m => cfgChannelMode e k == 2 && decide (m.object ∈ exclusiveObjects e k)
      | none => false
    let s := if exclusive then modChannel k (fun c => { c with missedWindows := satU32 (c.missedWindows + 1) }) s else s
    .next (onChannel k (failTransmit ackError (!doorSends s)) s)
  else .next s

/-- The queued message of an object, its home copy first (R369). -/
def queuedMessage (k o : Nat) (s : State) : Option DoorMsg :=
  match (channel k s).queue.find? fun m => m.object == o with
  | some m => some m
  | none => (channel (twinOf k) s).twinQueue.find? fun m => m.home == k && m.object == o

/-- DOOR_MESSAGE_EXPIRY (R369): the message leaves every queue; it counts as expired unless it was sent on either channel. -/
def execDoorMessageExpiry (channel : Fin 8) (object : Fin 256) (t : Nat) (s : State) : Host.Outcome State Fault Refusal :=
  let s := atTime t s
  let k := channel.val
  let o := object.val
  match queuedMessage k o s with
  | some m => match m.expiry with
    | some x =>
      if x ≤ timeBase s then
        let d := (dropMessages k o s).1
        if (doorObject k o s).acked = some m.seq then .next d
        else .next (modChannel k (fun c => { c with
            expired := satU32 (c.expired + 1)
            expiredCycle := c.expiredCycle + 1 }) (modObject k o (fun y => { y with result := 3 }) d))
      else .next s
    | none => .next s
  | none => .next s

/-! ### Time master and schedule matrix -/

/-- The receive window that ends has had no complete message (R374). -/
def closeDoorWindow (c : Channel) : Channel :=
  { c with
    missedWindows := match c.time.window with
      | some (_, false) => satU32 (c.missedWindows + 1)
      | _ => c.missedWindows
    time.window := none }

/-- A basic cycle begins at a reference mark (R370, R371): the master that sent it, a change of master counted. -/
def beginBasicCycle (master priority count t : Nat) (c : Channel) : Channel :=
  let c := closeDoorWindow c
  let same := c.time.master = master ∧ c.time.priority = some priority
  { c with
    time.master := master
    time.priority := some priority
    time.changes := if same then c.time.changes else satU32 (c.time.changes + 1)
    time.cycleCount := count
    time.refAt := t
    time.column := 0 }

/-- The module is a potential time master of the channel (R372). -/
def potentialMaster (k : Nat) (s : State) : Bool := cfgMasterRole s.nsp.inForce k == 1 && solving s.modes.mode

/-- Under the master procedure the module sends the reference message of this basic cycle: it is master, none is heard, or the
master heard has a lower priority (R372). -/
def takesMastership (k : Nat) (s : State) : Bool :=
  let m := (channel k s).time
  potentialMaster k s && (m.master != 2 || match m.priority with
    | some p => decide (cfgMasterPriority s.nsp.inForce k < p)
    | none => true)

/-- Data of a reference message (Table 14-11): one byte at level 1, eight at level 2. -/
def referenceData (level count : Nat) (disc : Bool) (now : Nat) : List Byte :=
  let cycle := leBytes 1 count
  if level = 1 then cycle
  else cycle ++ leBytes 1 disc.toNat ++ leBytes 2 (now / 1000 % 65536) ++ leBytes 4 (now % 2 ^ 32)

/-- REFERENCE_MESSAGE_SEND (R371, R372): Disc_Bit in the first one after the module has become master. -/
def execReferenceMessageSend (channel : Fin 8) (t : Nat) (s : State) : Host.Outcome State Fault Refusal :=
  let s := atTime t s
  let k := channel.val
  let e := s.nsp.inForce
  if busLive k s && takesMastership k s then
    let m := (Machine.channel k s).time
    let disc := m.master != 1
    let count := (if m.priority.isNone then 0 else m.cycleCount + 1) % (cfgCycleCountMax e k + 1)
    let data := referenceData (cfgLevel e k) count disc (timeBase s)
    let s := onChannel k (fun c => { beginBasicCycle 1 (cfgMasterPriority e k) count t c with
      sent := c.sent + 1, time.sentData := data }) s
    .next (clearAlarm .doorTimeMasterLost k s)
  else .next s

/-- REFERENCE_MESSAGE (R370–R372): a master of lower priority than the module's own does not end its mastership. -/
def execReferenceMessage (channel : Fin 8) (priority : Fin 8) (cycleCount : Fin 64) (t : Nat) (s : State) :
    Host.Outcome State Fault Refusal :=
  let s := atTime t s
  let k := channel.val
  let e := s.nsp.inForce
  if busLive k s then
    let s := hearNode k s
    if cfgCycleCountMax e k < cycleCount.val then .next s
    else
      let s := clearAlarm .doorTimeMasterLost k s
      let own := (Machine.channel k s).time.master = 1 ∧ potentialMaster k s = true ∧ cfgMasterPriority e k < priority.val
      if own then .next s
      else .next (onChannel k (beginBasicCycle 2 priority.val cycleCount.val t) s)
  else .next s

/-- The exclusive window of a transmit object (R374): its latest queued message is sent once; with the bus taken the window is
missed. -/
def openExclusive (k o : Nat) (s : State) : State :=
  match (channel k s).queue.find? fun m => m.object == o && doorReady s m with
  | some m =>
    if solving s.modes.mode = true ∧ onBus (channel k s) = true then
      modChannel k (fun c => if c.sending.isNone then { c with sending := some m }
        else { c with missedWindows := satU32 (c.missedWindows + 1) }) s
    else s
  | none => s

/-- COLUMN_MARK (R373, R374): a column that has no mark is not in use. -/
def execColumnMark (channel : Fin 8) (column : Fin 32) (t : Nat) (s : State) : Host.Outcome State Fault Refusal :=
  let s := atTime t s
  let k := channel.val
  let j := column.val
  let e := s.nsp.inForce
  if islandUp 5 s = true ∧ cfgChannelMode e k = 2 ∧ (j = 0 ∨ columnMark e k j ≠ 0) then
    let s := modChannel k (fun c => { closeDoorWindow c with time.column := j }) s
    let cell := matrixCell e k (Machine.channel k s).time.cycleCount j
    if cell.1 = 1 ∧ j ≠ 0 then
      if (doorDesc e k cell.2).dir = 1 then .next (modChannel k (fun c => { c with time.window := some (cell.2, false) }) s)
      else .next (openExclusive k cell.2 s)
    else .next (pumpDoor k s)
  else .next s

/-- The channel runs on reference messages: schedule matrix, or the module may be its time master (R372, R374; DEDUCED, assumption log
154). -/
def timeChannel (e : Entries) (k : Nat) : Bool := cfgChannelMode e k == 2 || (channelUsed e k && cfgMasterRole e k == 1)

/-- TIME_MASTER_LOST (R374): no valid reference message for two basic cycle lengths; no master is heard. -/
def execTimeMasterLost (channel : Fin 8) (s : State) : Host.Outcome State Fault Refusal :=
  let k := channel.val
  let own := (Machine.channel k s).time.master = 1 ∧ potentialMaster k s = true
  if timeChannel s.nsp.inForce k = false ∨ own then .next s
  else .next (raiseAlarm .doorTimeMasterLost k (modChannel k (fun c => { c with time.master := 0, time.priority := none }) s))

/-! ### Service segments -/

/-- SERVICE_SEGMENT (R378): the segments of one request, in order; the last one hands it to the service engine. -/
def execServiceSegment (channel : Fin 8) (data : List Byte) (t : Nat) (s : State) : Host.Outcome State Fault Refusal :=
  let s := atTime t s
  let k := channel.val
  if busLive k s then
    let s := hearNode k s
    let s := { s with doors.serviceFrames := satU32 (s.doors.serviceFrames + 1) }
    let h := (byteAt 0 data).toNat
    let count := h % 64
    let body := slice 1 63 data
    let got : Option (List Byte) :=
      if 128 ≤ h then (if count = 0 then some body else none)
      else match (Machine.channel k s).service with
        | some p => if p.next = count then some (p.data ++ body) else none
        | none => none
    match got with
    | none => .next (modChannel k (fun c => { c with service := none }) s)
    | some b =>
      if h / 64 % 2 = 1 then
        .next (through 8 (fun s => { s with doors.handed := s.doors.handed ++ [(k, b)] })
          (modChannel k (fun c => { c with service := none }) s))
      else .next (modChannel k (fun c => { c with service := some { data := b, next := (count + 1) % 64 } }) s)
  else .next s

/-- SERVICE_REASSEMBLY_TIMEOUT (R378). -/
def execServiceReassemblyTimeout (channel : Fin 8) (s : State) : Host.Outcome State Fault Refusal :=
  .next (modChannel channel.val (fun c => { c with service := none }) s)

end Sys2Proof.Machine
end

