-- ==== Sys2Proof/Machine/Firmware.lean ====
section
/-!
DEFINITION. The commands of firmware and pair update (18_firmware_update.md R449–R460).
-/
namespace Sys2Proof.Machine

/-! ### Staging -/

/-- Header fields of an image (Table 18-2). -/
def parseHeader (l : List Byte) : FwHeader :=
  { identity := BitVec.ofNat 32 (fieldLe 64 4 l), archRev := fieldLe 6 2 l, revision := BitVec.ofNat 32 (fieldLe 8 4 l)
    security := fieldLe 12 4 l, isaRev := fieldLe 18 2 l, costRev := fieldLe 20 2 l, weftLo := fieldLe 22 2 l
    weftHi := fieldLe 24 2 l, cfgLo := fieldLe 26 2 l, cfgHi := fieldLe 28 2 l, cfgOwn := fieldLe 30 2 l, bytes := l }

/-- Check 1 of Table 18-3: magic, header version, zero fields, length. -/
def badForm (l : List Byte) : Bool :=
  decide (l.take 5 ≠ [0x53, 0x4C, 0x46, 0x57, 0x01]) || (slice 37 27 l).any (· != 0) ||
    decide (l.length ≠ 160 + fieldLe 32 4 l) || decide (l.length < 161)

/-- Format of the stored configuration (R457). -/
def storedFormat (s : State) : Nat := match storedCopy s with | some c => c.format | none => s.firmware.main.cfgOwn

/-- The first staging check of Table 18-3 that fails; 0 none. The verdicts of signature, hash and flash come from outside. -/
def stagingVerdict (l : List Byte) (signatureOk hashOk flashOk : Bool) (s : State) : Nat :=
  let h := parseHeader l
  let revision := Config.hardwareRevision
  if badForm l then 1
  else if byteAt 5 l ≠ 0x60 ∨ h.archRev ≠ Config.architectureRevision.toNat then 2
  else if revision < byteAt 16 l ∨ byteAt 17 l < revision then 3
  else if signatureOk = false ∨ 1 < byteAt 36 l then 4
  else if hashOk = false then 5
  else if h.security < s.firmware.minSecurity then 6
  else if s.firmware.main.weftHi < h.weftLo ∨ h.weftHi < s.firmware.main.weftLo then 7
  else if storedFormat s < h.cfgLo ∨ h.cfgHi < storedFormat s then 8
  else if flashOk = false then 9
  else 0

/-- Staging is accepted: from LOAD on and in PROVISION, not in DECOMMISSIONED (R450). -/
def stagingMode (s : State) : Bool :=
  s.protection.lifecycle != .decommissioned &&
    !(s.modes.mode == .off || s.modes.mode == .kickstand || s.modes.mode == .selftest)

/-- A segment of a firmware image (R436, R450): the state after it, with its NSP status. -/
def writeFirmware (n offset total : Nat) (data : List Byte) (last : Bool) (s : State) : State × Nat :=
  let mine := s.firmware.staging = 1 ∧ s.firmware.bySession = some n
  if mine then
    if total < offset + data.length ∨ (last = true ∧ offset + data.length ≠ total) then (abandonStaging n s, 0x0E)
    else if offset ≠ s.firmware.received.length ∨ total ≠ s.firmware.total then (abandonStaging n s, 0x10)
    else ({ s with
      firmware.received := s.firmware.received ++ data
      firmware.staging := if last then 2 else 1 }, 0x00)
  else if stagingMode s = false then (s, 0x06)
  else if s.firmware.trial then (updateResult 4 s, 0x0D)
  else if s.firmware.staging = 1 ∨ s.firmware.staging = 2 ∨ (session n s).transfer.isSome then (s, 0x07)
  else if 67108864 < total then (s, 0x05)
  else if total < offset + data.length ∨ (last = true ∧ offset + data.length ≠ total) then (s, 0x0E)
  else if offset ≠ 0 then (s, 0x10)
  else ({ beginStaging total (some n) s with
    firmware.received := data
    firmware.staging := if last then 2 else 1 }, 0x00)

/-- FIRMWARE_IMAGE_WRITE (R450). -/
def execFirmwareImageWrite (session : Fin 16) (offset total : Nat) (data : List Byte) (last : Bool) (s : State) :
    Host.Outcome State Fault Refusal := .next (writeFirmware session.val offset total data last s).1

/-- STAGING_CHECK_DONE (R450, R458): the checks of Table 18-3 end; slot Y of a pair update reports its result to slot X, and restarts
when it has staged the forwarded image. -/
def execStagingCheckDone (signatureOk hashOk flashOk : Bool) (s : State) : Host.Outcome State Fault Refusal :=
  if s.firmware.staging = 2 then
    let l := s.firmware.received
    let r := stagingVerdict l signatureOk (hashOk && !imageLost s) flashOk s
    let forwarded := s.firmware.bySession.isNone
    let s := endStaging r (parseHeader l) s
    .next (if forwarded then answerForwarded r s else s)
  else .next s

/-- DISCARD_STAGED (R460): the state after a write to 0xB000:04, with its NSP status. -/
def discardStagedImage (value : Nat) (s : State) : State × Nat :=
  if updateRuns s then (s, 0x06)
  else if value = 1 then
    (match slotWith .staged s with | some k => setBolt k {} s | none => s, 0x00)
  else (s, 0x05)

/-- DISCARD_STAGED. -/
def execDiscardStaged (value : BitVec 8) (s : State) : Host.Outcome State Fault Refusal :=
  .next (discardStagedImage value.toNat s).1

/-! ### Commands -/

/-- A write of 1 to 0xB001:05 (R456); after a pair update the active module passes an accepted one to its standby. -/
def commandConfirm (s : State) : State :=
  let taken := mayConfirm s
  let s := confirmHere s
  if taken ∧ s.firmware.pairState = 7 ∧ solving s.modes.mode = true ∧ s.pair.partner.mode = some 4 then
    pumpSeam { s with seam.serviceTx := s.seam.serviceTx ++ [.firmwareConfirm] }
  else s

/-- FIRMWARE_CONFIRM (R456). -/
def execFirmwareConfirm (value : BitVec 8) (s : State) : Host.Outcome State Fault Refusal :=
  if value = 1 then .next (commandConfirm s) else .next s

/-- Activate (R452): in the modes that accept a restart, with a slot STAGED and not in trial (R454). -/
def commandActivate (s : State) : State :=
  if acceptsRestart s = false then updateResult 2 s
  else if s.firmware.trial then updateResult 4 s
  else if (slotWith .staged s).isNone then updateResult 3 s
  else if s.modes.restartPending then updateResult 2 s
  else beginRestart .firmware (updateResult 1 { s with firmware.activating := true })

/-- Revert (R455): a module in trial restarts and falls back. -/
def commandRevert (s : State) : State :=
  if acceptsRestart s = false then updateResult 2 s
  else if s.firmware.trial = false then updateResult 4 s
  else if s.modes.restartPending then updateResult 2 s
  else beginRestart .firmware (updateResult 1 { s with firmware.revertPending := true })

/-- The staged image has the revisions of the running program (R458). -/
def revisionsFit (s : State) : Bool :=
  match imageWith .staged s, activeImage s with
  | some h, some i => h.isaRev == i.isaRev && h.costRev == i.costRev
  | _, _ => false

/-- Change states 5 to 8 (R458). -/
def changePending (s : State) : Bool := decide (5 ≤ changeCode s.change.state ∧ changeCode s.change.state ≤ 8)

/-- Pair update (R458): the sequence starts with the staged image on its way to the partner. -/
def commandPairUpdate (s : State) : State :=
  if updateRuns s then updateResult 2 s
  else if s.modes.mode ≠ .active ∨ standbySynchronised s = false then updateResult 5 s
  else match imageWith .staged s with
    | none => updateResult 3 s
    | some h =>
      if s.firmware.trial then updateResult 3 s
      else if revisionsFit s = false then updateResult 6 s
      else if s.nsp.commit ≠ .none ∨ changePending s then updateResult 7 s
      else pumpSeam { updateResult 0 s with
        firmware.pairState := 1
        firmware.abortCause := 0
        seam.serviceTx := s.seam.serviceTx ++ [.firmware h.bytes] }

/-- NSP status of an update command by its result (R442, R460). -/
def updateStatus (s : State) : Nat :=
  match s.firmware.result with
  | 0 | 1 => 0x00
  | 2 => 0x06
  | 5 => 0x0C
  | _ => 0x0D

/-- PAIR_UPDATE_STATE_TIMEOUT (R459). -/
def execPairUpdateStateTimeout (s : State) : Host.Outcome State Fault Refusal := .next (abortUpdate 7 s)

/-- PARTNER_STAGING_RESULT (R458, R459). -/
def execPartnerStagingResult (result : Fin 12) (s : State) : Host.Outcome State Fault Refusal :=
  .next (partnerStaged result.val s)

end Sys2Proof.Machine
end

