-- ==== Sys2Proof/Machine/Hub.lean ====
section
/-!
DEFINITION. Meanings of the hub's commands: accesses, arbiters, DMA chains, locks, register writes
(10_hub_memory_and_ordering.md R263–R284; 11_protection_and_lifecycle.md R290–R297, R307).
-/
namespace Sys2Proof.Machine

/-! ### DMA engines -/

/-- DMA engine `e`, 0 to 11. -/
def dmaEngine (e : Nat) (s : State) : Dma := mapVal {} e s.hub.dma

/-- DMA engine changed by `f`. -/
def modDma (e : Nat) (f : Dma → Dma) (s : State) : State := { s with hub.dma := mapMod {} e f s.hub.dma }

/-- A DMA descriptor (Table 10-12). -/
structure DmaDescriptor where
  /-- SOURCE. -/
  source : Nat
  /-- DEST. -/
  dest : Nat
  /-- LENGTH. -/
  length : Nat
  /-- FLAGS: FENCE, ACQUIRE, WAIT, RELEASE, LAST from bit 0. -/
  flags : BitVec 8
  /-- LOCK. -/
  lock : Nat
  /-- WAIT_LIMIT. -/
  limit : Nat
  /-- NEXT. -/
  next : Nat
  deriving DecidableEq, Repr

/-- A descriptor from its 32 bytes (Table 10-12). -/
def parseDma (l : List Byte) : DmaDescriptor :=
  { source := fieldLe 0 5 l % 2 ^ 36, dest := fieldLe 5 5 l % 2 ^ 36, length := fieldLe 10 4 l, flags := byteAt 14 l
    lock := fieldLe 15 1 l, limit := fieldLe 16 2 l, next := fieldLe 20 5 l % 2 ^ 36 }

/-- A descriptor lies 32-byte aligned in SRAM or DRAM (R277). -/
def descriptorPlace (a : Nat) : Bool := a % 32 == 0 && (targetOf a == .sram || targetOf a == .dram)

/-- The descriptor at an address. -/
def descriptorAt (a : Nat) (s : State) : DmaDescriptor :=
  parseDma (readCells a 32 (if targetOf a = .sram then s.hub.sram else s.hub.dram))

/-- The descriptor that an engine runs. -/
def descriptorOf (e : Nat) (s : State) : DmaDescriptor := descriptorAt (dmaEngine e s).current s

/-- Bytes written by an engine into its descriptor (R277); nothing on a DRAM channel out of service (R261). -/
def writeDescriptor (a : Nat) (data : List Byte) (s : State) : State :=
  if targetOf a = .sram then { s with hub.sram := writeCells a data s.hub.sram }
  else if dramDown a data.length s then s
  else { s with hub.dram := writeCells a data s.hub.dram }

/-- Bytes of one access to a target. -/
def accessWidth (a : Nat) : Nat :=
  match targetOf a with
  | .dataStore | .hubRegister | .islandRegister => 4
  | .program _ => 8
  | _ => 20

/-- Bytes that one burst moves: a line, or what the narrower end accepts. -/
def burstBytes (d : DmaDescriptor) (pos : Nat) : Nat :=
  let w := if accessWidth d.source = 8 ∨ accessWidth d.dest = 8 then 8
    else min (accessWidth d.source) (accessWidth d.dest)
  min (d.length - pos) w

/-- One end of a burst as accesses that its target accepts. -/
def burstPieces (a n : Nat) : List (Nat × Nat) :=
  if n = 8 ∧ accessWidth a = 4 then [(a, 4), (a + 4, 4)] else [(a, n)]

/-- The engine reads one burst; the first status that is not 0 stands. -/
def readBurst (e a n : Nat) (s : State) : State × List Byte × Nat :=
  (burstPieces a n).foldl (fun p x =>
    if p.2.2 ≠ 0 then p
    else
      let r := hubAccess (0x40 + e) false false x.1 x.2 [] 0 p.1
      (r.1, p.2.1 ++ r.2.1, r.2.2)) (s, [], 0)

/-- The engine writes one burst. -/
def writeBurst (e : Nat) (b : Burst) (s : State) : State × Nat :=
  (burstPieces b.address b.data.length).foldl (fun p x =>
    if p.2 ≠ 0 then p
    else
      let r := hubAccess (0x40 + e) true true x.1 x.2 (slice (x.1 - b.address) x.2 b.data) 0 p.1
      (r.1, r.2.2)) (s, 0)

/-! ### Ends of descriptors and chains -/

/-- The running descriptor as one that has begun. -/
def currentBegun (x : Dma) : BegunDescriptor := { address := x.current, moved := x.moved, lock := x.lockHeld }

/-- A begun descriptor ends with a status: STATUS and DONE are written and it is counted (R276, R277, Table 10-13). -/
def writeStatus (e : Nat) (b : BegunDescriptor) (status : Nat) (s : State) : State :=
  let s := if descriptorPlace b.address then
      writeDescriptor (b.address + 28) (leBytes 4 b.moved) (writeDescriptor (b.address + 25) (leBytes 1 status) s)
    else s
  modDma e (fun d => { d with
    status := status
    done := if status < 0x10 then satU32 (d.done + 1) else d.done
    failed := if status < 0x10 then d.failed else satU32 (d.failed + 1) }) s

/-- The chain ends: nothing waits in the engine any more, and its releases that waited for its writes take effect. -/
def stopChain (e : Nat) (s : State) : State :=
  settleReleases (0x40 + e) (modDma e (fun d => { d with
    running := false
    starting := false
    behind := []
    ending := none
    waitingLock := false
    lockHeld := none
    buffer := []
    posted := 0
    moved := 0 }) s)

/-- The chain ends with a status of its running descriptor. -/
def endChain (e status : Nat) (s : State) : State :=
  stopChain e (writeStatus e (currentBegun (dmaEngine e s)) status s)

/-- The NSP DOMAIN transfer of a USER chain fails (R295): its next segment is answered 0x09, and so is a reply that waits. -/
def failTransfer (e : Nat) (s : State) : State :=
  match (dmaEngine e s).session with
  | none => s
  | some n =>
    let staging := s.firmware.staging = 1 ∧ s.firmware.bySession = some n
    let s := modSession n (fun x => { x with violated := x.transfer.isSome || !x.snapshots.isEmpty || decide staging }) s
    ((session n s).deferred.map fun d => (d.2.index.toNat, d.2.sub.toNat)).foldl (fun s k => completeReply n k.1 k.2 0x09 s) s

/-- A buffered write was not permitted: every descriptor of the chain without a status receives 0x11 (R296, Table 11-8). -/
def failChain (e status : Nat) (s : State) : State :=
  let x := dmaEngine e s
  stopChain e ((x.behind ++ [currentBegun x]).foldl (fun s b => writeStatus e b status s) (failTransfer e s))

/-- The running descriptor fails: it ends when the lines of the write buffer have drained (R276). -/
def failDescriptor (e status : Nat) (s : State) : State :=
  let s := if status = 0x11 then failTransfer e s else s
  if (dmaEngine e s).buffer.isEmpty then endChain e status s else modDma e (fun d => { d with ending := some status }) s

/-- Status of a descriptor whose acquisition was not granted (Table 10-13, Table 10-15). -/
def lockStatus (r : Nat) : Nat := 0x10 + r

/-- A descriptor starts: with ACQUIRE it takes or waits for its lock (R277); one that lies elsewhere than in SRAM or DRAM, or
unaligned, is a decode error, and one on a DRAM channel out of service is uncorrectable (R261). -/
def startDescriptor (e : Nat) (s : State) : State :=
  let a := (dmaEngine e s).current
  let s := modDma e (fun x => { x with starting := false }) s
  if descriptorPlace a = false then failDescriptor e 0x10 (decodeError (0x40 + e) s)
  else if dramDown a 32 s then failDescriptor e 0x12 s
  else
    let d := descriptorOf e s
    if d.flags.getLsbD 1 then
      let wait := d.flags.getLsbD 2 && decide (d.limit ≠ 0)
      let s := acquireLock (0x40 + e) d.lock wait (modDma e (fun x => { x with waitingLock := true }) s)
      if (dmaEngine e s).waitingLock ∧ waitsForLock (0x40 + e) s = false then
        failDescriptor e (lockStatus (mapVal 0 (0x40 + e) s.hub.lockResults)) s
      else s
    else s

/-- Chains whose head has been written start with their first descriptor (R277). -/
def startChains (s : State) : State :=
  (rangeFrom 0 12).foldl (fun s e => if (dmaEngine e s).starting then startDescriptor e s else s) s

/-- The lock in LOCK is released after the transfer; one that the engine does not own gives its status (Table 10-13). -/
def releaseAfter (e : Nat) (d : DmaDescriptor) (s : State) : State × Nat :=
  if d.flags.getLsbD 3 then
    let own := (lockAt d.lock s).owner == some (0x40 + e)
    (releaseLock (0x40 + e) d.lock s, if own then 0 else 0x24)
  else (s, 0)

/-- Status of a descriptor whose transfer is complete (Table 10-13). -/
def doneStatus (b : BegunDescriptor) : Nat := if b.lock = some true then 0x02 else 0x01

/-- The running descriptor has moved its data: status, then the next one, or the end of the chain (R277). -/
def finishDescriptor (e : Nat) (s : State) : State :=
  let d := descriptorOf e s
  let b := currentBegun (dmaEngine e s)
  let r := releaseAfter e d s
  if r.2 ≠ 0 then endChain e r.2 r.1
  else if d.flags.getLsbD 4 then stopChain e (writeStatus e b (doneStatus b) r.1)
  else startDescriptor e (modDma e (fun x => { x with
    current := d.next
    lockHeld := none
    posted := 0
    moved := 0 }) (writeStatus e b (doneStatus b) r.1))

/-- The oldest descriptor whose lines were still in the buffer is complete (R276, R296). -/
def finishBehind (e : Nat) (b : BegunDescriptor) (rest : List BegunDescriptor) (s : State) : State :=
  let r := releaseAfter e (descriptorAt b.address s) (modDma e (fun x => { x with behind := rest }) s)
  if r.2 ≠ 0 then stopChain e (writeStatus e b r.2 r.1) else writeStatus e b (doneStatus b) r.1

/-- Bytes of the oldest begun descriptor have been written. -/
def countMoved (e n : Nat) (s : State) : State :=
  match (dmaEngine e s).behind with
  | [] => modDma e (fun y => { y with moved := y.moved + n }) s
  | b :: rest =>
    let b := { b with moved := b.moved + n }
    if (descriptorAt b.address s).length ≤ b.moved then finishBehind e b rest s
    else modDma e (fun y => { y with behind := b :: rest }) s

/-! ### Bursts -/

/-- The engine reads its next burst into a free line of the write buffer (R296); it waits for the hub slot where its source is the data
store (R154). -/
def postBurst (e : Nat) (s : State) : State :=
  let x := dmaEngine e s
  let d := descriptorOf e s
  if x.running = false ∨ x.waitingLock = true ∨ x.ending.isSome ∨ 4 ≤ x.buffer.length ∨ d.length ≤ x.posted then s
  else if waitsForSlot (0x40 + e) (d.source + x.posted) s then s
  else
    let n := burstBytes d x.posted
    let r := readBurst e (d.source + x.posted) n s
    if r.2.2 ≠ 0 then failDescriptor e r.2.2 r.1
    else modDma e (fun y => { y with
      buffer := y.buffer ++ [{ address := d.dest + x.posted, data := r.2.1 }]
      posted := x.posted + n }) r.1

/-- The engine goes on with the reads of the next descriptor while lines of the running one wait (R296); a descriptor with FENCE first
drains the buffer (R276). -/
def readOn (e : Nat) (s : State) : State :=
  let x := dmaEngine e s
  let d := descriptorOf e s
  if x.running ∧ x.waitingLock = false ∧ x.ending = none ∧ x.buffer ≠ [] ∧ d.length ≤ x.posted ∧ d.flags.getLsbD 4 = false ∧
      (descriptorAt d.next s).flags.getLsbD 0 = false then
    startDescriptor e (modDma e (fun y => { y with
      behind := y.behind ++ [currentBegun x]
      current := d.next
      lockHeld := none
      posted := 0
      moved := 0 }) s)
  else s

/-- What follows a drained line: the failed descriptor ends with the buffer, and releases that waited take effect. -/
def afterDrain (e : Nat) (s : State) : State :=
  let x := dmaEngine e s
  if x.buffer.isEmpty = false then s
  else match x.ending with
    | some status => endChain e status s
    | none => settleReleases (0x40 + e) s

/-- The oldest burst of the write buffer drains (R296), or waits for the hub slot (R154): one that is not permitted ends the chain,
and every descriptor of it that has no status reads 0x11; another failure is that of the oldest descriptor. -/
def drainBurst (e : Nat) (s : State) : State :=
  match (dmaEngine e s).buffer with
  | [] => s
  | b :: rest =>
    if waitsForSlot (0x40 + e) b.address s then s
    else
      let r := writeBurst e b (modDma e (fun y => { y with buffer := rest }) s)
      if (dmaEngine e r.1).running = false then r.1
      else if r.2 = 0 then afterDrain e (countMoved e b.data.length r.1)
      else if r.2 = 0x11 then failChain e 0x11 r.1
      else
        let x := dmaEngine e r.1
        stopChain e (writeStatus e (x.behind.headD (currentBegun x)) r.2 r.1)

/-- Neither the next read nor the oldest line of the buffer can go: both meet the hub slot that the cycle engine owns (R154). -/
def stuck (e : Nat) (s : State) : Bool :=
  let x := dmaEngine e s
  let d := descriptorOf e s
  (match x.buffer with | [] => true | b :: _ => waitsForSlot (0x40 + e) b.address s) &&
    (decide (d.length ≤ x.posted) || decide (4 ≤ x.buffer.length) || waitsForSlot (0x40 + e) (d.source + x.posted) s)

/-- Every burst of the running descriptor is read and drained; the fuel is its length with the lines before it. -/
def moveAll (e : Nat) : Nat → State → State
  | 0, s => s
  | n + 1, s =>
    let x := dmaEngine e s
    if x.running = false ∨ (x.behind.isEmpty ∧ (descriptorOf e s).length ≤ x.moved) ∨ stuck e s = true then s
    else moveAll e n (drainBurst e (postBurst e s))

/-- Lines drain until the oldest begun descriptor is complete; the fuel is the depth of the buffer. -/
def drainOldest (e k : Nat) : Nat → State → State
  | 0, s => s
  | n + 1, s => if (dmaEngine e s).behind.length < k then s else drainOldest e k n (drainBurst e s)

/-- DMA_CHAIN_START (R277, R286): a write while a chain runs has no effect. A chain that carries the NSP DOMAIN transfer of a session
runs at USER, any other at PRIV. -/
def execDmaChainStart (engine : Fin 12) (head : BitVec 36) (session : Option (Fin 16)) (s : State) :
    Host.Outcome State Fault Refusal :=
  if (dmaEngine engine.val s).running ∨ islandUp 2 s = false then .next s
  else .next (startChains (armChain engine.val head.toNat session.isNone (session.map (·.val)) s))

/-- DMA_DESCRIPTOR_DONE (R276, R277): the oldest descriptor without a status completes its transfer, or the running one has met an
uncorrectable line or codeword, which has its own consequence (Table 9-3). -/
def execDmaDescriptorDone (engine : Fin 12) (uncorrectable : Bool) (s : State) : Host.Outcome State Fault Refusal :=
  let e := engine.val
  let x := dmaEngine e s
  let d := descriptorOf e s
  if x.running = false ∨ x.waitingLock = true ∨ x.ending.isSome then .next s
  else if uncorrectable then
    .next (failDescriptor e 0x12 (decodeAccess (d.source + x.posted) (burstBytes d x.posted) 3 s))
  else if x.behind ≠ [] then .next (startChains (drainOldest e x.behind.length 4 s))
  else
    let s := moveAll e d.length s
    let y := dmaEngine e s
    .next (startChains (if y.running ∧ y.ending = none ∧ y.starting = false ∧ (descriptorOf e s).length ≤ y.moved then finishDescriptor e s else s))

/-- WRITE_BUFFER_DRAIN (R296): the engine reads on while the oldest burst drains. -/
def execWriteBufferDrain (engine : Fin 12) (s : State) : Host.Outcome State Fault Refusal :=
  let e := engine.val
  let s := if (dmaEngine e s).buffer.isEmpty then postBurst e s else s
  .next (startChains (readOn e (postBurst e (drainBurst e s))))

/-! ### Accesses -/

/-- A master of Table 10-2 that makes accesses. -/
def isMaster (m : Nat) : Bool :=
  decide (0x40 ≤ m ∧ m ≤ 0x4B) || decide (0x50 ≤ m ∧ m ≤ 0x55) || m == 0x58 || m == 0x60 || m == 0x61 || decide (0x70 ≤ m ∧ m ≤ 0x72)

/-- A status of 0x10 or above ends the running descriptor of a DMA engine (R259, Table 11-8). -/
def accessStatus (m status : Nat) (s : State) : State :=
  if 0x40 ≤ m ∧ m ≤ 0x4B ∧ status ≠ 0 ∧ (dmaEngine (m - 0x40) s).running then failDescriptor (m - 0x40) status s else s

/-- An access runs: check, effect, its answer, and what its status does. -/
def runAccess (a : HubAccess) (symbols : Nat) (s : State) : State :=
  if a.master = 0x58 then debugAccess a.write a.address a.size a.data symbols s
  else
    let r := hubAccess a.master a.write false a.address a.size a.data symbols s
    accessStatus a.master r.2.2 { r.1 with hub.answer := r.2.1 }

/-- A request of any master (R290): a data store access that it may make waits for the hub slot in the XCH and output phases (R154). -/
def requestOf (a : HubAccess) (symbols : Nat) (s : State) : State :=
  if islandUp 2 s = false ∨ isMaster a.master = false then s
  else if waitsForSlot a.master a.address s && accepted a.write a.address a.size &&
      (checkAccess a.master a.write a.address a.size s).isNone && !(a.master == 0x58 && debugHit a.address a.size s) then
    { s with hub.waiting := s.hub.waiting ++ [(a, symbols)] }
  else startChains (runAccess a symbols s)

/-- Accesses that waited for the hub slot run in their order, and the releases behind them take effect (R154, R276). Each was checked
when it was registered (R290, R303). -/
def runWaiting (s : State) : State :=
  s.hub.waiting.foldl (fun s w => settleReleases w.1.master (runAccess w.1 w.2 s)) { s with hub.waiting := [] }

/-- HUB_REQUEST (R259, R290, R295). -/
def execHubRequest (a : HubAccess) (symbolsInError : Nat) (s : State) : Host.Outcome State Fault Refusal :=
  .next (requestOf a symbolsInError s)

/-- REGISTER_WRITE (R263). -/
def execRegisterWrite (master : Nat) (address : BitVec 36) (value : BitVec 32) (s : State) : Host.Outcome State Fault Refusal :=
  .next (requestOf
    { master := master, write := true, address := address.toNat, size := 4, data := leBytes 4 value.toNat } 0 s)

/-- DEBUG_PORT_ACCESS (R307): to a hub address, or to the port's own status word. -/
def execDebugPortAccess (write : Bool) (address : Option Nat) (data : List Byte) (size : Nat) (s : State) :
    Host.Outcome State Fault Refusal :=
  match address with
  | some a => .next (requestOf { master := 0x58, write := write, address := a, size := size, data := data } 0 s)
  | none => .next (if islandUp 2 s then debugStatus write data s else s)

/-! ### Arbiters -/

/-- Ports with a request registered by the end of a tick (R267). -/
def seenPorts (a tick : Nat) (s : State) : List Nat :=
  (rangeFrom 0 16).filter fun p => match (arbPort a p (arbiter a s)).requests with
    | r :: _ => decide (r.tick ≤ tick)
    | [] => false

/-- Requests are registered at their ports, one of each master until it is granted (R266, R267). -/
def registerRequests (a : Nat) (rs : List PortRequest) (s : State) : State :=
  rs.foldl (fun s r => joinPort a r.port.val { master := r.master, lines := r.lines, tick := r.tick } s) s

/-- The decision of a tick: the highest level wins, a tie by the order of R267. -/
def decideGrant (a tick : Nat) (s : State) : State :=
  let x := arbiter a s
  let seen := seenPorts a (tick - 1) s
  let top := seen.foldl (fun m p => max m (portLevel a p x)) 0
  match nextPort x.lastGranted (seen.filter fun p => portLevel a p x == top) with
  | some win => grantRound a win (tick + 1) seen s
  | none => s

/-- ARBITER_DECISION (R266, R267, R269): in tick `tick`; `ended` tells that the grant in force ends with it. -/
def execArbiterDecision (arbiter : Fin 4) (requests : List PortRequest) (ended : Bool) (tick : Nat) (s : State) :
    Host.Outcome State Fault Refusal :=
  let a := arbiter.val
  let s := registerRequests a requests s
  if (Machine.arbiter a s).grant.isNone then .next (decideGrant a tick s)
  else if ended then .next (decideGrant a tick (endGrant a tick s))
  else .next s

/-- A grant of an aging or fixed-14 port in force in tick `tick` + 1 is revoked: its burst is discarded, and its request is pending
whole again, before those of the port's other masters (R268, R269). -/
def revokeGrant (a tick : Nat) (g : ArbGrant) (s : State) : State :=
  let s := modArbiter a (modArbPort a g.port (fun p => { p with
    requests := g.request :: p.requests
    revoked := satU16 (p.revoked + 1)
    revocations := satU32 (p.revocations + 1) })) s
  let seen := seenPorts a tick s
  match nextPort (arbiter a s).lastGranted (seen.filter fun p => portKind a p == 2) with
  | some win => grantRound a win (tick + 2) (if g.port ∈ seen then seen else seen ++ [g.port]) s
  | none => s

/-- FIXED15_REVOKE (R268): a fixed-15 request has been registered; `tick` is that of the revocation. -/
def execFixed15Revoke (arbiter : Fin 4) (request : PortRequest) (tick : Nat) (s : State) : Host.Outcome State Fault Refusal :=
  let a := arbiter.val
  if portKind a request.port.val ≠ 2 then .next s
  else
    let s := registerRequests a [request] s
    match (Machine.arbiter a s).grant with
    | some g => .next (if portKind a g.port ≠ 2 ∧ g.start ≤ tick + 1 then revokeGrant a tick g s else s)
    | none => .next s

/-- ARBITER_COMMIT (R270). -/
def execArbiterCommit (arbiter : Fin 4) (s : State) : Host.Outcome State Fault Refusal := .next (commitBases arbiter.val s)

/-- A master is reset by the arbiter watchdog: its chain ends with WATCHDOG, its locks become abandoned (R271, R282). -/
def resetMaster (m : Nat) (s : State) : State :=
  let s := if 0x40 ≤ m ∧ m ≤ 0x4B ∧ (dmaEngine (m - 0x40) s).running then endChain (m - 0x40) 0x13 s else s
  abandonLocks m s

/-- ARBITER_WATCHDOG_TRIP (R271, R284): the burst is discarded, the port's pending requests are dropped, and the master that was
granted is reset. -/
def execArbiterWatchdogTrip (arbiter : Fin 4) (s : State) : Host.Outcome State Fault Refusal :=
  let a := arbiter.val
  match (Machine.arbiter a s).grant with
  | none => .next s
  | some g =>
    let s := modArbiter a (fun x => { modArbPort a g.port (fun q => { q with requests := [] }) x with
      grant := none
      tripPort := g.port }) s
    let s := logOther .arbiterTrip [a, g.port] { s with
      hub.trips := satU32 (s.hub.trips + 1)
      hub.lastTrip := a * 256 + g.port }
    let s := resetMaster g.request.master s
    .next (if portKind a g.port = 2 then enterFault 0x1501 (a * 2 ^ 24 + g.port) s else s)

/-! ### Locks -/

/-- LOCK_TRY (R280, R283): the result is what the read returns. -/
def execLockTry (master : Nat) (lock : Fin 256) (s : State) : Host.Outcome State Fault Refusal :=
  let s := acquireLock master lock.val false s
  .next { s with hub.answer := leBytes 4 (mapVal 0 master s.hub.lockResults) }

/-- LOCK_WAIT (R280). -/
def execLockWait (master : Nat) (lock : Fin 256) (s : State) : Host.Outcome State Fault Refusal :=
  .next (acquireLock master lock.val true s)

/-- LOCK_RELEASE (R281). -/
def execLockRelease (master : Nat) (lock : Fin 256) (s : State) : Host.Outcome State Fault Refusal :=
  .next (releaseLock master lock.val s)

/-- LOCK_WAIT_TIMEOUT (R280): the acquisition leaves the queue; a descriptor that waited ends its chain (R277). -/
def execLockWaitTimeout (master : Nat) (lock : Fin 256) (s : State) : Host.Outcome State Fault Refusal :=
  if master ∈ (lockAt lock.val s).queue then
    let s := modLock lock.val (fun l => { l with queue := l.queue.filter (· != master) }) s
    let s := lockResult master 0x12 s
    .next (if 0x40 ≤ master ∧ master ≤ 0x4B ∧ (dmaEngine (master - 0x40) s).waitingLock then
      failDescriptor (master - 0x40) (lockStatus 0x12) s else s)
  else .next s

/-- Lock that a session has selected (0x4030:01, R424). -/
def selectedLock (n : Nat) (s : State) : Nat := (mapVal 64 (0x4030 * 256 + 1) (session n s).selectors).toNat

/-- SESSION_LOCK_ACQUIRE (R280, 0x4030:03): 1 tries, 2 waits up to 0x4030:08. -/
def sessionAcquire (n v : Nat) (s : State) : State :=
  if v = 1 ∨ v = 2 then
    acquireLock (0x80 + n) (selectedLock n s) (decide (v = 2) && decide (setLockWaitLimit s.nsp.settings ≠ 0)) s
  else s

/-- SESSION_LOCK_ACQUIRE. -/
def execSessionLockAcquire (session : Fin 16) (value : BitVec 8) (s : State) : Host.Outcome State Fault Refusal :=
  .next (if (Machine.session session.val s).phase = .isOpen then sessionAcquire session.val value.toNat s else s)

/-- SESSION_LOCK_RELEASE (R281, 0x4030:05). -/
def execSessionLockRelease (session : Fin 16) (value : BitVec 8) (s : State) : Host.Outcome State Fault Refusal :=
  .next (if (Machine.session session.val s).phase = .isOpen ∧ value = 1 then
    releaseLock (0x80 + session.val) (selectedLock session.val s) s else s)

end Sys2Proof.Machine
end

