-- ==== Sys2Proof/Machine/Network.lean ====
section
/-!
DEFINITION. The plant network: links, frames, HSR rings, gate lists, launches, ARP and ICMP
(13_plant_network_and_time.md R328–R336, R344–R352; 17_object_dictionary.md R429).
-/
namespace Sys2Proof.Machine

/-! ### Links -/

/-- A port's link changes (R330): down raises the alarm and loses the frame on the line, up clears it; a fast retrain is no
loss. -/
def changeLink (p k : Nat) (s : State) : State :=
  let old := (port p s).link
  let s := modPort p (fun x => { x with
    link := k
    losses := if k = 0 ∧ old ≠ 0 then satU32 (x.losses + 1) else x.losses
    retrains := if k = 3 ∧ old ≠ 3 then satU32 (x.retrains + 1) else x.retrains
    line := if k = 0 then none else x.line }) s
  pumpPort none p (setAlarm .portLinkDown p (k == 0) s)

/-- LINK_CHANGE (R330). -/
def execLinkChange (port : Fin 4) (state : Fin 4) (s : State) : Host.Outcome State Fault Refusal :=
  if islandUp 4 s then .next (changeLink (port.val + 1) state.val s) else .next s

/-! ### Frames -/

/-- Longest frame (R329). -/
def longestFrame : Nat := 1528

/-- Receive timestamp of a frame, unit 0.1 ns: the MAC mark less the latency of the port at its speed (R344). -/
def receiveStamp (p : Nat) (mark : Nat) (s : State) : Nat := mark - Config.latency p true ((port p s).link == 1)

/-- The other port of a ring. -/
def oppositePort (p : Nat) : Nat := if p % 2 = 1 then p + 1 else p - 1

/-- The frame has come before, by source and sequence number (R332). -/
def isSeen (r : Ring) (f : EthFrame) : Bool := r.seen.any fun x => x.1 == f.source && x.2.1 == f.hsrSeq

/-- The frame has come before on this port: it has gone on in this direction. PRESUMED from IEC 62439-3 (assumption log 25). -/
def seenOn (p : Nat) (r : Ring) (f : EthFrame) : Bool :=
  r.seen.any fun x => x.1 == f.source && x.2.1 == f.hsrSeq && decide (p ∈ x.2.2)

/-- The frame enters the duplicate discard table, which holds 4,096 entries and evicts the oldest, and its source the node
table of at most 1,024 (R332). -/
def noteFrame (p : Nat) (f : EthFrame) (r : Ring) : Ring :=
  let seen := if isSeen r f then
      r.seen.map fun x => if x.1 = f.source ∧ x.2.1 = f.hsrSeq then (x.1, x.2.1, insertNat p x.2.2) else x
    else
      (if 4096 ≤ r.seen.length then r.seen.drop 1 else r.seen) ++ [(f.source, f.hsrSeq, [p])]
  let nodes := if f.source ∈ r.nodes ∨ 1024 ≤ r.nodes.length then r.nodes else r.nodes ++ [f.source]
  { r with
    seen := seen
    nodes := nodes }

/-- A frame forwarded to the other port of its ring, queued by its VLAN priority, an untagged one at 0; dropped when the queue
is full, or when no window of the gate list holds it (R333, R335). -/
def forwardFrame (p : Nat) (f : EthFrame) (s : State) : State :=
  let q := oppositePort p
  let k := match f.priority with | some x => x.val | none => 0
  let x := port q s
  let l := mapVal [] k x.queues
  let t : TxFrame :=
    { ring := ringOf p, dest := some f.dest, etherType := f.etherType, priority := f.priority.map (·.val), length := f.length
      payload := f.payload, own := false }
  if x.link = 0 then s
  else if gateNever x.gates k (wireNs x.link f.length) then modPort q (fun x => { x with drops := satU32 (x.drops + 1) }) s
  else if 1024 ≤ l.length then modRing (ringOf p) (fun r => { r with forwardDrops := satU32 (r.forwardDrops + 1) }) s
  else pumpPort none q (modRing (ringOf p) (fun r => { r with forwarded := r.forwarded + 1 })
    (modPort q (fun x => { x with queues := mapPut [] k (l ++ [t]) x.queues }) s))

/-- The module takes frames to its own address, to all, and to the groups of heartbeats and stations (R208, R382). -/
def takesFrame (r : Bool) (f : EthFrame) (s : State) : Bool :=
  let e := s.nsp.inForce
  f.dest == Config.ringMac r || f.dest == 0xFFFFFFFFFFFF || f.dest.toNat == cfgHeartbeatGroup e ||
    f.dest.toNat == cfgStationGroup e

/-- EtherTypes that pass to a step of their own: heartbeats, stations, IPv4, ARP (R331). -/
def passesOn (f : EthFrame) (s : State) : Bool :=
  let n := f.etherType.toNat
  n == cfgHeartbeatEtherType s.nsp.inForce || n == cfgStationEtherType s.nsp.inForce || n == 0x0800 || n == 0x0806

/-- A frame with a right check sequence arrives on port `p` (R331–R333, R344). -/
def receiveFrame (p : Nat) (f : EthFrame) (s : State) : State :=
  let r := ringOf p
  let s := modPort p (fun x => { x with received := x.received + 1 }) s
  if f.etherType = 0x88F7 then s
  else if f.source = Config.ringMac r then
    if f.supervision then modRing r (fun x => { x with
      closed := true
      unreturned := 0 }) s
    else s
  else
    let again := isSeen (ring r s) f
    let gone := seenOn p (ring r s) f
    let s := modRing r (noteFrame p f) s
    let s := if again then modRing r (fun x => { x with duplicates := satU32 (x.duplicates + 1) }) s
      else if f.supervision = false ∧ takesFrame r f s ∧ passesOn f s then
        through 7 (fun s => { s with network.handed := s.network.handed ++ [{ f with mark := receiveStamp p f.mark s }] }) s
      else s
    if gone ∨ f.dest = Config.ringMac r then s else forwardFrame p f s

/-- NETWORK_FRAME_RECEIVED (R329, R331): frames with an FCS error, and longer ones than 1,528 bytes, are discarded and
counted. -/
def execNetworkFrameReceived (port : Fin 4) (f : EthFrame) (fcsOk : Bool) (t : Nat) (s : State) :
    Host.Outcome State Fault Refusal :=
  let s := atTime t s
  let p := port.val + 1
  if islandUp 4 s = false ∨ (Machine.port p s).link = 0 then .next s
  else if fcsOk = false ∨ longestFrame < f.length then
    .next (modPort p (fun x => { x with errors := satU32 (x.errors + 1) }) s)
  else .next (receiveFrame p f s)

/-- DISCARD_ENTRY_EXPIRY (R332): an entry of the duplicate discard table is 400 ms old. -/
def execDiscardEntryExpiry (ring : Bool) (source : BitVec 48) (seq : BitVec 16) (s : State) :
    Host.Outcome State Fault Refusal :=
  .next (modRing ring (fun r => { r with seen := r.seen.filter fun x => !(x.1 == source && x.2.1 == seq) }) s)

/-- SUPERVISION_FRAME_TIMER (R332): a supervision frame goes out on both ports of the ring; the ring is open when the frame
before it has not come back. DESIGN CHOICE: priority 7 (assumption log 26). -/
def execSupervisionFrameTimer (ring : Bool) (t : Nat) (s : State) : Host.Outcome State Fault Refusal :=
  let s := atTime t s
  if islandUp 4 s then
    let s := modRing ring (fun r => { r with
      closed := r.closed && r.unreturned == 0
      unreturned := r.unreturned + 1 }) s
    .next (enterRing { ring := ring, dest := none, etherType := 0x88FB, priority := some 7, length := 70, payload := [] } s)
  else .next s

/-- Bytes of a number, most significant first. -/
def beBytes (n v : Nat) : List Byte := (leBytes n v).reverse

/-- ARP_REQUEST (R429): a request for the ring's own address is answered. The reply's target protocol address, which the command
does not carry, is left out of its bytes. -/
def execArpRequest (ring : Bool) (target : BitVec 32) (sender : BitVec 48) (s : State) : Host.Outcome State Fault Refusal :=
  let e := s.nsp.inForce
  let s := takeNet 0x0806 s
  if nspUp s ∧ ringAddress e ring ≠ 0 ∧ ringAddress e ring = target.toNat then
    let b := beBytes 2 1 ++ beBytes 2 0x0800 ++ [6, 4] ++ beBytes 2 2 ++ beBytes 6 (Config.ringMac ring).toNat ++
      beBytes 4 target.toNat ++ beBytes 6 sender.toNat
    .next (queueFrame
      { ring := ring, dest := some sender, etherType := 0x0806, priority := some (cfgNspPriority e), length := 74, payload := b } s)
  else .next s

/-- ICMP_ECHO (R429): an echo request to the ring's own address is answered with its data. -/
def execIcmpEcho (ring : Bool) (target : BitVec 32) (sender : BitVec 48) (data : List Byte) (s : State) :
    Host.Outcome State Fault Refusal :=
  let e := s.nsp.inForce
  let s := takeNet 0x0800 s
  if nspUp s ∧ ringAddress e ring ≠ 0 ∧ ringAddress e ring = target.toNat then
    .next (queueFrame
      { ring := ring, dest := some sender, etherType := 0x0800, priority := some (cfgNspPriority e)
        length := max 74 (56 + data.length), payload := data } s)
  else .next s

/-! ### Gate lists -/

/-- Index of the entry of a list that holds at a time within its cycle (R335). -/
def gateIndex : Nat → List (BitVec 8 × Nat) → Nat
  | _, [] => 0
  | at', (_, n) :: r => if at' < n then 0 else 1 + gateIndex (at' - n) r

/-- Entry of a list that holds at an instant of the time base. -/
def gateEntryAt (tb : Nat) (g : GateList) : Nat := gateIndex (gatePhase g tb) (gateSpans g.cycleTime g.entries)

/-- GATE_ENTRY_END (R335): the next entry's gate states apply. -/
def execGateEntryEnd (port : Fin 4) (t : Nat) (s : State) : Host.Outcome State Fault Refusal :=
  let s := atTime t s
  let p := port.val + 1
  if islandUp 4 s then
    .next (pumpPort none p (modPort p (fun x => { x with entry := gateEntryAt (timeBase s) x.gates }) s))
  else .next s

/-- Frames of the gated queues that fit in no window of the list are dropped and counted (R335). -/
def dropUnfit (p : Port) : Port :=
  let keep (k : Nat) (l : List TxFrame) : List TxFrame := l.filter fun f => !gateNever p.gates k (wireNs p.link f.length)
  let queues := mapAll [] keep p.queues
  let count (m : SMap (List TxFrame)) : Nat := (m.map fun x => x.2.length).sum
  { p with
    queues := queues
    drops := satU32 (p.drops + (count p.queues - count queues)) }

/-- GATE_LIST_CHANGE (R336): the pending list becomes operational at its instant. -/
def execGateListChange (port : Fin 4) (t : Nat) (s : State) : Host.Outcome State Fault Refusal :=
  let s := atTime t s
  let p := port.val + 1
  match (Machine.port p s).pendingGates with
  | some (g, start) =>
    if start ≤ timeBase s ∧ islandUp 4 s then
      .next (pumpPort none p (modPort p (fun x => dropUnfit { x with
        gates := g
        pendingGates := none
        entry := 0
        gateChanges := x.gateChanges + 1 }) s))
    else .next s
  | none => .next s

/-! ### Launches -/

/-- Guard time of a link, ns rounded up: a 1,528-byte frame with preamble and gap (R347). -/
def guardNs (link : Nat) : Nat := wireNs link longestFrame

/-- Launch times that wait in a port's banks, rising. -/
def launchTimes (p : Port) : List Nat :=
  sortBy id ((p.bank0 ++ p.bank1).filterMap fun f => f.launch.map (·.2))

/-- LAUNCH_GUARD (R347): the guard of the next launch time begins on a port. -/
def execLaunchGuard (port : Fin 4) (t : Nat) (s : State) : Host.Outcome State Fault Refusal :=
  let s := atTime t s
  let p := port.val + 1
  let now := timeBase s
  match (launchTimes (Machine.port p s)).find? fun l => decide (now ≤ l) with
  | some l =>
    if l ≤ now + guardNs (Machine.port p s).link ∧ islandUp 4 s then
      .next (modPort p (fun x => { x with guard := some l }) s)
    else .next s
  | none => .next s

/-- A guard ends at its launch time. -/
def endGuard (now : Nat) (p : Port) : Port :=
  match p.guard with
  | some l => if l ≤ now then { p with guard := none } else p
  | none => p

/-- LAUNCH_TIME (R347): the run of launch frames starts on every idle port. -/
def execLaunchTime (t : Nat) (s : State) : Host.Outcome State Fault Refusal :=
  let s := atTime t s
  if islandUp 4 s then
    let now := timeBase s
    .next (finishHandover (pumpPorts { s with network.ports := mapAll {} (fun _ p => endGuard now p) s.network.ports }))
  else .next s

/-- LATE_LAUNCH_CLEAR (R348): 10 s without a late frame. -/
def execLateLaunchClear (s : State) : Host.Outcome State Fault Refusal := .next (clearAlarm .lateLaunch 0 s)

/-- FRAME_TRANSMITTED (R347, R226): the frame on a port's line has left, and the next one may start. -/
def execFrameTransmitted (port : Fin 4) (t : Nat) (s : State) : Host.Outcome State Fault Refusal :=
  let s := atTime t s
  let p := port.val + 1
  match (Machine.port p s).line with
  | some f =>
    if islandUp 4 s then
      .next (finishHandover (pumpPort (some f) p (modPort p (fun x => { x with
        line := none
        sent := x.sent + 1 }) s)))
    else .next s
  | none => .next s

/-- Every frame that waits for a launch time is discarded and counted as late (R340). -/
def dropLaunches (s : State) : State :=
  let l := s.network.ports.flatMap fun x => x.2.bank0 ++ x.2.bank1
  let s := l.foldl (fun s f => match f.launch with
    | some (g, _) => modGroup g (fun q => { q with late := satU32 (q.late + 1) }) s
    | none => s) s
  let s := { s with network.ports := mapAll {} (fun _ p => { p with bank0 := [], bank1 := [], guard := none }) s.network.ports }
  if l.isEmpty then s else raiseAlarm .lateLaunch 0 s

/-- The delay check of a station frame of a class (R352): sent at `send`, received at `stamp`, both in ns of the time base. An
accepted delay is noted, a failure counted. -/
def delayCheck (cls send stamp : Nat) (s : State) : State × Bool :=
  let free := s.network.time.state == 0
  let d := Int.ofNat stamp - Int.ofNat send
  let ok := if free then decide (2 ≤ cls)
    else decide (-1000 ≤ d) && decide (d ≤ Int.ofNat (1000 * cfgNetworkBound s.nsp.inForce cls))
  if ok then (if free then s else { s with network.largestDelay := max s.network.largestDelay d }, true)
  else ({ s with network.delayFailures := satU32 (s.network.delayFailures + 1) }, false)

end Sys2Proof.Machine
end

