-- ==== Sys2Proof/Machine/Dictionary.lean ====
section
/-!
DEFINITION. The object dictionary: every entry of the manual's entry tables with type, access, range, Default and name; the
selectors, and the Default of entries whose table gives it by selection (17_object_dictionary.md R420–R424, R447 and the entry
tables of the other chapters).
-/
namespace Sys2Proof.Machine

/-- One entry of the object dictionary (R420–R423). -/
structure EntryDesc where
  /-- Index. -/
  index : Nat
  /-- Subindex. -/
  sub : Nat
  /-- Type code (Table 17-1). -/
  type : Nat
  /-- Access code (Table 17-2). -/
  access : Nat
  /-- Pieces of the Range column; none is the whole range of the type. -/
  pieces : List (Int × Int)
  /-- Default, where the table gives one number. -/
  dflt : Option Int
  /-- Largest value in bytes of a STRING or DOMAIN. -/
  size : Nat
  /-- Name. -/
  name : String
  deriving DecidableEq, Repr

/-- Entries of indexes 0x1000 to 0x1FFF. -/
def dictIdentity : List EntryDesc :=
  [⟨0x1000, 0x01, 9, 1, [], none, 16, "Device name"⟩,
   ⟨0x1000, 0x02, 9, 1, [], none, 16, "Order code"⟩,
   ⟨0x1000, 0x03, 9, 1, [], none, 16, "Serial number"⟩,
   ⟨0x1000, 0x04, 2, 1, [(65, 90)], none, 0, "Hardware revision"⟩,
   ⟨0x1000, 0x05, 6, 1, [], none, 0, "Firmware revision"⟩,
   ⟨0x1000, 0x06, 3, 1, [], none, 0, "Dictionary revision"⟩,
   ⟨0x1000, 0x07, 2, 1, [(0, 2)], none, 0, "Lifecycle state"⟩,
   ⟨0x1000, 0x08, 2, 1, [(0, 11)], none, 0, "Mode"⟩,
   ⟨0x1001, 0x01, 2, 1, [], (some 96), 0, "Family member"⟩,
   ⟨0x1001, 0x02, 3, 1, [], none, 0, "Family architecture revision"⟩,
   ⟨0x1001, 0x03, 2, 1, [], (some 16), 0, "Tandems"⟩,
   ⟨0x1001, 0x04, 6, 1, [], (some 81920), 0, "Digital points per direction"⟩,
   ⟨0x1001, 0x05, 6, 1, [], (some 16384), 0, "Analogue points per direction"⟩,
   ⟨0x1001, 0x06, 3, 1, [], (some 1024), 0, "Stations"⟩,
   ⟨0x1001, 0x07, 2, 1, [], (some 8), 0, "Door bus channels"⟩,
   ⟨0x1001, 0x08, 6, 1, [], (some 1048576), 0, "Data store words"⟩,
   ⟨0x1001, 0x09, 6, 1, [], (some 1048576), 0, "Program store instructions per bank"⟩,
   ⟨0x1002, 0x01, 7, 1, [], none, 0, "Ring A MAC address"⟩,
   ⟨0x1002, 0x02, 7, 1, [], none, 0, "Ring B MAC address"⟩,
   ⟨0x1010, 0x01, 2, 5, [(0, 1)], (some 0), 0, "Configuration commit"⟩,
   ⟨0x1010, 0x02, 2, 1, [(0, 4)], (some 0), 0, "Commit result"⟩,
   ⟨0x1010, 0x03, 6, 1, [], (some 0), 0, "Configuration generation"⟩,
   ⟨0x1010, 0x04, 1, 1, [], (some 0), 0, "Shadow differs"⟩,
   ⟨0x1010, 0x05, 2, 3, [(1, 1)], none, 0, "Revert shadow"⟩,
   ⟨0x1010, 0x06, 6, 1, [], (some 0), 0, "Offending entry"⟩,
   ⟨0x1020, 0x01, 2, 1, [(0, 16)], (some 0), 0, "Sessions open"⟩,
   ⟨0x1020, 0x02, 3, 2, [(5, 3600)], (some 60), 0, "Session timeout"⟩,
   ⟨0x1020, 0x03, 6, 1, [], (some 0), 0, "Frames discarded"⟩,
   ⟨0x1020, 0x04, 6, 1, [], (some 0), 0, "Authentication failures"⟩,
   ⟨0x1020, 0x05, 2, 1, [(0, 15)], none, 0, "Own session"⟩,
   ⟨0x1020, 0x06, 2, 1, [(0, 8)], none, 0, "Own party"⟩,
   ⟨0x1021, 0x01, 6, 4, [], (some 0), 0, "Ring A IPv4 address"⟩,
   ⟨0x1021, 0x02, 2, 4, [(8, 30)], (some 24), 0, "Ring A prefix length"⟩,
   ⟨0x1021, 0x03, 6, 4, [], (some 0), 0, "Ring B IPv4 address"⟩,
   ⟨0x1021, 0x04, 2, 4, [(8, 30)], (some 24), 0, "Ring B prefix length"⟩,
   ⟨0x1021, 0x05, 6, 4, [], (some 0), 0, "Gateway"⟩,
   ⟨0x1021, 0x06, 3, 1, [], (some 20604), 0, "NSP UDP port"⟩,
   ⟨0x1030, 0x01, 2, 1, [(0, 63)], none, 0, "Slot number"⟩,
   ⟨0x1030, 0x02, 1, 1, [], none, 0, "Slot identity valid"⟩,
   ⟨0x1030, 0x03, 2, 1, [(0, 1)], none, 0, "Pair position"⟩,
   ⟨0x1030, 0x04, 2, 1, [(0, 63), (255, 255)], (some 255), 0, "Partner slot number"⟩,
   ⟨0x1030, 0x05, 3, 1, [(0, 65535)], (some 0), 0, "Slot identity changes"⟩,
   ⟨0x1030, 0x06, 1, 1, [], none, 0, "Partner present"⟩]

/-- Entries of indexes 0x2000 to 0x2FFF, part 1. -/
def dictStart1 : List EntryDesc :=
  [⟨0x2000, 0x01, 2, 1, [(1, 11)], none, 0, "Mode"⟩,
   ⟨0x2000, 0x02, 2, 1, [(0, 11)], none, 0, "Previous mode"⟩,
   ⟨0x2000, 0x03, 3, 1, [], none, 0, "Transition cause"⟩,
   ⟨0x2000, 0x04, 6, 1, [], none, 0, "Time in mode"⟩,
   ⟨0x2000, 0x05, 2, 1, [(0, 1)], none, 0, "Start type"⟩,
   ⟨0x2000, 0x06, 2, 1, [(0, 5)], none, 0, "Cold start reason"⟩,
   ⟨0x2000, 0x07, 3, 1, [], (some 0), 0, "Fault or stop cause"⟩,
   ⟨0x2000, 0x08, 6, 1, [], none, 0, "Start duration"⟩,
   ⟨0x2000, 0x09, 2, 1, [(0, 6)], none, 0, "Search result"⟩,
   ⟨0x2000, 0x0A, 2, 1, [(0, 3)], (some 0), 0, "Automatic restarts"⟩,
   ⟨0x2001, 0x01, 2, 3, [(1, 4)], none, 0, "Mode command"⟩,
   ⟨0x2001, 0x02, 2, 5, [(0, 1)], (some 0), 0, "Cold restart"⟩,
   ⟨0x2001, 0x03, 2, 1, [(0, 3)], (some 0), 0, "Command result"⟩,
   ⟨0x2003, 0x01, 2, 2, [(0, 1)], (some 0), 0, "Start behaviour"⟩,
   ⟨0x2003, 0x02, 2, 2, [(0, 1)], (some 0), 0, "Power-on start type"⟩,
   ⟨0x2003, 0x03, 2, 5, [(0, 3)], (some 0), 0, "Automatic restart limit"⟩,
   ⟨0x2003, 0x04, 3, 2, [(0, 10000)], (some 3000), 0, "Link wait"⟩,
   ⟨0x2010, 0x01, 2, 1, [(0, 3)], (some 0), 0, "Plan in force"⟩,
   ⟨0x2010, 0x02, 2, 2, [(0, 3)], (some 0), 0, "Plan request"⟩,
   ⟨0x2010, 0x03, 2, 1, [(0, 5)], (some 0), 0, "Plan request result"⟩,
   ⟨0x2010, 0x04, 3, 1, [], none, 0, "Split tandems"⟩,
   ⟨0x2010, 0x05, 6, 1, [], (some 0), 0, "Failed lanes"⟩,
   ⟨0x2010, 0x06, 3, 1, [], none, 0, "Idle tandems"⟩,
   ⟨0x2011, 0x01, 3, 1, [(1, 256)], none, 0, "Partition count"⟩,
   ⟨0x2011, 0x02, 2, 2, [(0, 255)], (some 0), 0, "Partition select"⟩,
   ⟨0x2011, 0x03, 2, 1, [(0, 3)], none, 0, "Partition class"⟩,
   ⟨0x2011, 0x04, 2, 1, [(0, 47)], none, 0, "Partition place"⟩,
   ⟨0x2011, 0x05, 6, 1, [], none, 0, "Admitted path"⟩,
   ⟨0x2011, 0x06, 6, 1, [], none, 0, "Last path"⟩,
   ⟨0x2011, 0x07, 6, 1, [], (some 0), 0, "Saturations"⟩,
   ⟨0x2011, 0x08, 1, 1, [], (some 0), 0, "Partition faulted"⟩,
   ⟨0x2011, 0x09, 9, 1, [], none, 32, "Partition name"⟩,
   ⟨0x2012, 0x01, 7, 1, [], none, 0, "Mirror boundary"⟩,
   ⟨0x2012, 0x02, 6, 1, [], none, 0, "Mirror age"⟩,
   ⟨0x2012, 0x03, 3, 1, [(0, 16384)], none, 0, "Shared words"⟩,
   ⟨0x2012, 0x04, 6, 1, [], none, 0, "Written words, last cycle"⟩,
   ⟨0x2012, 0x05, 6, 1, [], none, 0, "Image identity"⟩,
   ⟨0x2012, 0x06, 2, 1, [(0, 1)], none, 0, "Active bank"⟩,
   ⟨0x2020, 0x01, 3, 1, [], (some 3), 0, "Instruction set revision"⟩,
   ⟨0x2020, 0x02, 3, 1, [], (some 3), 0, "Cost table revision"⟩,
   ⟨0x2020, 0x03, 2, 2, [(0, 127)], (some 1), 0, "Cost query opcode"⟩,
   ⟨0x2020, 0x04, 3, 1, [(0, 255)], none, 0, "Cost query result"⟩,
   ⟨0x2030, 0x01, 6, 4, [(0, 0), (100, 1048575)], (some 1000), 0, "Class S bound"⟩,
   ⟨0x2030, 0x02, 6, 4, [(0, 0), (100, 1048575)], (some 1000), 0, "Class A bound"⟩,
   ⟨0x2030, 0x03, 6, 4, [(0, 0), (100, 1048575)], (some 10000), 0, "Class B bound"⟩,
   ⟨0x2030, 0x04, 6, 4, [(0, 0), (100, 1048575)], (some 100000), 0, "Class C bound"⟩,
   ⟨0x2030, 0x05, 6, 4, [(0, 1048575)], (some 0), 0, "Minimum cycle"⟩,
   ⟨0x2030, 0x06, 3, 4, [(0, 1024)], (some 256), 0, "Host write allowance"⟩,
   ⟨0x2030, 0x07, 3, 4, [(0, 64)], (some 16), 0, "Guest allowance"⟩,
   ⟨0x2031, 0x01, 6, 1, [], none, 0, "Admitted cycle, plan 0"⟩,
   ⟨0x2031, 0x02, 6, 1, [], none, 0, "Admitted cycle, plan 1"⟩,
   ⟨0x2031, 0x03, 6, 1, [], none, 0, "Admitted cycle, plan 2"⟩,
   ⟨0x2031, 0x04, 6, 1, [], none, 0, "Admitted cycle, plan 3"⟩,
   ⟨0x2031, 0x05, 6, 1, [], none, 0, "XCH term"⟩,
   ⟨0x2031, 0x06, 6, 1, [], none, 0, "Solve term"⟩,
   ⟨0x2031, 0x07, 6, 1, [], none, 0, "Output term"⟩,
   ⟨0x2031, 0x08, 6, 1, [], none, 0, "Checkpoint term"⟩,
   ⟨0x2031, 0x09, 6, 1, [], none, 0, "Queuing bound"⟩,
   ⟨0x2031, 0x0A, 6, 1, [], none, 0, "One-lane cycle"⟩,
   ⟨0x2031, 0x0B, 6, 1, [], none, 0, "Standby commit time"⟩]

/-- Entries of indexes 0x2000 to 0x2FFF, part 2. -/
def dictStart2 : List EntryDesc :=
  [⟨0x2031, 0x0C, 6, 1, [(0, 1048576)], none, 0, "Static written words"⟩,
   ⟨0x2032, 0x01, 6, 1, [], (some 0), 0, "Longest cycle"⟩,
   ⟨0x2032, 0x02, 6, 1, [], (some 0), 0, "Weft frames abandoned"⟩,
   ⟨0x2032, 0x03, 6, 1, [], (some 0), 0, "Host writes deferred"⟩,
   ⟨0x2032, 0x04, 3, 1, [(0, 4096)], (some 0), 0, "Host writes held"⟩,
   ⟨0x2032, 0x05, 6, 1, [], (some 0), 0, "Guests without slot"⟩,
   ⟨0x2032, 0x06, 1, 1, [], (some 0), 0, "Weft suspended"⟩,
   ⟨0x2033, 0x01, 10, 1, [], none, 1296, "Admission report"⟩,
   ⟨0x2033, 0x02, 2, 1, [(0, 1)], none, 0, "Report result"⟩,
   ⟨0x2033, 0x03, 3, 1, [], none, 0, "Report findings"⟩,
   ⟨0x2040, 0x01, 10, 3, [], none, 6291456, "Change image"⟩,
   ⟨0x2040, 0x02, 2, 1, [(0, 8)], (some 0), 0, "Change state"⟩,
   ⟨0x2040, 0x03, 2, 5, [(0, 1)], (some 0), 0, "Switch command"⟩,
   ⟨0x2040, 0x04, 2, 2, [(0, 1)], (some 0), 0, "Confirm command"⟩,
   ⟨0x2040, 0x05, 2, 2, [(0, 1)], (some 0), 0, "Undo command"⟩,
   ⟨0x2040, 0x06, 2, 3, [(0, 1)], none, 0, "Discard"⟩,
   ⟨0x2040, 0x07, 2, 1, [(0, 4)], (some 0), 0, "Change command result"⟩,
   ⟨0x2040, 0x08, 6, 2, [(0, 86400)], (some 600), 0, "Confirmation deadline"⟩,
   ⟨0x2040, 0x09, 6, 1, [], (some 0), 0, "Deadline remaining"⟩,
   ⟨0x2041, 0x01, 6, 1, [], (some 0), 0, "Shadow image identity"⟩,
   ⟨0x2041, 0x02, 2, 1, [(0, 3)], (some 0), 0, "Standby change state"⟩,
   ⟨0x2041, 0x03, 6, 1, [], none, 0, "Switch time"⟩,
   ⟨0x2041, 0x04, 6, 1, [], none, 0, "Undo switch time"⟩,
   ⟨0x2041, 0x05, 6, 1, [(0, 393216)], none, 0, "Carried words"⟩,
   ⟨0x2041, 0x06, 7, 1, [], none, 0, "Switch cycle"⟩,
   ⟨0x2041, 0x07, 6, 1, [], (some 0), 0, "Host writes discarded"⟩,
   ⟨0x2041, 0x08, 3, 1, [], (some 0), 0, "Timers restarted"⟩,
   ⟨0x2041, 0x09, 6, 1, [], (some 0), 0, "Changes confirmed"⟩]

/-- Entries of indexes 0x3000 to 0x3FFF. -/
def dictPair : List EntryDesc :=
  [⟨0x3000, 0x01, 6, 1, [(0, 4294967295)], (some 0), 0, "Jersey"⟩,
   ⟨0x3000, 0x02, 6, 1, [], (some 0), 0, "Highest jersey known"⟩,
   ⟨0x3000, 0x03, 2, 1, [(0, 3)], (some 0), 0, "Standby state"⟩,
   ⟨0x3000, 0x04, 7, 1, [], (some 0), 0, "Committed checkpoint"⟩,
   ⟨0x3000, 0x05, 2, 1, [(0, 100)], (some 0), 0, "Resync progress"⟩,
   ⟨0x3000, 0x06, 1, 1, [], (some 0), 0, "Seam path"⟩,
   ⟨0x3000, 0x07, 1, 1, [], (some 0), 0, "Network path"⟩,
   ⟨0x3000, 0x08, 2, 1, [(0, 3)], (some 0), 0, "Lanes in service"⟩,
   ⟨0x3000, 0x09, 6, 1, [], (some 0), 0, "Takeovers"⟩,
   ⟨0x3000, 0x0A, 6, 1, [], (some 0), 0, "Handovers completed"⟩,
   ⟨0x3000, 0x0B, 6, 1, [], (some 0), 0, "Handovers aborted"⟩,
   ⟨0x3000, 0x0C, 6, 1, [], (some 0), 0, "Last detection time"⟩,
   ⟨0x3000, 0x0D, 6, 1, [], (some 0), 0, "Last takeover time"⟩,
   ⟨0x3000, 0x0E, 6, 1, [], (some 0), 0, "Host writes discarded at handover"⟩,
   ⟨0x3000, 0x0F, 6, 1, [], (some 0), 0, "Single-path losses"⟩,
   ⟨0x3001, 0x01, 6, 4, [(1, 4294967295)], (some 0), 0, "Pair identity"⟩,
   ⟨0x3001, 0x02, 10, 5, [(16, 16)], none, 16, "Pair key"⟩,
   ⟨0x3001, 0x03, 3, 4, [(1536, 65535)], (some 34997), 0, "Heartbeat EtherType"⟩,
   ⟨0x3001, 0x04, 7, 4, [], (some 3298534921729), 0, "Heartbeat group address"⟩,
   ⟨0x3001, 0x05, 2, 4, [(0, 7)], (some 7), 0, "Heartbeat priority"⟩,
   ⟨0x3001, 0x06, 3, 2, [(1, 3600)], (some 60), 0, "Resync time limit"⟩,
   ⟨0x3002, 0x01, 6, 1, [], (some 0), 0, "Lane 0 CRC errors"⟩,
   ⟨0x3002, 0x02, 6, 1, [], (some 0), 0, "Lane 1 CRC errors"⟩,
   ⟨0x3002, 0x03, 6, 1, [], (some 0), 0, "Lane 0 retransmissions"⟩,
   ⟨0x3002, 0x04, 6, 1, [], (some 0), 0, "Lane 1 retransmissions"⟩,
   ⟨0x3002, 0x05, 6, 1, [], (some 0), 0, "Lane failures"⟩,
   ⟨0x3002, 0x06, 3, 1, [(0, 1000)], (some 0), 0, "Reserve peak"⟩,
   ⟨0x3002, 0x07, 3, 1, [], (some 0), 0, "Weft format in use"⟩,
   ⟨0x3002, 0x08, 3, 1, [], none, 0, "Seam round trip"⟩,
   ⟨0x3002, 0x09, 6, 1, [], none, 0, "Weft formats supported"⟩,
   ⟨0x3002, 0x0A, 10, 1, [], none, 1048576, "Checkpoint history"⟩]

/-- Entries of indexes 0x4000 to 0x4FFF. -/
def dictHub : List EntryDesc :=
  [⟨0x4000, 0x01, 8, 1, [], (some 10737418240), 0, "DRAM data capacity"⟩,
   ⟨0x4000, 0x02, 2, 1, [(0, 3)], (some 3), 0, "DRAM channels in service"⟩,
   ⟨0x4000, 0x03, 6, 1, [], (some 0), 0, "Decode errors"⟩,
   ⟨0x4000, 0x04, 2, 1, [], (some 0), 0, "Last decode error master"⟩,
   ⟨0x4010, 0x01, 2, 2, [(0, 3)], (some 0), 0, "Arbiter select"⟩,
   ⟨0x4010, 0x02, 2, 2, [(0, 15)], (some 0), 0, "Port select"⟩,
   ⟨0x4010, 0x03, 2, 4, [(0, 13)], none, 0, "Port base"⟩,
   ⟨0x4010, 0x04, 2, 1, [(0, 3)], none, 0, "Port kind"⟩,
   ⟨0x4010, 0x05, 6, 1, [], (some 0), 0, "Port grants"⟩,
   ⟨0x4010, 0x06, 6, 1, [], (some 0), 0, "Port rounds lost"⟩,
   ⟨0x4010, 0x07, 6, 1, [], (some 0), 0, "Port revocations"⟩,
   ⟨0x4010, 0x08, 6, 1, [], (some 0), 0, "Port longest wait"⟩,
   ⟨0x4010, 0x09, 2, 1, [], none, 0, "Port master"⟩,
   ⟨0x4011, 0x01, 6, 1, [], (some 0), 0, "Watchdog trips"⟩,
   ⟨0x4011, 0x02, 3, 1, [], (some 0), 0, "Last trip"⟩,
   ⟨0x4011, 0x03, 6, 1, [], (some 0), 0, "Arbiter commits"⟩,
   ⟨0x4011, 0x04, 3, 1, [(0, 18)], (some 0), 0, "Class S wait peak"⟩,
   ⟨0x4020, 0x01, 2, 2, [(0, 11)], (some 0), 0, "DMA engine select"⟩,
   ⟨0x4020, 0x02, 2, 1, [], (some 0), 0, "Last descriptor status"⟩,
   ⟨0x4020, 0x03, 6, 1, [], (some 0), 0, "Descriptors done"⟩,
   ⟨0x4020, 0x04, 6, 1, [], (some 0), 0, "Descriptors failed"⟩,
   ⟨0x4030, 0x01, 2, 2, [(0, 255)], (some 64), 0, "Lock select"⟩,
   ⟨0x4030, 0x02, 6, 1, [], (some 0), 0, "Lock state"⟩,
   ⟨0x4030, 0x03, 2, 2, [(0, 2)], (some 0), 0, "Acquire"⟩,
   ⟨0x4030, 0x04, 2, 1, [], (some 0), 0, "Acquire result"⟩,
   ⟨0x4030, 0x05, 2, 3, [(1, 1)], none, 0, "Release"⟩,
   ⟨0x4030, 0x06, 6, 1, [], (some 0), 0, "Locks abandoned"⟩,
   ⟨0x4030, 0x07, 6, 1, [], (some 0), 0, "Lock refusals"⟩,
   ⟨0x4030, 0x08, 6, 2, [(0, 60000)], (some 1000), 0, "Session wait limit"⟩]

/-- Entries of indexes 0x5000 to 0x5FFF. -/
def dictProtection : List EntryDesc :=
  [⟨0x5000, 0x01, 2, 1, [(0, 2)], none, 0, "Lifecycle state"⟩,
   ⟨0x5000, 0x02, 2, 5, [(0, 2)], none, 0, "Lifecycle request"⟩,
   ⟨0x5000, 0x03, 6, 1, [], (some 0), 0, "Lifecycle changes"⟩,
   ⟨0x5000, 0x04, 2, 5, [(0, 1)], (some 0), 0, "Debug unlock"⟩,
   ⟨0x5000, 0x05, 1, 1, [], (some 0), 0, "Debug unlocked"⟩,
   ⟨0x5000, 0x06, 6, 1, [], (some 0), 0, "Debug hits"⟩,
   ⟨0x5001, 0x01, 6, 1, [], (some 0), 0, "Rule epoch"⟩,
   ⟨0x5001, 0x02, 2, 5, [(0, 1)], (some 0), 0, "Rule commit"⟩,
   ⟨0x5001, 0x03, 2, 1, [(0, 3)], (some 0), 0, "Shadow set state"⟩,
   ⟨0x5001, 0x04, 6, 1, [], none, 0, "Shadow set digest"⟩,
   ⟨0x5001, 0x05, 2, 3, [(1, 1)], none, 0, "Revert shadow set"⟩,
   ⟨0x5001, 0x06, 3, 1, [(0, 2810)], (some 0), 0, "Last drain time"⟩,
   ⟨0x5001, 0x07, 3, 1, [], (some 0), 0, "Invalid region"⟩,
   ⟨0x5002, 0x01, 2, 2, [(0, 7)], (some 0), 0, "Proposal select"⟩,
   ⟨0x5002, 0x02, 3, 1, [(0, 65535)], (some 0), 0, "Proposal number"⟩,
   ⟨0x5002, 0x03, 6, 1, [], (some 0), 0, "Proposal target"⟩,
   ⟨0x5002, 0x04, 2, 1, [(0, 8)], (some 0), 0, "Proposer"⟩,
   ⟨0x5002, 0x05, 6, 1, [], (some 0), 0, "Proposal digest"⟩,
   ⟨0x5002, 0x06, 3, 1, [(0, 600)], (some 0), 0, "Time remaining"⟩,
   ⟨0x5002, 0x07, 7, 3, [], none, 0, "Confirm"⟩,
   ⟨0x5002, 0x08, 3, 3, [(1, 65535)], none, 0, "Withdraw"⟩,
   ⟨0x5002, 0x09, 2, 1, [(0, 9)], (some 0), 0, "Two-party result"⟩,
   ⟨0x5003, 0x01, 2, 2, [(0, 12)], (some 4), 0, "Checker select"⟩,
   ⟨0x5003, 0x02, 2, 2, [(0, 63)], (some 0), 0, "Region select"⟩,
   ⟨0x5003, 0x03, 7, 4, [(0, 68719476720)], none, 0, "Shadow base"⟩,
   ⟨0x5003, 0x04, 7, 4, [(15, 68719476735)], none, 0, "Shadow limit"⟩,
   ⟨0x5003, 0x05, 6, 4, [], none, 0, "Shadow attributes"⟩,
   ⟨0x5003, 0x06, 7, 1, [], none, 0, "Active base"⟩,
   ⟨0x5003, 0x07, 7, 1, [], none, 0, "Active limit"⟩,
   ⟨0x5003, 0x08, 6, 1, [], none, 0, "Active attributes"⟩,
   ⟨0x5004, 0x01, 2, 2, [(0, 47)], (some 0), 0, "Window place"⟩,
   ⟨0x5004, 0x02, 2, 2, [(0, 3)], (some 0), 0, "Window plan"⟩,
   ⟨0x5004, 0x03, 2, 1, [(0, 16)], none, 0, "Window count"⟩,
   ⟨0x5004, 0x04, 2, 2, [(0, 15)], (some 0), 0, "Window select"⟩,
   ⟨0x5004, 0x05, 4, 1, [], none, 0, "Window first word"⟩,
   ⟨0x5004, 0x06, 4, 1, [], none, 0, "Window last word"⟩,
   ⟨0x5005, 0x01, 6, 1, [], (some 0), 0, "Notices"⟩,
   ⟨0x5005, 0x02, 6, 1, [], (some 0), 0, "Imprecise notices"⟩,
   ⟨0x5005, 0x03, 10, 1, [(16, 16)], none, 16, "Latest notice"⟩,
   ⟨0x5005, 0x04, 10, 1, [], none, 256, "Notice ring"⟩,
   ⟨0x5006, 0x01, 2, 1, [(0, 8)], (some 0), 0, "Parties enrolled"⟩,
   ⟨0x5006, 0x02, 2, 2, [(1, 8)], (some 1), 0, "Party select"⟩,
   ⟨0x5006, 0x03, 2, 5, [(0, 15)], (some 0), 0, "Party rights"⟩,
   ⟨0x5006, 0x04, 10, 5, [(16, 16)], none, 16, "Party key"⟩,
   ⟨0x5006, 0x05, 1, 5, [], (some 0), 0, "Party enabled"⟩]

/-- Entries of indexes 0x6000 to 0x6FFF, part 1. -/
def dictNetwork1 : List EntryDesc :=
  [⟨0x6000, 0x01, 2, 2, [(1, 4)], (some 1), 0, "Port select"⟩,
   ⟨0x6000, 0x02, 2, 1, [(0, 3)], (some 0), 0, "Link state"⟩,
   ⟨0x6000, 0x03, 2, 4, [(0, 2)], (some 0), 0, "Advertised speeds"⟩,
   ⟨0x6000, 0x04, 6, 1, [], (some 0), 0, "Link losses"⟩,
   ⟨0x6000, 0x05, 6, 1, [], (some 0), 0, "Fast retrains"⟩,
   ⟨0x6000, 0x06, 8, 1, [], (some 0), 0, "Frames sent"⟩,
   ⟨0x6000, 0x07, 8, 1, [], (some 0), 0, "Frames received"⟩,
   ⟨0x6000, 0x08, 6, 1, [], (some 0), 0, "Receive errors"⟩,
   ⟨0x6000, 0x09, 6, 1, [], (some 0), 0, "Queue drops"⟩,
   ⟨0x6001, 0x01, 3, 1, [], none, 0, "TX latency, 2.5GBASE-T"⟩,
   ⟨0x6001, 0x02, 3, 1, [], none, 0, "RX latency, 2.5GBASE-T"⟩,
   ⟨0x6001, 0x03, 3, 1, [], none, 0, "TX latency, 1000BASE-T"⟩,
   ⟨0x6001, 0x04, 3, 1, [], none, 0, "RX latency, 1000BASE-T"⟩,
   ⟨0x6001, 0x05, 5, 4, [(-50000, 50000)], (some 0), 0, "Delay asymmetry"⟩,
   ⟨0x6010, 0x01, 2, 2, [(0, 1)], (some 0), 0, "Ring select"⟩,
   ⟨0x6010, 0x02, 2, 1, [(0, 2)], (some 0), 0, "Ring state"⟩,
   ⟨0x6010, 0x03, 7, 1, [], none, 0, "Ring MAC address"⟩,
   ⟨0x6010, 0x04, 3, 1, [(0, 1024)], (some 0), 0, "Nodes seen"⟩,
   ⟨0x6010, 0x05, 6, 1, [], (some 0), 0, "Duplicates discarded"⟩,
   ⟨0x6010, 0x06, 8, 1, [], (some 0), 0, "Frames forwarded"⟩,
   ⟨0x6010, 0x07, 6, 1, [], (some 0), 0, "Forwarding drops"⟩,
   ⟨0x6010, 0x08, 3, 4, [(500, 10000)], (some 2000), 0, "Supervision interval"⟩,
   ⟨0x6011, 0x02, 1, 4, [], (some 0), 0, "Gate list enabled"⟩,
   ⟨0x6011, 0x03, 6, 4, [(1000, 100000000)], (some 1000000), 0, "Gate cycle time"⟩,
   ⟨0x6011, 0x04, 7, 4, [], (some 0), 0, "Gate base seconds"⟩,
   ⟨0x6011, 0x05, 6, 4, [(0, 999999999)], (some 0), 0, "Gate base nanoseconds"⟩,
   ⟨0x6011, 0x06, 2, 4, [(1, 128)], (some 1), 0, "Gate entries"⟩,
   ⟨0x6011, 0x07, 2, 2, [(0, 127)], (some 0), 0, "Gate entry select"⟩,
   ⟨0x6011, 0x08, 6, 4, [], (some 4278190080), 0, "Gate entry"⟩,
   ⟨0x6011, 0x09, 6, 1, [], (some 0), 0, "Operational list changes"⟩,
   ⟨0x6011, 0x0A, 1, 1, [], (some 0), 0, "Change pending"⟩,
   ⟨0x6012, 0x01, 2, 4, [(0, 7)], (some 7), 0, "Class S priority"⟩,
   ⟨0x6012, 0x02, 2, 4, [(0, 7)], (some 6), 0, "Class A priority"⟩,
   ⟨0x6012, 0x03, 2, 4, [(0, 7)], (some 4), 0, "Class B priority"⟩,
   ⟨0x6012, 0x04, 2, 4, [(0, 7)], (some 1), 0, "Class C priority"⟩,
   ⟨0x6012, 0x05, 2, 4, [(0, 7)], (some 3), 0, "NSP priority"⟩,
   ⟨0x6020, 0x01, 2, 1, [(0, 3)], (some 0), 0, "Time base state"⟩,
   ⟨0x6020, 0x02, 2, 1, [(0, 2)], (some 0), 0, "Selected domain"⟩,
   ⟨0x6020, 0x03, 2, 2, [(1, 2)], (some 1), 0, "Preferred domain"⟩,
   ⟨0x6020, 0x04, 1, 2, [], (some 0), 0, "Revertive"⟩,
   ⟨0x6020, 0x05, 3, 2, [(0, 3600)], (some 10), 0, "Holdover limit"⟩,
   ⟨0x6020, 0x06, 3, 2, [(10, 500)], (some 100), 0, "Slew limit"⟩,
   ⟨0x6020, 0x07, 7, 1, [], none, 0, "Time, seconds"⟩,
   ⟨0x6020, 0x08, 6, 1, [(0, 999999999)], none, 0, "Time, nanoseconds"⟩,
   ⟨0x6020, 0x09, 6, 1, [], none, 0, "Nanosecond view"⟩,
   ⟨0x6020, 0x0A, 5, 1, [(-524288, 524287)], (some 0), 0, "Offset to selected domain"⟩,
   ⟨0x6020, 0x0B, 2, 3, [(1, 1)], none, 0, "Time step"⟩,
   ⟨0x6020, 0x0C, 6, 1, [], (some 0), 0, "Time steps"⟩,
   ⟨0x6021, 0x01, 2, 2, [(1, 2)], (some 1), 0, "Domain select"⟩,
   ⟨0x6021, 0x02, 2, 4, [(0, 127)], none, 0, "Domain number"⟩,
   ⟨0x6021, 0x03, 2, 4, [(0, 15)], (some 15), 0, "Domain ports"⟩,
   ⟨0x6021, 0x04, 1, 1, [], (some 0), 0, "Domain good"⟩,
   ⟨0x6021, 0x05, 8, 1, [], (some 0), 0, "Grandmaster identity"⟩,
   ⟨0x6021, 0x06, 5, 1, [(-524288, 524287)], (some 0), 0, "Domain offset"⟩,
   ⟨0x6021, 0x07, 6, 1, [], (some 0), 0, "Mean link delay"⟩,
   ⟨0x6021, 0x08, 2, 4, [(0, 255)], (some 255), 0, "Priority1"⟩,
   ⟨0x6030, 0x01, 6, 4, [(10, 100000)], (some 500), 0, "Class S network bound"⟩,
   ⟨0x6030, 0x02, 6, 4, [(10, 100000)], (some 1000), 0, "Class A network bound"⟩,
   ⟨0x6030, 0x03, 6, 4, [(10, 100000)], (some 5000), 0, "Class B network bound"⟩,
   ⟨0x6030, 0x04, 6, 4, [(10, 100000)], (some 20000), 0, "Class C network bound"⟩]

/-- Entries of indexes 0x6000 to 0x6FFF, part 2. -/
def dictNetwork2 : List EntryDesc :=
  [⟨0x6030, 0x05, 6, 1, [], (some 0), 0, "Delay check failures"⟩,
   ⟨0x6030, 0x06, 6, 1, [], (some 0), 0, "Largest delay"⟩,
   ⟨0x6040, 0x01, 2, 2, [(1, 63)], (some 1), 0, "Group select"⟩,
   ⟨0x6040, 0x02, 2, 4, [(0, 3)], (some 0), 0, "Group class"⟩,
   ⟨0x6040, 0x03, 6, 4, [(0, 100000)], (some 0), 0, "Launch offset"⟩,
   ⟨0x6040, 0x04, 2, 4, [(0, 1)], (some 0), 0, "Late action"⟩,
   ⟨0x6040, 0x05, 8, 1, [], (some 0), 0, "Frames launched"⟩,
   ⟨0x6040, 0x06, 6, 1, [], (some 0), 0, "Late frames"⟩,
   ⟨0x6040, 0x07, 6, 1, [], (some 0), 0, "Displaced frames"⟩,
   ⟨0x6040, 0x08, 6, 1, [], (some 0), 0, "Superseded frames"⟩,
   ⟨0x6040, 0x09, 6, 1, [], (some 0), 0, "Largest lateness"⟩]

/-- Entries of indexes 0x7000 to 0x7FFF. -/
def dictDoor : List EntryDesc :=
  [⟨0x7000, 0x01, 2, 2, [(0, 7)], (some 0), 0, "Channel select"⟩,
   ⟨0x7000, 0x02, 2, 4, [(0, 2)], (some 0), 0, "Channel mode"⟩,
   ⟨0x7000, 0x03, 6, 4, [], (some 83392752), 0, "Nominal timing"⟩,
   ⟨0x7000, 0x04, 6, 4, [], (some 2684853696), 0, "Data timing"⟩,
   ⟨0x7000, 0x05, 2, 4, [(0, 1)], (some 0), 0, "Confinement profile"⟩,
   ⟨0x7000, 0x06, 6, 4, [(100, 100000)], (some 5000), 0, "Door bound"⟩,
   ⟨0x7001, 0x01, 2, 1, [(0, 4)], (some 0), 0, "Error state"⟩,
   ⟨0x7001, 0x02, 3, 1, [(0, 255)], (some 0), 0, "TEC"⟩,
   ⟨0x7001, 0x03, 3, 1, [(0, 255)], (some 0), 0, "REC"⟩,
   ⟨0x7001, 0x04, 6, 1, [], (some 0), 0, "Bus-off entries"⟩,
   ⟨0x7001, 0x05, 1, 1, [], (some 0), 0, "Alone"⟩,
   ⟨0x7001, 0x06, 1, 1, [], (some 0), 0, "Twin path open"⟩,
   ⟨0x7001, 0x07, 8, 1, [], (some 0), 0, "Messages sent"⟩,
   ⟨0x7001, 0x08, 8, 1, [], (some 0), 0, "Frames received"⟩,
   ⟨0x7001, 0x09, 6, 1, [], (some 0), 0, "Error frames"⟩,
   ⟨0x7001, 0x0A, 6, 1, [], (some 0), 0, "Frames rejected"⟩,
   ⟨0x7001, 0x0B, 6, 1, [], (some 0), 0, "Duplicates"⟩,
   ⟨0x7001, 0x0C, 6, 1, [], (some 0), 0, "Messages expired"⟩,
   ⟨0x7001, 0x0D, 6, 1, [], (some 0), 0, "Messages superseded"⟩,
   ⟨0x7001, 0x0E, 6, 1, [], (some 0), 0, "Twin copies sent"⟩,
   ⟨0x7001, 0x0F, 6, 1, [], (some 0), 0, "Twin copies not made"⟩,
   ⟨0x7001, 0x10, 6, 1, [], none, 0, "Launch guard"⟩,
   ⟨0x7001, 0x11, 6, 1, [], (some 0), 0, "Unmatched frames"⟩,
   ⟨0x7001, 0x12, 6, 1, [], (some 0), 0, "Missed windows"⟩,
   ⟨0x7001, 0x13, 3, 1, [(0, 127)], (some 0), 0, "Transmitter delay"⟩,
   ⟨0x7002, 0x01, 2, 3, [(1, 1)], none, 0, "Bus-off recovery"⟩,
   ⟨0x7002, 0x02, 2, 1, [(0, 2)], (some 0), 0, "Recovery result"⟩,
   ⟨0x7010, 0x01, 2, 2, [(0, 255)], (some 0), 0, "Object select"⟩,
   ⟨0x7010, 0x02, 10, 4, [(20, 20)], none, 20, "Object descriptor"⟩,
   ⟨0x7010, 0x03, 3, 1, [], (some 0), 0, "Object SEQ"⟩,
   ⟨0x7010, 0x04, 3, 1, [(0, 256)], (some 0), 0, "Objects in use"⟩,
   ⟨0x7020, 0x01, 2, 4, [(0, 1)], (some 0), 0, "Time master role"⟩,
   ⟨0x7020, 0x02, 2, 4, [(1, 2)], (some 2), 0, "Level"⟩,
   ⟨0x7020, 0x03, 2, 4, [(0, 7)], (some 0), 0, "Master priority"⟩,
   ⟨0x7020, 0x04, 3, 4, [(0, 2040)], (some 8), 0, "Reference base ID"⟩,
   ⟨0x7020, 0x05, 3, 4, [(100, 65535)], (some 1000), 0, "Basic cycle length"⟩,
   ⟨0x7020, 0x06, 2, 4, [(0, 0), (1, 1), (3, 3), (7, 7), (15, 15), (31, 31), (63, 63)], (some 0), 0, "Cycle count maximum"⟩,
   ⟨0x7020, 0x07, 2, 1, [(0, 7), (255, 255)], (some 255), 0, "Current master priority"⟩,
   ⟨0x7020, 0x08, 6, 1, [], (some 0), 0, "Master changes"⟩,
   ⟨0x7021, 0x01, 10, 4, [], none, 8192, "Matrix cells"⟩,
   ⟨0x7021, 0x02, 10, 4, [], none, 128, "Column marks"⟩,
   ⟨0x7030, 0x01, 3, 2, [(0, 511)], (some 0), 0, "Door unit select"⟩,
   ⟨0x7030, 0x02, 10, 5, [(16, 16)], none, 16, "Door unit key"⟩,
   ⟨0x7030, 0x03, 6, 1, [], (some 0), 0, "Unit highest jersey"⟩,
   ⟨0x7040, 0x01, 3, 4, [(0, 2044)], (some 2032), 0, "Service base ID"⟩,
   ⟨0x7040, 0x02, 6, 1, [], (some 0), 0, "Service frames"⟩]

/-- Entries of indexes 0x8000 to 0x8FFF. -/
def dictStation : List EntryDesc :=
  [⟨0x8000, 0x01, 3, 4, [(1536, 65535)], (some 34998), 0, "Station EtherType"⟩,
   ⟨0x8000, 0x02, 7, 4, [], (some 3298534921730), 0, "Station group address"⟩,
   ⟨0x8000, 0x03, 3, 1, [(0, 1024)], (some 0), 0, "Stations configured"⟩,
   ⟨0x8000, 0x04, 3, 1, [(0, 1024)], (some 0), 0, "Stations in service"⟩,
   ⟨0x8000, 0x05, 3, 1, [(0, 1024)], (some 0), 0, "Stations dropped"⟩,
   ⟨0x8000, 0x06, 3, 2, [(10, 60000)], (some 1000), 0, "Resync limit"⟩,
   ⟨0x8000, 0x07, 2, 1, [(0, 64)], (some 0), 0, "Guests"⟩,
   ⟨0x8010, 0x01, 3, 2, [(0, 1023)], (some 0), 0, "Station select"⟩,
   ⟨0x8010, 0x02, 1, 4, [], (some 0), 0, "Configured"⟩,
   ⟨0x8010, 0x03, 2, 4, [(0, 1)], (some 0), 0, "Ring"⟩,
   ⟨0x8010, 0x04, 2, 4, [(0, 3)], (some 0), 0, "Class"⟩,
   ⟨0x8010, 0x05, 2, 4, [(0, 63)], (some 0), 0, "Launch group"⟩,
   ⟨0x8010, 0x06, 4, 4, [(0, 81919)], (some 0), 0, "First digital input"⟩,
   ⟨0x8010, 0x07, 3, 4, [(0, 11648)], (some 0), 0, "Digital inputs"⟩,
   ⟨0x8010, 0x08, 3, 4, [(0, 16383)], (some 0), 0, "First analogue input"⟩,
   ⟨0x8010, 0x09, 3, 4, [(0, 485)], (some 0), 0, "Analogue inputs"⟩,
   ⟨0x8010, 0x0A, 4, 4, [(0, 81919)], (some 0), 0, "First digital output"⟩,
   ⟨0x8010, 0x0B, 3, 4, [(0, 11648)], (some 0), 0, "Digital outputs"⟩,
   ⟨0x8010, 0x0C, 3, 4, [(0, 16383)], (some 0), 0, "First analogue output"⟩,
   ⟨0x8010, 0x0D, 3, 4, [(0, 485)], (some 0), 0, "Analogue outputs"⟩,
   ⟨0x8010, 0x0E, 6, 4, [], (some 0), 0, "Layout digest"⟩,
   ⟨0x8010, 0x0F, 10, 5, [(16, 16)], none, 16, "Station key"⟩,
   ⟨0x8010, 0x10, 3, 4, [(1, 1000)], (some 10), 0, "Input timeout"⟩,
   ⟨0x8010, 0x11, 3, 4, [(0, 65535)], (some 8), 0, "Hold count"⟩,
   ⟨0x8010, 0x12, 2, 4, [(0, 2)], (some 0), 0, "Substitute mode"⟩,
   ⟨0x8010, 0x13, 10, 4, [], none, 1456, "Substitute values"⟩,
   ⟨0x8010, 0x14, 3, 4, [(10, 65535)], (some 50), 0, "Hold time"⟩,
   ⟨0x8010, 0x15, 2, 1, [(0, 4)], (some 0), 0, "Station state"⟩,
   ⟨0x8010, 0x16, 3, 1, [], (some 0), 0, "Session"⟩,
   ⟨0x8010, 0x17, 7, 1, [], (some 0), 0, "Station MAC address"⟩,
   ⟨0x8010, 0x18, 6, 1, [], (some 0), 0, "Dropouts"⟩,
   ⟨0x8010, 0x19, 6, 1, [], (some 0), 0, "Outputs discarded"⟩,
   ⟨0x8010, 0x1A, 6, 1, [], (some 0), 0, "Frames rejected"⟩,
   ⟨0x8010, 0x1B, 6, 1, [], (some 0), 0, "Station highest jersey"⟩,
   ⟨0x8010, 0x1C, 3, 1, [], (some 0), 0, "Missed count"⟩,
   ⟨0x8020, 0x01, 3, 2, [(0, 511)], (some 0), 0, "Door unit select"⟩,
   ⟨0x8020, 0x02, 3, 4, [(0, 65535)], (some 8), 0, "Door hold count"⟩,
   ⟨0x8020, 0x03, 2, 4, [(0, 1)], (some 0), 0, "Door substitute mode"⟩,
   ⟨0x8020, 0x04, 1, 1, [], (some 0), 0, "Door unit present"⟩,
   ⟨0x8020, 0x05, 6, 1, [], (some 0), 0, "Door unit changes"⟩,
   ⟨0x8030, 0x01, 2, 2, [(0, 63)], (some 0), 0, "Guest slot select"⟩,
   ⟨0x8030, 0x02, 7, 1, [], (some 0), 0, "Guest MAC address"⟩,
   ⟨0x8030, 0x03, 3, 1, [(0, 1023), (65535, 65535)], (some 65535), 0, "Guest number"⟩,
   ⟨0x8030, 0x04, 6, 1, [], (some 0), 0, "Guest type"⟩,
   ⟨0x8030, 0x05, 8, 1, [], (some 0), 0, "Guest serial"⟩,
   ⟨0x8030, 0x06, 10, 5, [(16, 16)], none, 16, "Guest key"⟩,
   ⟨0x8030, 0x07, 3, 4, [(100, 60000)], (some 1000), 0, "Guest timeout"⟩,
   ⟨0x8030, 0x08, 2, 4, [(0, 1)], (some 0), 0, "Guest authentication"⟩,
   ⟨0x8040, 0x01, 3, 2, [(1, 10000)], (some 100), 0, "Coalescing window"⟩,
   ⟨0x8040, 0x02, 3, 2, [(1, 600)], (some 10), 0, "Longest open time"⟩,
   ⟨0x8040, 0x03, 2, 2, [(0, 3)], (some 0), 0, "Loom class select"⟩,
   ⟨0x8040, 0x04, 3, 2, [(1, 1000)], none, 0, "Event budget"⟩,
   ⟨0x8040, 0x05, 2, 2, [(1, 64)], none, 0, "Open event slots"⟩,
   ⟨0x8040, 0x06, 6, 1, [], (some 0), 0, "Reports dropped"⟩,
   ⟨0x8040, 0x07, 6, 1, [], (some 0), 0, "Reports in overflow"⟩,
   ⟨0x8040, 0x08, 6, 1, [], (some 0), 0, "Events closed"⟩,
   ⟨0x8040, 0x09, 2, 1, [(0, 65)], (some 0), 0, "Open events"⟩,
   ⟨0x8041, 0x01, 10, 1, [], none, 1152, "Event read"⟩,
   ⟨0x8041, 0x02, 3, 1, [(0, 1024)], (some 0), 0, "Unread events"⟩,
   ⟨0x8041, 0x03, 6, 1, [], (some 0), 0, "Events overwritten"⟩]

/-- Entries of indexes 0x9000 to 0x9FFF. -/
def dictLocal : List EntryDesc :=
  [⟨0x9010, 0x01, 2, 2, [(1, 8)], (some 1), 0, "Input select"⟩,
   ⟨0x9010, 0x02, 2, 4, [(0, 1)], (some 1), 0, "Input format"⟩,
   ⟨0x9010, 0x03, 4, 4, [], (some 0), 0, "Input value at 4 mA"⟩,
   ⟨0x9010, 0x04, 4, 4, [], (some 10000), 0, "Input value at 20 mA"⟩,
   ⟨0x9010, 0x05, 3, 4, [(0, 10000)], (some 100), 0, "Failure delay"⟩,
   ⟨0x9010, 0x06, 2, 4, [(0, 1)], (some 0), 0, "Input fault value mode"⟩,
   ⟨0x9010, 0x07, 4, 4, [], (some 0), 0, "Input substitute value"⟩,
   ⟨0x9010, 0x08, 4, 1, [], none, 0, "Input current"⟩,
   ⟨0x9020, 0x01, 2, 2, [(1, 8)], (some 1), 0, "Output select"⟩,
   ⟨0x9020, 0x02, 2, 4, [(0, 1)], (some 1), 0, "Output format"⟩,
   ⟨0x9020, 0x03, 4, 4, [], (some 0), 0, "Output value at 4 mA"⟩,
   ⟨0x9020, 0x04, 4, 4, [], (some 10000), 0, "Output value at 20 mA"⟩,
   ⟨0x9020, 0x05, 2, 4, [(0, 2)], (some 1), 0, "Shortfall reaction"⟩,
   ⟨0x9020, 0x06, 4, 1, [], none, 0, "Output readback"⟩,
   ⟨0x9020, 0x07, 6, 1, [], (some 0), 0, "Shortfalls"⟩,
   ⟨0x9030, 0x01, 2, 2, [(0, 0), (1, 16), (17, 32)], (some 0), 0, "Trim target"⟩,
   ⟨0x9030, 0x02, 2, 3, [(1, 2)], none, 0, "Trim action"⟩,
   ⟨0x9030, 0x03, 5, 2, [(-8000, 8000)], (some 0), 0, "Zero correction"⟩,
   ⟨0x9030, 0x04, 5, 2, [(-8000, 8000)], (some 0), 0, "Span correction"⟩,
   ⟨0x9030, 0x05, 2, 1, [(0, 4)], (some 0), 0, "Trim result"⟩,
   ⟨0x9040, 0x01, 2, 2, [(1, 8)], (some 1), 0, "Safety input select"⟩,
   ⟨0x9040, 0x02, 2, 4, [(0, 2)], none, 0, "Input source"⟩,
   ⟨0x9040, 0x03, 2, 4, [(1, 100)], (some 3), 0, "Filter time"⟩,
   ⟨0x9040, 0x04, 2, 4, [(0, 2)], (some 1), 0, "Pair mode"⟩,
   ⟨0x9040, 0x05, 3, 4, [(10, 10000)], (some 50), 0, "Discrepancy time"⟩,
   ⟨0x9040, 0x06, 6, 1, [], (some 0), 0, "Input faults"⟩,
   ⟨0x9050, 0x01, 2, 2, [(1, 4)], (some 1), 0, "Safety output select"⟩,
   ⟨0x9050, 0x02, 1, 4, [], (some 1), 0, "Dark test"⟩,
   ⟨0x9050, 0x03, 6, 1, [], (some 0), 0, "Output faults"⟩,
   ⟨0x9050, 0x04, 3, 1, [(0, 6000)], none, 0, "Output supply voltage"⟩]

/-- Entries of indexes 0xA000 to 0xAFFF, part 1. -/
def dictRecord1 : List EntryDesc :=
  [⟨0xA000, 0x01, 6, 1, [], (some 0), 0, "Fault detail"⟩,
   ⟨0xA000, 0x02, 7, 1, [], (some 0), 0, "Fault cycle"⟩,
   ⟨0xA000, 0x03, 6, 1, [], (some 0), 0, "Fault operating hours"⟩,
   ⟨0xA000, 0x04, 3, 1, [], (some 0), 0, "Secondary faults"⟩,
   ⟨0xA000, 0x05, 1, 1, [], (some 0), 0, "Safe-state latch"⟩,
   ⟨0xA001, 0x01, 6, 1, [], (some 0), 0, "Data store corrections"⟩,
   ⟨0xA001, 0x02, 6, 1, [], (some 0), 0, "Program store corrections"⟩,
   ⟨0xA001, 0x03, 6, 1, [], (some 0), 0, "SRAM corrections"⟩,
   ⟨0xA001, 0x04, 6, 1, [], (some 0), 0, "DRAM corrections"⟩,
   ⟨0xA001, 0x05, 6, 1, [], (some 0), 0, "DRAM uncorrectable"⟩,
   ⟨0xA001, 0x06, 6, 1, [], (some 0), 0, "Output frames lost to DRAM"⟩,
   ⟨0xA001, 0x07, 2, 1, [(0, 4)], (some 0), 0, "Persistent correction store"⟩,
   ⟨0xA001, 0x08, 6, 1, [], (some 0), 0, "Persistent correction line"⟩,
   ⟨0xA002, 0x01, 6, 1, [], none, 0, "Data store pass time"⟩,
   ⟨0xA002, 0x02, 6, 1, [], none, 0, "Program store pass time"⟩,
   ⟨0xA002, 0x03, 6, 1, [], none, 0, "SRAM pass time"⟩,
   ⟨0xA002, 0x04, 6, 1, [], none, 0, "DRAM pass time"⟩,
   ⟨0xA002, 0x05, 6, 1, [], (some 0), 0, "Scrub overruns"⟩,
   ⟨0xA003, 0x01, 2, 2, [(1, 6)], (some 1), 0, "Rail select"⟩,
   ⟨0xA003, 0x02, 3, 1, [(0, 6000)], none, 0, "Rail voltage"⟩,
   ⟨0xA003, 0x03, 5, 1, [(-55, 150)], none, 0, "Highest junction temperature"⟩,
   ⟨0xA003, 0x04, 5, 1, [(-55, 150)], none, 0, "Peak junction temperature"⟩,
   ⟨0xA004, 0x01, 8, 1, [], (some 0), 0, "Windows compared"⟩,
   ⟨0xA004, 0x02, 3, 1, [(0, 10000)], (some 0), 0, "Backstop lag peak"⟩,
   ⟨0xA005, 0x01, 6, 1, [], (some 0), 0, "Readback mismatches"⟩,
   ⟨0xA010, 0x01, 10, 1, [], none, 65536, "Quilt read"⟩,
   ⟨0xA010, 0x02, 6, 2, [], (some 0), 0, "Read cursor"⟩,
   ⟨0xA010, 0x03, 2, 2, [(0, 3)], (some 0), 0, "Minimum severity"⟩,
   ⟨0xA010, 0x04, 2, 2, [(1, 7)], (some 7), 0, "Kind mask"⟩,
   ⟨0xA010, 0x05, 6, 1, [], (some 0), 0, "Records skipped"⟩,
   ⟨0xA011, 0x01, 6, 2, [(60, 86400)], (some 3600), 0, "Statistics interval"⟩,
   ⟨0xA011, 0x02, 6, 2, [(3600, 604800)], (some 86400), 0, "Door unit interval"⟩,
   ⟨0xA012, 0x01, 6, 1, [], none, 0, "Operating time"⟩,
   ⟨0xA012, 0x02, 6, 1, [], none, 0, "Power cycles"⟩,
   ⟨0xA012, 0x03, 6, 1, [], none, 0, "Oldest SEQ"⟩,
   ⟨0xA012, 0x04, 6, 1, [], none, 0, "Newest SEQ"⟩,
   ⟨0xA012, 0x05, 8, 1, [], none, 0, "Blocks by severity"⟩,
   ⟨0xA012, 0x06, 6, 1, [(0, 262144)], (some 0), 0, "Buffer fill"⟩,
   ⟨0xA012, 0x07, 6, 1, [], (some 0), 0, "Records lost"⟩,
   ⟨0xA012, 0x08, 3, 1, [(0, 800)], (some 0), 0, "Last flush duration"⟩,
   ⟨0xA012, 0x09, 2, 1, [(0, 4)], (some 0), 0, "Last flush cause"⟩,
   ⟨0xA014, 0x01, 2, 2, [(0, 7)], (some 0), 0, "Tap channel select"⟩,
   ⟨0xA014, 0x02, 3, 4, [(0, 255), (65535, 65535)], (some 65535), 0, "Tap object"⟩,
   ⟨0xA014, 0x03, 2, 4, [(0, 63)], (some 0), 0, "Count offset"⟩,
   ⟨0xA014, 0x04, 2, 4, [(0, 62)], (some 1), 0, "Duration offset"⟩,
   ⟨0xA014, 0x05, 2, 4, [(0, 62)], (some 3), 0, "Current offset"⟩,
   ⟨0xA020, 0x01, 2, 1, [(0, 3)], none, 0, "Supply A state"⟩,
   ⟨0xA020, 0x02, 2, 1, [(0, 3)], none, 0, "Supply B state"⟩,
   ⟨0xA020, 0x03, 3, 1, [(0, 7000)], none, 0, "Supply A voltage"⟩,
   ⟨0xA020, 0x04, 3, 1, [(0, 7000)], none, 0, "Supply B voltage"⟩,
   ⟨0xA020, 0x05, 3, 1, [(0, 1000)], none, 0, "Input power"⟩,
   ⟨0xA020, 0x06, 6, 1, [], (some 0), 0, "Ride-throughs"⟩,
   ⟨0xA020, 0x07, 1, 2, [], (some 1), 0, "Single-input alarm"⟩,
   ⟨0xA021, 0x01, 2, 1, [(0, 3)], none, 0, "Hold-up state"⟩,
   ⟨0xA021, 0x02, 3, 1, [(0, 5000)], none, 0, "Bank voltage"⟩,
   ⟨0xA021, 0x03, 3, 1, [(0, 3000)], none, 0, "Bank capacitance"⟩,
   ⟨0xA021, 0x04, 3, 1, [(0, 1000)], none, 0, "Hold-up at 46 W"⟩,
   ⟨0xA021, 0x05, 3, 2, [(1100, 1800)], (some 1100), 0, "Capacitance alarm level"⟩,
   ⟨0xA022, 0x01, 1, 1, [], none, 0, "Extraction lever open"⟩,
   ⟨0xA022, 0x02, 2, 1, [(0, 3)], (some 0), 0, "Extraction state"⟩]

/-- Entries of indexes 0xA000 to 0xAFFF, part 2. -/
def dictRecord2 : List EntryDesc :=
  [⟨0xA022, 0x03, 2, 5, [(0, 1)], (some 0), 0, "Extraction without partner"⟩,
   ⟨0xA022, 0x04, 1, 1, [], none, 0, "TRIM cover open"⟩,
   ⟨0xA022, 0x05, 2, 2, [(0, 255)], (some 0), 0, "Identify"⟩,
   ⟨0xA022, 0x06, 1, 3, [], none, 0, "Lamp test"⟩]

/-- Entries of indexes 0xB000 to 0xBFFF. -/
def dictUpdate : List EntryDesc :=
  [⟨0xB000, 0x01, 10, 3, [], none, 67108864, "Firmware image"⟩,
   ⟨0xB000, 0x02, 2, 1, [(0, 3)], (some 0), 0, "Staging state"⟩,
   ⟨0xB000, 0x03, 2, 1, [(0, 11)], (some 0), 0, "Staging result"⟩,
   ⟨0xB000, 0x04, 2, 3, [(1, 1)], none, 0, "Discard staged"⟩,
   ⟨0xB001, 0x01, 6, 1, [], none, 0, "Main image identity"⟩,
   ⟨0xB001, 0x02, 6, 1, [], (some 0), 0, "Staged image identity"⟩,
   ⟨0xB001, 0x03, 6, 1, [], (some 0), 0, "Fall-back image identity"⟩,
   ⟨0xB001, 0x04, 1, 1, [], (some 0), 0, "Trial"⟩,
   ⟨0xB001, 0x05, 2, 2, [(0, 1)], (some 0), 0, "Confirm"⟩,
   ⟨0xB001, 0x06, 2, 5, [(0, 1)], (some 0), 0, "Revert"⟩,
   ⟨0xB001, 0x07, 2, 5, [(0, 1)], (some 0), 0, "Activate"⟩,
   ⟨0xB001, 0x08, 6, 1, [], (some 0), 0, "Minimum security version"⟩,
   ⟨0xB001, 0x09, 6, 1, [], (some 0), 0, "Staged firmware revision"⟩,
   ⟨0xB001, 0x0A, 2, 1, [(0, 3)], (some 0), 0, "Trial starts"⟩,
   ⟨0xB001, 0x0B, 3, 1, [], (some 0), 0, "Last fall-back cause"⟩,
   ⟨0xB001, 0x0C, 2, 1, [(0, 7)], (some 0), 0, "Update command result"⟩,
   ⟨0xB002, 0x01, 2, 5, [(0, 1)], (some 0), 0, "Pair update"⟩,
   ⟨0xB002, 0x02, 2, 1, [(0, 8)], (some 0), 0, "Pair update state"⟩,
   ⟨0xB002, 0x03, 2, 1, [(0, 7)], (some 0), 0, "Pair update abort cause"⟩,
   ⟨0xB002, 0x04, 3, 2, [(10, 3600)], (some 600), 0, "State time limit"⟩,
   ⟨0xB003, 0x01, 3, 1, [], none, 0, "Configuration format"⟩,
   ⟨0xB003, 0x02, 3, 1, [], (some 0), 0, "Fall-back configuration format"⟩]

/-- Entries of indexes 0xC000 to 0xCFFF. -/
def dictClock : List EntryDesc :=
  [⟨0xC000, 0x01, 2, 2, [(1, 9)], (some 1), 0, "Island select"⟩,
   ⟨0xC000, 0x02, 2, 1, [(0, 3)], none, 0, "Island state"⟩,
   ⟨0xC000, 0x03, 3, 1, [(0, 65535)], none, 0, "Monitor count"⟩,
   ⟨0xC000, 0x04, 3, 1, [], none, 0, "Band low"⟩,
   ⟨0xC000, 0x05, 3, 1, [], none, 0, "Band high"⟩,
   ⟨0xC000, 0x06, 5, 1, [(-524288, 524287)], none, 0, "Frequency deviation"⟩,
   ⟨0xC000, 0x07, 3, 2, [(0, 0), (50, 20000)], none, 0, "Deviation alarm limit"⟩,
   ⟨0xC000, 0x08, 6, 1, [], (some 0), 0, "Lock losses and source changes"⟩,
   ⟨0xC000, 0x09, 3, 1, [], (some 0), 0, "Island resets"⟩,
   ⟨0xC001, 0x01, 2, 2, [(1, 18)], (some 1), 0, "Crossing select"⟩,
   ⟨0xC001, 0x02, 2, 1, [(0, 2)], none, 0, "Crossing state"⟩,
   ⟨0xC001, 0x03, 6, 1, [], (some 0), 0, "Items discarded at close"⟩,
   ⟨0xC001, 0x04, 6, 1, [], (some 0), 0, "Writes while closed"⟩,
   ⟨0xC001, 0x05, 6, 1, [], (some 0), 0, "Value replacements"⟩,
   ⟨0xC001, 0x06, 6, 1, [], (some 0), 0, "Agreement retries"⟩,
   ⟨0xC001, 0x07, 6, 1, [], (some 0), 0, "Register accesses failed"⟩,
   ⟨0xC001, 0x08, 6, 1, [], (some 0), 0, "Openings"⟩,
   ⟨0xC002, 0x01, 2, 3, [(4, 4), (5, 5), (7, 7)], none, 0, "Island reset"⟩,
   ⟨0xC002, 0x02, 2, 1, [(0, 4)], (some 0), 0, "Island reset result"⟩]

/-- The dictionary (R446, Table 17-9). -/
def dictionary : List EntryDesc :=
  dictIdentity ++ dictStart1 ++ dictStart2 ++ dictPair ++ dictHub ++ dictProtection ++ dictNetwork1 ++ dictNetwork2 ++ dictDoor ++ dictStation ++ dictLocal ++ dictRecord1 ++ dictRecord2 ++ dictUpdate ++ dictClock

/-- The entry of an index and subindex. -/
def findEntry (index sub : Nat) : Option EntryDesc := dictionary.find? fun e => e.index == index && e.sub == sub

/-- Highest subindex at an index; none where the index has no entries (R420). -/
def highestSub (index : Nat) : Option Nat :=
  match dictionary.filter fun e => e.index == index with
  | [] => none
  | l => some ((l.map (·.sub)).foldl max 0)

/-- Bytes of a numeric type on the wire (Table 17-1); 0 for STRING and DOMAIN. -/
def typeBytes (t : Nat) : Nat :=
  match t with
  | 1 | 2 => 1
  | 3 => 2
  | 4 | 5 => 3
  | 6 => 4
  | 7 => 6
  | 8 => 8
  | _ => 0

/-- Largest value in bytes (Table 17-7 MAX_SIZE). -/
def maxSize (e : EntryDesc) : Nat := if 9 ≤ e.type then e.size else typeBytes e.type

/-- Whole range of a type (Table 17-1). -/
def typeRange (t : Nat) : Int × Int :=
  match t with
  | 1 => (0, 1)
  | 4 => (0, 0xFFFFF)
  | 5 => (-524288, 524287)
  | 9 | 10 => (0, 0)
  | _ => (0, (2 ^ (8 * typeBytes t) : Nat) - 1)

/-- Pieces that bound an entry's value. -/
def rangeOf (e : EntryDesc) : List (Int × Int) := if e.pieces.isEmpty then [typeRange e.type] else e.pieces

/-- Ranges that the Range column gives in words: group addresses have the group bit of their first byte set; a multiple of 8,
of 4 and of 16 bytes; a last byte of a 16-byte unit (R311, R378, R381, R402). -/
def wordedRange (index sub v : Nat) : Bool :=
  match index, sub with
  | 0x3001, 4 | 0x8000, 2 => v.testBit 40
  | 0x7020, 4 => v % 8 == 0
  | 0x7040, 1 => v % 4 == 0
  | 0x5003, 3 => v % 16 == 0
  | 0x5003, 4 => v % 16 == 15
  | _, _ => true

/-- Number that the bytes of a numeric value spell (Table 17-1). -/
def wireValue (e : EntryDesc) (b : List Byte) : Int :=
  if e.type = 5 then (BitVec.ofNat 20 (ofLe b)).toInt else Int.ofNat (ofLe b)

/-- A written value breaks Table 17-1 or the Range column: its status (R421). -/
def valueError (e : EntryDesc) (b : List Byte) : Option Nat :=
  let sized (p : Int × Int) : Bool := decide (p.1 ≤ Int.ofNat b.length ∧ Int.ofNat b.length ≤ p.2)
  if e.type < 9 ∧ b.length ≠ typeBytes e.type then some 0x04
  else if e.type = 10 ∧ e.size < b.length then some 0x05
  else if e.type = 10 ∧ ¬(e.pieces.isEmpty ∨ e.pieces.any sized) then some 0x04
  else
    let v := wireValue e b
    let form := (e.type != 4 || decide (ofLe b < 2 ^ 20)) &&
      (e.type != 5 || ofLe b / 2 ^ 20 == (if (ofLe b).testBit 19 then 15 else 0))
    let fits := e.type == 10 || (rangeOf e).any fun p => decide (p.1 ≤ v ∧ v ≤ p.2)
    if form && fits && wordedRange e.index e.sub (ofLe b) then none else some 0x05

/-- Bytes of a number in a numeric type (Table 17-1). -/
def wireBytes (t : Nat) (v : Int) : List Byte :=
  if t = 5 then leBytes 3 ((v % 16777216).toNat) else leBytes (typeBytes t) v.toNat

/-- Selectors (R424): entries that select the object of others, by their entry statement or by their Effect. DEDUCED for those
that only their Effect names (assumption log 29). -/
def selectorKeys : List Nat :=
  [0x201102, 0x202003, 0x401001, 0x401002, 0x402001, 0x403001, 0x500201, 0x500301, 0x500302, 0x500401, 0x500402, 0x500404,
   0x500602, 0x600001, 0x601001, 0x601107, 0x602101, 0x604001, 0x700001, 0x701001, 0x703001, 0x801001, 0x802001, 0x803001,
   0x804003, 0x901001, 0x902001, 0x904001, 0x905001, 0xA00301, 0xA01003, 0xA01004, 0xA01401, 0xC00001, 0xC00101]

/-- The entry is a selector. -/
def isSelector (key : Nat) : Bool := selectorKeys.any (· == key)

/-- Default of a selector (R423, R424). -/
def selectorDefault (key : Nat) : Int :=
  match findEntry (key / 256) (key % 256) with
  | some e => e.dflt.getD 0
  | none => 0

/-- Value of a selector in a session; a sessionless request uses its Default (R424). -/
def selected (n key : Nat) (s : State) : Nat :=
  if n < 16 then (mapVal (selectorDefault key) key (session n s).selectors).toNat else (selectorDefault key).toNat

/-- Key of the region selected in 0x5003:01 and :02: engine e region r, or central entry r (R293, R311). -/
def regionKey (n : Nat) (s : State) : Nat :=
  let c := selected n 0x500301 s
  let r := selected n 0x500302 s
  if c = 12 then 192 + r else 16 * c + r % 16

/-- What the selectors of a session select for an entry: up to two numbers (R424 and the entry statements). -/
def selection (n index sub : Nat) (s : State) : Nat × Nat :=
  let x (key : Nat) : Nat := selected n key s
  match index with
  | 0x4010 => if sub = 1 ∨ sub = 2 then (0, 0) else (x 0x401001, x 0x401002)
  | 0x5006 => if 3 ≤ sub then (x 0x500602, 0) else (0, 0)
  | 0x6000 => if sub = 1 then (0, 0) else (x 0x600001, 0)
  | 0x6001 => (x 0x600001, 0)
  | 0x6010 => if sub = 1 then (0, 0) else (x 0x601001, 0)
  | 0x6011 => if sub = 7 then (0, 0) else (x 0x600001, if sub = 8 then x 0x601107 else 0)
  | 0x6021 => if sub = 1 then (0, 0) else (x 0x602101, 0)
  | 0x6040 => if sub = 1 then (0, 0) else (x 0x604001, 0)
  | 0x7000 => if sub = 1 then (0, 0) else (x 0x700001, 0)
  | 0x7001 | 0x7002 | 0x7020 | 0x7021 => (x 0x700001, 0)
  | 0x7010 => if sub = 1 then (0, 0) else (x 0x700001, if sub = 4 then 0 else x 0x701001)
  | 0x7030 => if sub = 1 then (0, 0) else (x 0x703001, 0)
  | 0x8010 => if sub = 1 then (0, 0) else (x 0x801001, 0)
  | 0x8020 => if sub = 1 then (0, 0) else (x 0x802001, 0)
  | 0x8030 => if 2 ≤ sub ∧ sub ≤ 5 then (x 0x803001, 0) else (0, 0)
  | 0x8040 => if 4 ≤ sub then (x 0x804003, 0) else (0, 0)
  | 0x8041 => (x 0x804003, 0)
  | 0x9010 => if sub = 1 then (0, 0) else (x 0x901001, 0)
  | 0x9020 => if sub = 1 then (0, 0) else (x 0x902001, 0)
  | 0x9040 => if sub = 1 then (0, 0) else if sub = 4 ∨ sub = 5 then ((x 0x904001 - 1) / 2, 0) else (x 0x904001, 0)
  | 0x9050 => if sub = 1 then (0, 0) else (x 0x905001, 0)
  | 0xA014 => if sub = 1 then (0, 0) else (x 0xA01401, 0)
  | 0xC000 => if sub = 1 then (0, 0) else (x 0xC00001, 0)
  | 0xC001 => if sub = 1 then (0, 0) else (x 0xC00101, 0)
  | _ => (0, 0)

/-- Default of a numeric entry under a selection `a`, `b` (R423); none where the module sets or measures the value. -/
def defaultOf (e : EntryDesc) (a b : Nat) : Option Int :=
  match e.index, e.sub with
  | 0x4010, 3 => some (portBase a b)
  | 0x6021, 2 => some (if a = 2 then 1 else 0)
  | 0x8040, 4 => some ([64, 64, 32, 16].getD a 0)
  | 0x8040, 5 => some ([64, 64, 32, 32].getD a 0)
  | 0x9040, 2 => some (if a % 2 = 1 then 0 else 1)
  | 0xC000, 7 => some (deviationDefault a)
  | _, _ => e.dflt

/-- The entry belongs to the configuration (R425). -/
def isConfiguration (e : EntryDesc) : Bool := e.access == 4 && e.index != 0x5003

/-- Entry as DESCRIBE and the checks see it; subindex 0 of an index with entries is a U8, RO (R420). -/
def entryAt (index sub : Nat) : Option EntryDesc :=
  if sub = 0 then
    match highestSub index with
    | some h => some { index := index, sub := 0, type := 2, access := 1, pieces := [(h, h)], dflt := some h, size := 0, name := "" }
    | none => none
  else findEntry index sub

end Sys2Proof.Machine
end

