-- ==== Sys2Proof/Machine/Protection.lean ====
section
/-!
DEFINITION. Two-party commits, rule commits and lifecycle requests (11_protection_and_lifecycle.md R299–R310).
An entry is named by index × 256 + subindex.
-/
namespace Sys2Proof.Machine

/-! ### Parties and entries -/

/-- A party of the party store (R299). -/
def partyOf (p : Nat) (s : State) : Party := mapVal {} p s.protection.parties

/-- An enabled party holds a right, by its bit in Table 11-11. -/
def hasRight (p bit : Nat) (s : State) : Bool := (partyOf p s).enabled && (partyOf p s).rights.getLsbD bit

/-- Value of a selector in a session (R424); `d` is its Default. -/
def selectorOf (n key : Nat) (d : Int) (s : State) : Nat := (mapVal d key (session n s).selectors).toNat

/-- RW2 entries with the length of their value and its highest value; keys are 16 bytes. -/
def rw2Entries : List (Nat × Nat × Nat) :=
  [(0x101001, 1, 1), (0x200102, 1, 1), (0x200303, 1, 3), (0x204003, 1, 1), (0x300102, 16, 0), (0x500002, 1, 2),
   (0x500004, 1, 1), (0x500102, 1, 1), (0x500603, 1, 15), (0x500604, 16, 0), (0x500605, 1, 1), (0x703002, 16, 0),
   (0x80100F, 16, 0), (0x803006, 16, 0), (0xA02203, 1, 1), (0xB00106, 1, 1), (0xB00107, 1, 1), (0xB00201, 1, 1)]

/-- The value has the length and range of its RW2 entry (R421). -/
def rw2Fits (key : Nat) (value : List Byte) : Bool :=
  rw2Entries.any fun x => x.1 == key && x.2.1 == value.length && (x.2.1 == 16 || decide (ofLe value ≤ x.2.2))

/-- Selection of a session on which an RW2 entry acts (R311, R424): party, door unit, station. -/
def rw2Selection (n key : Nat) (s : State) : Nat :=
  if key / 256 = 0x5006 then selectorOf n 0x500602 1 s
  else if key = 0x703002 then selectorOf n 0x703001 0 s
  else if key = 0x80100F then selectorOf n 0x801001 0 s
  else 0

/-- The result of a session's two-party request (0x5002:09). -/
def twoParty (n r : Nat) (s : State) : State :=
  let s := if s.protection.ruleSession = some n then { s with protection.ruleSession := none } else s
  modSession n (fun x => { x with twoParty := r }) s

/-- The session is on the front service connector. -/
def onFs (n : Nat) (s : State) : Bool := (session n s).carrier == some .fs

/-! ### The rule set -/

/-- Keys of the regions: 16 e + r of engine e, 192 + i of central entry i. -/
def regionKeys : List Nat := List.range 256

/-- A region of a rule set with its bytes overlapping a range. -/
def regionMeets (r : Region) (lo hi : Nat) : Bool := decide (regionLo r ≤ hi ∧ lo ≤ 16 * r.limit.toNat + 15)

/-- A region of the shadow set is invalid (R302). -/
def badRegion (k : Nat) (s : State) : Bool :=
  let r := regionOf k s.protection.shadow
  let on := regionEnabled r
  let central := decide (192 ≤ k)
  let special := r.attr &&& 0x67000000
  let secure := decide (0x340E00000 ≤ regionLo r ∧ 16 * r.limit.toNat + 15 ≤ 0x340EFFFFF)
  let debugOnly := central && (r.attr &&& 0x07000000) == 0x04000000
  (on && decide (r.limit < r.base)) || (!central && special != 0) ||
    (central && r.attr.getLsbD 29 && (!r.attr.getLsbD 30 || !secure)) ||
    (on && (r.attr.getLsbD 0 || r.attr.getLsbD 1) && regionMeets r 0x340F00000 0x340FFFFFF && !debugOnly) ||
    (decide (k < 64) && r != regionOf k s.protection.active)

/-- First invalid region of the shadow set as 0x5001:07 names it (R302). -/
def firstBadRegion (s : State) : Option Nat :=
  (regionKeys.find? fun k => badRegion k s).map fun k => if k < 192 then (k / 16) * 256 + k % 16 else 12 * 256 + (k - 192)

/-- Bytes of a rule set: base, limit and attributes of every region, by rising key. DEDUCED (assumption log 24). -/
def ruleBytes (m : SMap Region) : List Byte :=
  regionKeys.flatMap fun k =>
    let r := regionOf k m
    leBytes 4 r.base.toNat ++ leBytes 4 r.limit.toNat ++ leBytes 4 r.attr.toNat

/-- A confirmed rule commit waits for its commit point; the set goes to a module in STANDBY first (R303, R305). -/
def confirmRules (s : State) : State :=
  let s := { s with
    protection.stage := .waiting
    protection.carried := false }
  if solving s.modes.mode ∧ s.pair.partner.mode = some 4 ∧ seamUp s then
    pumpSeam { s with seam.serviceTx := s.seam.serviceTx ++ [ruleItem s.protection.shadow] }
  else s

/-- RULE_COMMIT_POINT (R303): in a mode that does not solve, within 1 ms of the confirmation. -/
def execRuleCommitPoint (s : State) : Host.Outcome State Fault Refusal :=
  if s.protection.stage = .waiting ∧ solving s.modes.mode = false then .next (takeRuleSet s) else .next s

/-- DRAIN_END (R304): every access checked under the old epoch has completed, `ticks` ticks after the commit point. -/
def execDrainEnd (ticks : Nat) (s : State) : Host.Outcome State Fault Refusal :=
  if s.protection.stage = .draining ∧ ticks ≤ 2248 then
    let who := s.protection.ruleSession
    let s := { s with
      protection.stage := .open
      protection.lastDrain := 5 * ticks / 4
      protection.ruleSession := none }
    .next (match who with | some n => modSession n (fun x => { x with twoParty := 0 }) s | none => s)
  else .next s

/-- The shadow set takes the active set while it is open (0x5001:05): the state, and whether it was accepted. -/
def revertShadowSet (s : State) : State × Bool :=
  if s.protection.stage = .open then ({ s with protection.shadow := s.protection.active }, true) else (s, false)

/-- REVERT_SHADOW_SET (R311). -/
def execRevertShadowSet (value : BitVec 8) (s : State) : Host.Outcome State Fault Refusal :=
  if value = 1 then .next (revertShadowSet s).1 else .next s

/-! ### Lifecycle -/

/-- Enabled parties that hold LIFECYCLE and CONFIRM (Table 11-14). -/
def lifecycleParties (s : State) : Nat :=
  ((rangeFrom 1 8).filter fun p => hasRight p 2 s && hasRight p 1 s).length

/-- Lifecycle state of a value of 0x5000:02. -/
def lifecycleOf (v : Nat) : Lifecycle := match v with | 0 => .provision | 1 => .inService | _ => .decommissioned

/-- A lifecycle transition is accepted in the present mode and on the carrier of a session (Table 11-14). -/
def lifecycleAccepts (n : Nat) (target : Lifecycle) (s : State) : Bool :=
  let m := s.modes.mode
  let down := m == .stop || m == .fault
  match s.protection.lifecycle, target with
  | .provision, .inService => m == .provision && onFs n s && decide (2 ≤ lifecycleParties s)
  | .inService, .provision => down && onFs n s
  | .inService, .decommissioned => down
  | .provision, .decommissioned => m == .provision && onFs n s
  | .decommissioned, .provision => m == .fault && s.modes.cause == 0x0211 && onFs n s
  | _, _ => false

/-- Steps 1 and 2 of a lifecycle change (R309): the mark, then the lifecycle restart. -/
def changeLifecycle (target : Lifecycle) (s : State) : State :=
  beginRestart .lifecycle (writeLifecycle s.protection.lifecycle (some target) s)

/-- A committed debug unlock (R308); `erasedOk` is the verification of its erasure. -/
def unlockDebug (erasedOk : Bool) (s : State) : State :=
  let s := eraseSecret s
  if erasedOk then logOther .debugUnlock [] { s with protection.unlocked := true } else enterFault 0x1603 1 s

/-! ### Effects of RW2 entries -/

/-- A party's record changed, with its event; its sessions end when it is disabled or its key changes (R435). -/
def changeParty (p : Nat) (f : Party → Party) (s : State) : State :=
  let old := partyOf p s
  let new := f old
  let s := logOther .partyChange [p] { s with protection.parties := mapPut {} p new s.protection.parties }
  if (old.enabled && !new.enabled) || old.key != new.key then endParty p s else s

/-- A key of the key area written (R291). -/
def writeKey (k : Nat) (value : List Byte) (s : State) : State :=
  { s with protection.keys := mapPut [] k value s.protection.keys }

/-- A setting of this module written (R423); `d` is its Default. -/
def writeSetting (k : Nat) (d v : Int) (s : State) : State :=
  { s with nsp.settings := { s.nsp.settings with nums := mapPut d k v s.nsp.settings.nums } }

/-- A station key: it takes effect at a cycle boundary where cycles run (R385). -/
def writeStationKey (n : Nat) (value : List Byte) (s : State) : State :=
  let s := if n ∈ s.stations.rekeyed then s else { s with stations.oldKeys := mapPut [] n (stationKey n s) s.stations.oldKeys }
  let s := writeKey (ekey 0x8010 0x0F n 0) value s
  let s := { s with stations.rekeyed := insertNat n s.stations.rekeyed }
  if solving s.modes.mode then s else placeRekeyed s

/-- NSP status of a configuration commit by its result (R427, R442, Table 17-8). -/
def commitStatus (s : State) : Nat :=
  match s.nsp.commitResult with
  | 0 | 1 => 0x00
  | 2 => 0x06
  | 3 => 0x08
  | _ => 0x05

/-- NSP status of a change command by its result (R182, R442). -/
def changeStatus (s : State) : Nat :=
  match s.change.result with
  | 0 | 1 => 0x00
  | 2 => 0x06
  | 3 => 0x0C
  | _ => 0x0D

/-- The content of an RW2 entry takes effect (R300): the state after it, with the NSP status of a command that it gives. A
value of 0 commands nothing. -/
def takeRw2 (key sel : Nat) (value : List Byte) (erasedOk : Bool) (s : State) : State × Nat :=
  let v := ofLe value
  let done (s : State) : State × Nat := (s, 0x00)
  match key with
  | 0x200303 => done (writeSetting (ekey 0x2003 3 0 0) 0 v s)
  | 0xA02203 => done (writeSetting (ekey 0xA022 3 0 0) 0 v s)
  | 0x300102 => done (writeKey (ekey 0x3001 2 0 0) value s)
  | 0x703002 => done (writeKey (ekey 0x7030 2 sel 0) value s)
  | 0x803006 => done (writeKey (ekey 0x8030 6 0 0) value s)
  | 0x80100F => done (writeStationKey sel value s)
  | 0x500603 => done (changeParty sel (fun p => { p with rights := BitVec.ofNat 4 v }) s)
  | 0x500604 => done (changeParty sel (fun p => { p with key := value }) s)
  | 0x500605 => done (changeParty sel (fun p => { p with enabled := v == 1 }) s)
  | 0x500002 => done (changeLifecycle (lifecycleOf v) s)
  | _ =>
    if v = 0 then done s
    else match key with
      | 0x200102 => let s := commandRestart .coldCommand s
        (s, if s.modes.commandResult = 2 then 0x06 else 0x00)
      | 0x204003 => let s := commandSwitch s
        (s, changeStatus s)
      | 0x500004 => done (unlockDebug erasedOk s)
      | 0x500102 => done (confirmRules s)
      | 0x101001 => let s := confirmCommit s
        (s, commitStatus s)
      | 0xB00106 => let s := commandRevert s
        (s, updateStatus s)
      | 0xB00107 => let s := commandActivate s
        (s, updateStatus s)
      | 0xB00201 => let s := commandPairUpdate s
        (s, updateStatus s)
      | _ => done s

/-! ### Proposals -/

/-- The mode and lifecycle state accept a value of an RW2 entry (R300). -/
def rw2Accepts (n key v : Nat) (s : State) : Bool :=
  let m := s.modes.mode
  if key = 0x500002 then lifecycleAccepts n (lifecycleOf v) s
  else if v = 0 then true
  else match key with
    | 0x200102 | 0xB00106 | 0xB00107 => acceptsRestart s
    | 0x204003 => m == .active || m == .solo
    | 0x500004 => s.protection.lifecycle == .inService && (m == .stop || m == .fault)
    | 0x101001 => m == .active || m == .solo || m == .stop || m == .fault || m == .provision || m == .load || m == .handover
    | _ => true

/-- The mode accepts a proposal: a module in STANDBY refuses every one (R301); a confirmation is held against the mode that its content
needs alone, so that a COLD RESTART proposed before STANDBY commits there (R71, Table 3-7). -/
def rw2Mode (n key v : Nat) (s : State) : Bool := s.modes.mode != .standby && rw2Accepts n key v s

/-- Right that an entry needs of both parties besides PROPOSE and CONFIRM (Table 11-11). -/
def extraRight (key : Nat) : Option Nat := if key = 0x500002 then some 2 else if key = 0x500004 then some 3 else none

/-- A party has a right and the extra one of the entry. -/
def mayTakePart (p bit key : Nat) (s : State) : Bool :=
  hasRight p bit s && (match extraRight key with | some b => hasRight p b s | none => true)

/-- A pending proposal or a commit under way concerns the target (R301). -/
def rw2Conflict (key v : Nat) (s : State) : Bool :=
  s.protection.proposals.any (fun p => p.index.toNat * 256 + p.sub.toNat == key) ||
    (key == 0x500102 && v == 1 && s.protection.stage != .open) || (key == 0x101001 && v == 1 && s.nsp.commit != .none)

/-- Digest of a proposal's content (R300). -/
def rw2Digest (key : Nat) (value : List Byte) (s : State) : BitVec 32 :=
  if key = 0x500102 then crc32 (ruleBytes s.protection.shadow)
  else crc32 (leBytes 2 (key / 256) ++ leBytes 1 (key % 256) ++ value)

/-- Result with which a proposal is refused (Table 11-12); 1 when it is accepted. -/
def proposalResult (n key : Nat) (value : List Byte) (s : State) : Nat :=
  let v := ofLe value
  if rw2Mode n key v s = false then 2
  else if mayTakePart (session n s).party 0 key s = false then 3
  else if rw2Fits key value = false then 9
  else if key = 0x500102 ∧ v = 1 ∧ (firstBadRegion s).isSome then 9
  else if rw2Conflict key v s then 7
  else if 8 ≤ s.protection.proposals.length then 8
  else 1

/-- A proposal freezes the shadow that it concerns (R301, R426). -/
def freezeFor (key v : Nat) (s : State) : State :=
  if key = 0x500102 ∧ v = 1 then { s with protection.stage := .proposed }
  else if key = 0x101001 ∧ v = 1 then { s with nsp.commit := .proposed }
  else s

/-- A proposal that lapses or is withdrawn frees the shadow that it concerned. -/
def thawFor (p : Proposal) (s : State) : State :=
  let key := p.index.toNat * 256 + p.sub.toNat
  if key = 0x500102 ∧ s.protection.stage = .proposed then { s with protection.stage := .open }
  else if key = 0x101001 ∧ s.nsp.commit = .proposed then { s with nsp.commit := .none }
  else s

/-- A write of an RW2 entry as a proposal (R300): the state, the result, and an accepted proposal. -/
def propose (n key : Nat) (value : List Byte) (s : State) : State × Nat × Option Proposal :=
  let r := proposalResult n key value s
  if r = 1 then
    let num := s.protection.nextNumber
    let p : Proposal :=
      { number := num, index := BitVec.ofNat 16 (key / 256), sub := BitVec.ofNat 8 key, sel1 := rw2Selection n key s, sel2 := 0
        value := value, proposer := (session n s).party, digest := rw2Digest key value s, madeAt := s.network.time.now }
    let s := freezeFor key (ofLe value) { s with
      protection.proposals := s.protection.proposals ++ [p]
      protection.nextNumber := if num = 0xFFFF then 1 else num + 1 }
    (twoParty n 1 s, 1, some p)
  else
    let s := match key, firstBadRegion s with
      | 0x500102, some k => if r = 9 then { s with protection.invalidRegion := k } else s
      | _, _ => s
    (twoParty n r s, r, none)

/-- The write takes effect at once (R310, Table 11-14): in PROVISION mode, the request for IN_SERVICE apart, and the request
that a decommissioned module accepts. -/
def rw2Direct (key v : Nat) (s : State) : Bool :=
  (s.modes.mode == .provision && !(key == 0x500002 && v == 1)) ||
    (s.protection.lifecycle == .decommissioned && key == 0x500002 && v == 0)

/-- A write of an RW2 entry (R300, R310, R441): the state, the NSP status and the reply's body. -/
def writeRw2 (n key : Nat) (value : List Byte) (s : State) : State × Nat × List Byte :=
  let v := ofLe value
  if rw2Direct key v s then
    if rw2Fits key value = false then (s, 0x05, [])
    else if rw2Mode n key v s = false then (s, 0x06, [])
    else if key = 0x500102 ∧ rw2Conflict key v s = true then (twoParty n 7 s, 0x0B, leBytes 1 7)
    else if key = 0x500102 ∧ v = 1 ∧ (firstBadRegion s).isSome then
      ({ s with protection.invalidRegion := (firstBadRegion s).getD 0 }, 0x0B, leBytes 1 9)
    else
      let r := takeRw2 key (rw2Selection n key s) value true (twoParty n 0 s)
      (r.1, r.2, leBytes 1 0)
  else
    let r := propose n key value s
    match r.2.2 with
    | some p => (r.1, 0x00, leBytes 2 p.number.toNat ++ leBytes 4 p.digest.toNat ++ leBytes 1 1)
    | none => (r.1, if s.modes.mode = .standby then 0x06 else 0x0B, leBytes 1 r.2.1)

/-- RW2_PROPOSAL (R300): a write to an RW2 entry. -/
def execRw2Proposal (session : Fin 16) (index : BitVec 16) (sub : BitVec 8) (value : List Byte) (t : Nat) (s : State) :
    Host.Outcome State Fault Refusal :=
  let s := atTime t s
  let key := index.toNat * 256 + sub.toNat
  if (Machine.session session.val s).phase = .isOpen ∧ rw2Entries.any (fun x => x.1 == key) then
    .next (writeRw2 session.val key value s).1
  else .next s

/-- A pending proposal within its 60 s (R301). -/
def pendingProposal (number : BitVec 16) (s : State) : Option Proposal :=
  s.protection.proposals.find? fun p => p.number == number && decide (s.network.time.now < p.madeAt + 60000000000)

/-- The proposal leaves the pending ones. -/
def dropProposal (number : BitVec 16) (s : State) : State :=
  { s with protection.proposals := s.protection.proposals.filter fun p => p.number != number }

/-- Result with which a confirmation is refused (Table 11-12); 0 when it commits. -/
def confirmResult (n : Nat) (digest : BitVec 32) (p : Proposal) (s : State) : Nat :=
  let key := p.index.toNat * 256 + p.sub.toNat
  let party := (session n s).party
  if rw2Accepts n key (ofLe p.value) s = false then 2
  else if mayTakePart party 1 key s = false then 3
  else if party = p.proposer then 4
  else if digest ≠ p.digest then 5
  else 0

/-- A write of 0x5002:07 (R300): the state, the NSP status, the RESULT of the reply. -/
def confirmProposal (n : Nat) (number : BitVec 16) (digest : BitVec 32) (erasedOk : Bool) (s : State) : State × Nat × Nat :=
  match pendingProposal number s with
  | none => (twoParty n 6 s, 0x0B, 6)
  | some p =>
    let r := confirmResult n digest p s
    if r ≠ 0 then (twoParty n r s, 0x0B, r)
    else
      let key := p.index.toNat * 256 + p.sub.toNat
      let rules := key = 0x500102 ∧ ofLe p.value = 1
      let s := twoParty n (if rules then 1 else 0) (dropProposal number s)
      let s := if rules then { s with protection.ruleSession := some n } else s
      let x := takeRw2 key p.sel1 p.value erasedOk s
      (x.1, x.2, if rules then 1 else 0)

/-- PROPOSAL_CONFIRM (R300). -/
def execProposalConfirm (session : Fin 16) (number : BitVec 16) (digest : BitVec 32) (erasedOk : Bool) (t : Nat) (s : State) :
    Host.Outcome State Fault Refusal :=
  let s := atTime t s
  if (Machine.session session.val s).phase = .isOpen then .next (confirmProposal session.val number digest erasedOk s).1
  else .next s

/-- A write of 0x5002:08 (R300): the state, and its result. -/
def withdrawProposal (n : Nat) (number : BitVec 16) (s : State) : State × Nat :=
  match pendingProposal number s with
  | none => (twoParty n 6 s, 6)
  | some p =>
    if p.proposer = (session n s).party then (twoParty n 0 (thawFor p (dropProposal number s)), 0)
    else (twoParty n 3 s, 3)

/-- PROPOSAL_WITHDRAW (R300). -/
def execProposalWithdraw (session : Fin 16) (number : BitVec 16) (s : State) : Host.Outcome State Fault Refusal :=
  if (Machine.session session.val s).phase = .isOpen then .next (withdrawProposal session.val number s).1 else .next s

/-- PROPOSAL_DEADLINE (R301): 60 s have passed and the proposal lapses. -/
def execProposalDeadline (number : BitVec 16) (s : State) : Host.Outcome State Fault Refusal :=
  match s.protection.proposals.find? fun p => p.number == number with
  | some p => .next (thawFor p (dropProposal number s))
  | none => .next s

end Sys2Proof.Machine
end

