-- ==== Sys2Proof/Machine/Stations.lean ====
section
/-!
DEFINITION. Station frames, station states, guests and the event loom (15_stations_and_io_exchange.md R382–R400).
-/
namespace Sys2Proof.Machine

/-! ### Checks of a station frame -/

/-- Kinds of station frames that a station sends (Table 15-1). -/
def kindAnnounce : Nat := 1
/-- KIND of an INPUT frame (Table 15-1). -/
def kindInput : Nat := 2
/-- KIND of an EVENT frame (Table 15-1). -/
def kindEvent : Nat := 4
/-- KIND of a LEAVING frame (Table 15-1). -/
def kindLeaving : Nat := 5

/-- Payload length of an INPUT frame of station `n` (Table 15-2). -/
def inputLength (e : Entries) (n : Nat) : Nat :=
  let d := cfgDigitalIns e n
  let a := cfgAnalogueIns e n
  valueBytes d a + (2 * (d + a) + 7) / 8

/-- Payload length that the station's configuration gives a kind (Table 15-2). -/
def stationLength (e : Entries) (k n : Nat) : Nat :=
  if k = kindInput then inputLength e n else if k = kindEvent then 16 else 0

/-- STATION names a configured station (0x8010:02). -/
def isConfigured (n : Nat) (s : State) : Bool := decide (n < 1024) && cfgStationConfigured s.nsp.inForce n

/-- Step 1 of R383 for a frame that comes as kind `k`. -/
def formOk (k : Nat) (f : StationFrame) (s : State) : Bool :=
  let e := s.nsp.inForce
  f.kind == k && (!isConfigured f.station s || (f.ring == (cfgStationRing e f.station == 1) &&
    (k == kindAnnounce || f.payload.length == stationLength e k f.station)))

/-- Step 4 of R383: 0 fails, 1 the accepted session, 2 a new session. -/
def sessionStep (k : Nat) (f : StationFrame) (s : State) : Nat :=
  match (station f.station s).session with
  | none => if k = kindAnnounce then 2 else 0
  | some a =>
    if f.session = a then 1
    else if k = kindAnnounce ∧ (f.session - a).toNat ≤ 32767 then 2 else 0

/-- A frame is discarded: counted, and reported unless it is a duplicate (R383). -/
def rejectStation (step : Nat) (duplicate : Bool) (n : Nat) (s : State) : State :=
  let s := if n < 1024 then modStation n (fun x => { x with rejected := satU32 (x.rejected + 1) }) s else s
  if duplicate then s
  else report (cfgStationClass s.nsp.inForce n) 0x03 step 0 (n % 2 ^ 14) 2 s

/-- A new session: the sequence state and both input buffers are cleared (R383 step 4). -/
def newSession (v : BitVec 16) (n : Nat) (s : State) : State :=
  modStation n (fun x => { x with session := some v, seq := none, latest := none, frozen := none }) s

/-- What the checks of R383 found. -/
inductive FrameVerdict where
  | failed
  /-- Passed; the flag says that the session is a new one. -/
  | passed (fresh : Bool)
  deriving DecidableEq, Repr

/-- Steps 5 and 6 of R383 for a frame of the accepted session; `t` is the receive timestamp. -/
def sequenceStep (k : Nat) (f : StationFrame) (t : Nat) (fresh : Bool) (s : State) : State × FrameVerdict :=
  let n := f.station
  let d := match (station n s).seq with | some q => (f.seq - q).toNat | none => 1
  if d = 0 then (rejectStation 5 true n s, .failed)
  else if 32767 < d then (rejectStation 5 false n s, .failed)
  else
    let take (s : State) : State := modStation n (fun x => { x with seq := some f.seq }) s
    if k = kindInput ∨ k = kindEvent then
      let c := delayCheck (cfgStationClass s.nsp.inForce n) f.time (timeAt s t) s
      if c.2 then (take c.1, .passed fresh) else (rejectStation 6 false n c.1, .failed)
    else (take s, .passed fresh)

/-- The checks of R383 in their order on a frame that comes as kind `k`. -/
def checkStation (k : Nat) (f : StationFrame) (cmacOk : Bool) (t : Nat) (s : State) : State × FrameVerdict :=
  let n := f.station
  if formOk k f s = false then (rejectStation 1 false n s, .failed)
  else if isConfigured n s = false then (rejectStation 2 false n s, .failed)
  else if cmacOk = false then (rejectStation 3 false n s, .failed)
  else match sessionStep k f s with
    | 0 => (rejectStation 4 false n s, .failed)
    | 1 => sequenceStep k f t false s
    | _ => sequenceStep k f t true (newSession f.session n s)

/-- The JERSEY of a frame that passed (R383): shown, and held against the module's own (R222, R225). -/
def stationJersey (f : StationFrame) (s : State) : State :=
  reportedJersey f.jersey (modStation f.station (fun x => { x with jersey := f.jersey }) s)

/-- A station frame is at hand: the network island has passed it on. -/
def takeStationFrame (t : Nat) (s : State) : State :=
  let s := atTime t s
  takeNet (cfgStationEtherType s.nsp.inForce) s

/-! ### Guests -/

/-- The announcement in a payload (Table 15-2). -/
def announceOf (b : List Byte) : Announce :=
  { type := BitVec.ofNat 32 (fieldLe 0 4 b), serial := BitVec.ofNat 64 (fieldLe 4 8 b), layout := BitVec.ofNat 32 (fieldLe 12 4 b)
    digitalIn := fieldLe 16 2 b, analogueIn := fieldLe 18 2 b, digitalOut := fieldLe 20 2 b, analogueOut := fieldLe 22 2 b }

/-- Guest slot `g`. -/
def guest (g : Nat) (s : State) : Option Guest := mapVal none g s.stations.guests

/-- Guest slot `g` set. -/
def putGuest (g : Nat) (x : Option Guest) (s : State) : State :=
  { s with stations.guests := mapPut none g x s.stations.guests }

/-- A guest holds the slot; one whose guest timeout has expired is free (R387). -/
def slotTaken (g : Nat) (s : State) : Bool := match guest g s with | some x => !x.clearing | none => false

/-- The slot that a source address holds (R387). -/
def slotOf (source : BitVec 48) (s : State) : Option Nat :=
  (List.range 64).find? fun g => match guest g s with | some x => x.source == source && !x.clearing | none => false

/-- The lowest free slot within the guest allowance (R173). -/
def freeSlot (s : State) : Option Nat :=
  (List.range (min 64 (cfgGuestAllowance s.nsp.inForce))).find? fun g => !slotTaken g s

/-- Frames of guests are checked against the guest key (0x8030:08, R387). -/
def guestChecked (s : State) : Bool := cfgGuestAuthentication s.nsp.inForce == 1

/-- A frame that fails the guest key is discarded and counted (R387). -/
def rejectGuest (s : State) : State := { s with stations.guestsRejected := satU32 (s.stations.guestsRejected + 1) }

/-- An ANNOUNCE of an unplanned station (R173, R387). -/
def takeGuest (f : StationFrame) (cmacOk : Bool) (s : State) : State :=
  let a := announceOf f.payload
  let auth := guestChecked s
  if auth = true ∧ cmacOk = false then rejectGuest s
  else match slotOf f.source s with
    | some g => match guest g s with
      | some x => putGuest g (some { x with ring := f.ring, number := f.station, type := a.type, serial := a.serial }) s
      | none => s
    | none => match freeSlot s with
      | some g => putGuest g (some
          { ring := f.ring, source := f.source, number := f.station, type := a.type, serial := a.serial, auth := auth }) s
      | none =>
        let s := { s with cycle.guestsWithoutSlot := satU32 (s.cycle.guestsWithoutSlot + 1) }
        report 3 0x09 f.ring.toNat 2 (slotNumber s) 0 s

/-- An INPUT of an unplanned station: taken from a guest's address with its announced number (R387). -/
def guestData (f : StationFrame) (cmacOk : Bool) (t : Nat) (s : State) : State :=
  match slotOf f.source s with
  | some g => match guest g s with
    | some x =>
      if x.number ≠ f.station then s
      else if x.auth = true ∧ cmacOk = false then rejectGuest s
      else putGuest g (some { x with latest := some (f.payload, t), fresh := true }) s
    | none => s
  | none => s

/-! ### Station frames -/

/-- An accepted ANNOUNCE of a configured station: a new session places the station, a repeated one only out of ABSENT (R383,
R384). -/
def takeAnnounce (f : StationFrame) (fresh : Bool) (s : State) : State :=
  let n := f.station
  let a := announceOf f.payload
  let s := modStation n (fun x => { x with mac := f.source, announce := some a }) s
  let s := if fresh || (station n s).state == .absent then placeStation n a s else s
  stationJersey f s

/-- An ANNOUNCE by its checks: a configured station's is judged by R383, another's is a guest's (R387). -/
def announced (f : StationFrame) (cmacOk : Bool) (t : Nat) (s : State) : State :=
  if formOk kindAnnounce f s = true ∧ isConfigured f.station s = false then takeGuest f cmacOk s
  else match checkStation kindAnnounce f cmacOk t s with
    | (s, .passed fresh) => takeAnnounce f fresh s
    | (s, .failed) => s

/-- A standby module tracks a station by the STATE of its last complete INPUT frame (R396). -/
def trackStation (n : Nat) (state : BitVec 2) (s : State) : State :=
  let old := (station n s).state
  if old = .absent ∨ old = .mismatch then s
  else if state = 0 then
    if old = .inService then s else stationReport 0x02 (ringKey n s) n 1 (enterStation n .inService s)
  else if old = .joining then s else enterJoining n s

/-- A complete INPUT frame is the latest of its station (R16, R384); a frame whose buffer lies on a DRAM channel out of
service never becomes complete (R261, Table 9-3). -/
def takeInput (f : StationFrame) (t : Nat) (s : State) : State :=
  let n := f.station
  let s := if bufferLost n s then s else
    let s := modStation n (fun x => { x with
      latest := some { cycle := f.cycle, state := f.state, jersey := f.jersey, payload := f.payload, stamp := t }
      everComplete := true }) s
    if s.modes.mode = .standby then trackStation n f.state s
    else if (station n s).state = .dropped then enterJoining n s else s
  stationJersey f s

/-- A report of a station's EVENT frame (R398): class of the station, receive timestamp. -/
def takeEvent (f : StationFrame) (t : Nat) (s : State) : State :=
  let b := f.payload
  stationJersey f (intake (cfgStationClass s.nsp.inForce f.station)
    { key := BitVec.ofNat 32 (fieldLe 0 4 b), reporter := BitVec.ofNat 16 f.station, stamp := timeAt s t
      severity := (byteAt 4 b).toNat, arg := BitVec.ofNat 64 (fieldLe 8 8 b) } s)

/-- A frame that a running island 4 has received reaches the hub through crossing 7 (R10, R319). -/
def fromNetwork (t : Nat) (f : State → State) (s : State) : State :=
  let s := takeStationFrame t s
  if islandUp 4 s then through 7 f s else s

/-- ANNOUNCE (R61, R383–R385): accepted from step 5 of LOAD on. -/
def execAnnounce (f : StationFrame) (cmacOk : Bool) (t : Nat) (s : State) : Host.Outcome State Fault Refusal :=
  .next (fromNetwork t (fun s => if s.modes.loadStepsDone then announced f cmacOk t s else s) s)

/-- INPUT (R383, R384, R386); one of an unconfigured station is a guest's (R387). -/
def execInput (f : StationFrame) (cmacOk : Bool) (t : Nat) (s : State) : Host.Outcome State Fault Refusal :=
  .next (fromNetwork t (fun s =>
    if formOk kindInput f s = true ∧ isConfigured f.station s = false then guestData f cmacOk t s
    else match checkStation kindInput f cmacOk t s with
      | (s, .passed _) => takeInput f t s
      | (s, .failed) => s) s)

/-- EVENT (R383, R398). -/
def execEvent (f : StationFrame) (cmacOk : Bool) (t : Nat) (s : State) : Host.Outcome State Fault Refusal :=
  .next (fromNetwork t (fun s => match checkStation kindEvent f cmacOk t s with
    | (s, .passed _) => takeEvent f t s
    | (s, .failed) => s) s)

/-- STATION_LEAVING (R384): an accepted LEAVING makes the station ABSENT from any state. -/
def execStationLeaving (f : StationFrame) (cmacOk : Bool) (t : Nat) (s : State) : Host.Outcome State Fault Refusal :=
  .next (fromNetwork t (fun s => match checkStation kindLeaving f cmacOk t s with
    | (s, .passed _) => stationJersey f (enterStation f.station .absent s)
    | (s, .failed) => s) s)

/-- STATION_INPUT_TIMEOUT (R386): the timeout has run from the receive timestamp of the last complete INPUT frame. -/
def execStationInputTimeout (station : Fin 1024) (t : Nat) (s : State) : Host.Outcome State Fault Refusal :=
  let s := atTime t s
  let n := station.val
  let x := Machine.station n s
  let ran := match x.latest with
    | some f => decide (f.stamp + 1000000 * cfgInputTimeout s.nsp.inForce n ≤ t)
    | none => true
  if islandUp 4 s = true ∧ (x.state = .joining ∨ x.state = .inService) ∧ ran = true then
    .next (stationReport 0x01 (ringKey n s) n 2
      (modStation n (fun y => { y with dropouts := satU32 (y.dropouts + 1) }) (enterStation n .dropped s)))
  else .next s

/-- STATION_RESYNC_SLOW (R393). -/
def execStationResyncSlow (station : Fin 1024) (s : State) : Host.Outcome State Fault Refusal :=
  let n := station.val
  if (Machine.station n s).state = .joining then
    .next (raiseAlarm .stationResyncSlow n (modStation n (fun x => { x with resyncSlow := true }) s))
  else .next s

/-- GUEST_ANNOUNCE (R61, R173, R387): accepted from step 5 of LOAD on. -/
def execGuestAnnounce (f : StationFrame) (cmacOk : Bool) (t : Nat) (s : State) : Host.Outcome State Fault Refusal :=
  .next (fromNetwork t (fun s =>
    if s.modes.loadStepsDone = false ∨ isConfigured f.station s = true then s
    else if formOk kindAnnounce f s then takeGuest f cmacOk s else rejectStation 1 false f.station s) s)

/-- GUEST_INPUT (R387). -/
def execGuestInput (f : StationFrame) (cmacOk : Bool) (t : Nat) (s : State) : Host.Outcome State Fault Refusal :=
  .next (fromNetwork t (fun s =>
    if isConfigured f.station s then s
    else if formOk kindInput f s then guestData f cmacOk t s else rejectStation 1 false f.station s) s)

/-- GUEST_TIMEOUT (R387): the slot is free; the next XCH phase clears its words. -/
def execGuestTimeout (slot : Fin 64) (s : State) : Host.Outcome State Fault Refusal :=
  match guest slot.val s with
  | some g => .next (putGuest slot.val (some { g with clearing := true }) s)
  | none => .next s

/-! ### The event loom -/

/-- The class whose report the loom takes next: strict order S, A, B, C (R399). -/
def nextReport (s : State) : Option (Nat × LoomReport) :=
  (List.range 4).findSome? fun c => match (loom c s).intake with | r :: _ => some (c, r) | [] => none

/-- LOOM_REPORT (R399, R400). -/
def execLoomReport (t : Nat) (s : State) : Host.Outcome State Fault Refusal :=
  let s := atTime t s
  match nextReport s with
  | some (c, r) => .next (handleReport c r (modLoom c (fun l => { l with intake := l.intake.drop 1 }) s))
  | none => .next s

/-- EVENT_COALESCE_EXPIRY (R400). -/
def execEventCoalesceExpiry (cls : TClass) (key : BitVec 32) (s : State) : Host.Outcome State Fault Refusal :=
  .next (closeKey (classCode cls) key false s)

/-- EVENT_OPEN_LIMIT (R400): CLOSED_BY_LIMIT. -/
def execEventOpenLimit (cls : TClass) (key : BitVec 32) (s : State) : Host.Outcome State Fault Refusal :=
  .next (closeKey (classCode cls) key true s)

/-- Records that a read of 0x8041:01 takes: up to 16 oldest unread (Table 15-11). -/
def unreadEvents (c : Nat) (s : State) : List LoomEvent := ((loom c s).ring.drop (loom c s).readMarks).take 16

/-- The value of 0x8041:01 for a class; the records taken are marked read (Table 15-11). -/
def takeEvents (c : Nat) (s : State) : State × List Byte :=
  let l := unreadEvents c s
  (modLoom c (fun x => { x with readMarks := x.readMarks + l.length }) s, l.flatMap (loomBytes c))

/-- A session holds a new snapshot of an entry (R436): it replaces the one of that entry. -/
def keepSnapshot (n : Nat) (x : ReadSnapshot) (s : State) : State :=
  modSession n (fun y => { y with
    snapshots := x :: y.snapshots.filter fun z => !(z.index == x.index && z.sub == x.sub) }) s

/-- Class that a session has selected in 0x8040:03 (R402, R424). -/
def loomClass (n : Nat) (s : State) : Nat := (mapVal 0 (0x8040 * 256 + 3) (session n s).selectors).toNat

/-- EVENT_READ (R402, R436): a session takes the records of its class as the snapshot of its read. -/
def execEventRead (session : Fin 16) (s : State) : Host.Outcome State Fault Refusal :=
  let n := session.val
  if (Machine.session n s).phase = .isOpen then
    let r := takeEvents (loomClass n s) s
    .next (keepSnapshot n { index := 0x8041, sub := 1, data := r.2 } r.1)
  else .next s

end Sys2Proof.Machine
end

