-- ==== Sys2Proof/Machine/TimeSync.lean ====
section
/-!
DEFINITION. The time island: domains, servo, steps (13_plant_network_and_time.md R337–R343).
-/
namespace Sys2Proof.Machine

/-- A domain's record changed, 1 A or 2 B. -/
def modDomain (d : Nat) (f : Domain → Domain) (s : State) : State :=
  if d = 2 then { s with network.time.domainB := f s.network.time.domainB }
  else { s with network.time.domainA := f s.network.time.domainA }

/-- The other domain. -/
def otherDomain (d : Nat) : Nat := if d = 1 then 2 else 1

/-- Modes in which an offset above 1 ms is removed by a step (R340). -/
def stepsTime (s : State) : Bool :=
  match s.modes.mode with
  | .load | .stop | .fault | .provision => true
  | _ => false

/-- Modes in which the time base never steps (R340). -/
def neverSteps (s : State) : Bool := solving s.modes.mode || s.modes.mode == .standby

/-- The state of the time base (Table 13-3) with its alarm (R343). -/
def setTimeState (k : Nat) (s : State) : State :=
  freeAlarm { s with
    network.time.state := k
    network.time.within := 0
    network.time.beyond := 0 }

/-- Every gate list realigns to the time base (R336). -/
def realignGates (s : State) : State :=
  { s with network.ports := mapAll {} (fun _ p => { p with entry := gateEntryAt (timeBase s) p.gates }) s.network.ports }

/-- The time base steps by an offset: waiting launch frames are discarded, the gate lists realign, the step is recorded (R336, R340). -/
def stepTime (off : Int) (s : State) : State :=
  let s := dropLaunches s
  logOther .timeStep [] (realignGates { s with
    network.time.offset := s.network.time.offset + off
    network.time.steps := s.network.time.steps + 1 })

/-- The frequency correction of one Sync interval of 125 ms, within the slew limit in ppm (R340). -/
def slewTime (s : State) : State :=
  let d := drawNat s
  let s := d.2
  let limit : Int := 125 * setSlewLimit s.nsp.settings
  { s with network.time.offset := s.network.time.offset + max (-limit) (min limit (Config.servoStep d.1)) }

/-- The time base has not run below the instant `b` that it has shown (R337). -/
def neverBack (b : Int) (s : State) : State :=
  { s with network.time.offset := max s.network.time.offset (b - Int.ofNat s.network.time.now) }

/-- A Sync message of the followed domain is held against Table 13-3. -/
def judgeOffset (off : Int) (s : State) : State :=
  let t := s.network.time
  let within := if off.natAbs ≤ 100 then t.within + 1 else 0
  let beyond := if 1000 < off.natAbs then t.beyond + 1 else 0
  if t.state = 1 ∧ 8 ≤ within then setTimeState 2 s
  else if t.state = 2 ∧ 8 ≤ beyond then setTimeState 1 s
  else { s with
    network.time.within := min within 8
    network.time.beyond := min beyond 8 }

/-- A domain becomes the selected one: LOCKING, with an event when it takes the place of another (R342, Table 13-3). -/
def selectDomain (d : Nat) (s : State) : State :=
  let old := s.network.time.selected
  let s := setTimeState (if s.network.time.state = 2 ∧ old = d then 2 else 1) { s with network.time.selected := d }
  if old ≠ 0 ∧ old ≠ d then logOther .domainSwitch [old, d] s else s

/-- The selected domain is lost, or its offset is not followed: HOLDOVER when the time base was following (R340, R342). -/
def loseDomain (s : State) : State :=
  if s.network.time.state = 1 ∨ s.network.time.state = 2 then setTimeState 3 s else s

/-- The servo takes a Sync message of the domain that it follows, or begins to follow (R340). DESIGN CHOICE (assumption log 152): an offset
that is followed again clears the alarm "time offset too large". -/
def followDomain (d : Nat) (s : State) : State :=
  let off := offsetFrom d s
  if off.natAbs ≤ 1000000 then
    let s := clearAlarm .timeOffsetTooLarge 0 s
    let s := if s.network.time.state = 1 ∨ s.network.time.state = 2 then s else selectDomain d s
    slewTime (judgeOffset off s)
  else if stepsTime s then
    let s := if s.network.time.state = 1 ∨ s.network.time.state = 2 then s else selectDomain d s
    judgeOffset 0 (stepTime off s)
  else if neverSteps s then raiseAlarm .timeOffsetTooLarge 0 (loseDomain s)
  else s

/-- The servo switches to the other domain without a step, when that one is good and within 1 ms; else HOLDOVER (R342). -/
def switchDomain (d : Nat) (s : State) : State :=
  if (domainOf d s).good = false then loseDomain s
  else if (offsetFrom d s).natAbs ≤ 1000000 then selectDomain d s
  else
    let s := loseDomain s
    if neverSteps s then raiseAlarm .timeOffsetTooLarge 0 s else s

/-- The domain may be followed now: it is the selected one; or none is followed, and it is the preferred one or the preferred
one is not good (R342). -/
def mayFollow (d : Nat) (s : State) : Bool :=
  let t := s.network.time
  let following := t.state == 1 || t.state == 2
  let p := setPreferredDomain s.nsp.settings
  if following then t.selected == d else d == p || !(domainOf p s).good

/-- The domain is enabled, and the islands that serve it run (R341). -/
def domainRuns (d : Nat) (s : State) : Bool := cfgDomainPorts s.nsp.inForce d != 0 && islandUp 4 s && islandUp 6 s

/-- A gPTP message queued at priority 7 of one port (R334). -/
def gptpFrame (p length : Nat) (s : State) : State :=
  enterQueue { ring := ringOf p, dest := none, etherType := 0x88F7, priority := none, length := length, payload := [] } p s

/-- Ports of an instance (0x6021:03). -/
def domainPorts (d : Nat) (s : State) : List Nat := (rangeFrom 1 4).filter fun p => (cfgDomainPorts s.nsp.inForce d).testBit (p - 1)

/-- A two-step Sync leaves on a port: the Sync and its Follow_Up (R341). -/
def sendSync (p : Nat) (s : State) : State := gptpFrame p 94 (gptpFrame p 64 s)

/-- A Sync that was received is relayed on the instance's other ports; the port that it came on is a free value (R333, R341; assumption
log 153). -/
def relaySync (d : Nat) (s : State) : State :=
  let r := drawNat s
  ((domainPorts d s).filter fun p => p != r.1 % 4 + 1).foldl (fun s p => sendSync p s) r.2

/-- SYNC_RECEIVED (R340–R342): the time base does not run backwards but by a step (R337). -/
def execSyncReceived (domain : Fin 2) (grandmaster : BitVec 64) (offset : Int) (t : Nat) (s : State) :
    Host.Outcome State Fault Refusal :=
  let shown := Int.ofNat s.network.time.now + s.network.time.offset
  let s := atTime t s
  let d := domain.val + 1
  if domainRuns d s then
    let s := relaySync d (modDomain d (fun x => { x with
      good := true
      grandmaster := grandmaster
      offset := offset
      goodSince := if x.good then x.goodSince else s.network.time.now }) s)
    let r := if mayFollow d s then followDomain d s else s
    .next (if r.network.time.steps = s.network.time.steps then neverBack shown r else r)
  else .next s

/-- SYNC_RECEIPT_TIMEOUT (R342): the domain is no longer good; the followed one is left. -/
def execSyncReceiptTimeout (domain : Fin 2) (s : State) : Host.Outcome State Fault Refusal :=
  let d := domain.val + 1
  if (domainOf d s).good then
    let s := modDomain d (fun x => { x with good := false }) s
    let t := s.network.time
    .next (if (t.state = 1 ∨ t.state = 2) ∧ t.selected = d then switchDomain (otherDomain d) s else s)
  else .next s

/-- DOMAIN_REVERT (R342): back to the preferred domain, good for 10 s. -/
def execDomainRevert (s : State) : Host.Outcome State Fault Refusal :=
  let t := s.network.time
  let p := setPreferredDomain s.nsp.settings
  let x := domainOf p s
  if setRevertive s.nsp.settings ∧ x.good ∧ x.goodSince + 10000000000 ≤ t.now ∧ (t.state = 1 ∨ t.state = 2) ∧
      t.selected ≠ p ∧ (offsetFrom p s).natAbs ≤ 1000000 then
    .next (selectDomain p s)
  else .next s

/-- HOLDOVER_EXPIRY (R343): the time base is FREE. -/
def execHoldoverExpiry (s : State) : Host.Outcome State Fault Refusal :=
  if s.network.time.state = 3 then .next (setTimeState 0 { s with network.time.selected := 0 }) else .next s

/-- Domain that a commanded step takes: the selected one, else a good one, the preferred one first. -/
def stepDomain (s : State) : Option Nat :=
  let p := setPreferredDomain s.nsp.settings
  let t := s.network.time.selected
  if t ≠ 0 ∧ (domainOf t s).good then some t
  else if (domainOf p s).good then some p
  else if (domainOf (otherDomain p) s).good then some (otherDomain p)
  else none

/-- A write to 0x6020:0B (R340): accepted in STOP only; the state, and its NSP status. -/
def commandStep (s : State) : State × Nat :=
  if s.modes.mode ≠ .stop then (s, 0x06)
  else match stepDomain s with
    | some d =>
      let s := stepTime (offsetFrom d s) s
      (if s.network.time.state = 1 ∨ s.network.time.state = 2 then s else selectDomain d s, 0x00)
    | none => (s, 0x0D)

/-- TIME_STEP (R340). -/
def execTimeStep (value : BitVec 8) (s : State) : Host.Outcome State Fault Refusal :=
  if value = 1 then .next (commandStep s).1 else .next s

/-- PEER_DELAY_TIMER (R341): the delay of a port is measured, for every instance that uses the port. -/
def execPeerDelayTimer (port : Fin 4) (delay : Nat) (s : State) : Host.Outcome State Fault Refusal :=
  let p := port.val + 1
  if linkCarries (Machine.port p s) ∧ islandUp 4 s then
    .next ([1, 2].foldl (fun s d =>
      if (cfgDomainPorts s.nsp.inForce d).testBit port.val then
        modDomain d (fun x => { x with linkDelay := mapPut 0 p delay x.linkDelay }) s
      else s) s)
  else .next s

/-- GRANDMASTER_SYNC_TIMER (R341): a grandmaster sends a two-step Sync on the instance's ports. It is grandmaster while its
priority1 is below 255 and no Sync of another reaches it. -/
def execGrandmasterSyncTimer (domain : Fin 2) (t : Nat) (s : State) : Host.Outcome State Fault Refusal :=
  let s := atTime t s
  let d := domain.val + 1
  let e := s.nsp.inForce
  if domainRuns d s ∧ cfgPriority1 e d < 255 ∧ (domainOf d s).good = false then
    let s := (domainPorts d s).foldl (fun s p => sendSync p s) s
    .next (modDomain d (fun x => { x with syncSent := x.syncSent + 1 }) s)
  else .next s

end Sys2Proof.Machine
end

