-- ==== Sys2Proof/Machine/NspRead.lean ====
section
/-!
DEFINITION. What a read of a dictionary entry returns (17_object_dictionary.md R420–R425, R436, R447 and the entry tables of
the other chapters). A number that the manual does not state, such as the class of a partition that the program does not
have, is a free value (assumption log 2).
-/
namespace Sys2Proof.Machine

/-- TRUE reads 1. -/
def readBool (b : Bool) : Option Int := some (if b then 1 else 0)

/-- A count. -/
def readNat (n : Nat) : Option Int := some (Int.ofNat n)

/-- A count that saturates at U32. -/
def readU32 (n : Nat) : Option Int := readNat (satU32 n)

/-- A count that saturates at U16. -/
def readU16 (n : Nat) : Option Int := readNat (satU16 n)

/-- A number that saturates at the ends of S20. -/
def readS20 (v : Int) : Option Int := some (max (-524288) (min 524287 v))

/-- Tandems in a state of the plan in force, bit t tandem t (0x2010:04, :06). -/
def tandemMask (k : PlanState) (s : State) : Nat :=
  ((List.range 16).filter fun t => planStateOf t s == k).foldl (fun n t => n + 2 ^ t) 0

/-- Whole units left until an instant, rounded up. -/
def unitsLeft (until' unit : Nat) (s : State) : Nat := (until' - s.network.time.now + (unit - 1)) / unit

/-- Time that the confirmation deadline leaves, unit 1 s; 0 outside SWITCHED and without a deadline (R193, 0x2040:09). -/
def deadlineLeft (s : State) : Nat :=
  let n := setConfirmationDeadline s.nsp.settings
  if s.change.state = .switched ∧ n ≠ 0 then unitsLeft (s.change.switchedAt + n * 1000000000) 1000000000 s else 0

/-- Number of a supply input's state and voltage (0xA020). -/
def supplyVolts (i : SupplyInput) : Nat := min 7000 (i.millivolts / 10).toNat

/-- Hold-up state (0xA021:01); 3 is never reported (assumption log 70). -/
def holdUpState (s : State) : Nat :=
  if onBank s then 2 else if bankCharging s then 0 else 1

/-- Input power, unit 0.1 W: load and charger, nothing while no input is good (R45, R48, 0xA020:05). -/
def inputPower (s : State) : Nat := if onBank s then 0 else s.supply.loadPower + s.supply.chargingPower

/-- Hold-up time at 46 W from the bank capacitance, unit 0.1 ms: ½ C (48² − 20²) × 0.9 ÷ 46 (R48, 0xA021:04). DEDUCED from the
worked case of R48 (assumption log 71). -/
def holdUpTime (s : State) : Nat := (s.supply.capacitance * 85680 + 230000) / 460000

/-- Slot, supply and front panel (02_module_and_connectors.md). -/
def readModule (key : Nat) (s : State) : Option Int :=
  match key with
  | 0x103001 => readNat (slotNumber s)
  | 0x103002 => readBool s.front.slotValid
  | 0x103003 => readNat (pairPosition s)
  | 0x103004 => readNat (s.front.partnerSlot.getD 0xFF)
  | 0x103005 => readU16 s.front.slotChanges
  | 0x103006 => readBool s.front.partnerPresent
  | 0xA02001 => readNat s.supply.a.state
  | 0xA02002 => readNat s.supply.b.state
  | 0xA02003 => readNat (supplyVolts s.supply.a)
  | 0xA02004 => readNat (supplyVolts s.supply.b)
  | 0xA02005 => readNat (min 1000 (inputPower s))
  | 0xA02006 => readU32 s.supply.rideThroughs
  | 0xA02101 => readNat (holdUpState s)
  | 0xA02102 => readNat (min 5000 (s.supply.bankMillivolts / 10))
  | 0xA02103 => readNat (min 3000 s.supply.capacitance)
  | 0xA02104 => readNat (min 1000 (holdUpTime s))
  | 0xA02201 => readBool s.front.leverOpen
  | 0xA02202 => readNat (match s.front.extraction with | .seated => 0 | .preparing => 1 | .ready => 2 | .refused => 3)
  | 0xA02204 => readBool s.front.coverOpen
  | 0xA02205 => readNat (unitsLeft (s.front.identifyAt + s.front.identifySeconds * 1000000000) 1000000000 s)
  | _ => none

/-- Mode, start and restart (03_start_and_modes.md). -/
def readStart (key : Nat) (s : State) : Option Int :=
  match key with
  | 0x200001 => readNat (modeCode s.modes.mode)
  | 0x200002 => readNat (modeCode s.modes.previous)
  | 0x200003 => readNat s.modes.transCause
  | 0x200004 => readU32 ((s.network.time.now - s.modes.enteredAt) / 1000000)
  | 0x200005 => readBool s.modes.cold
  | 0x200006 => readNat s.modes.coldReason
  | 0x200007 => readNat s.modes.cause
  | 0x200008 => readU32 s.modes.startDuration
  | 0x200009 => readNat s.modes.searchResult
  | 0x20000A => readNat (min 3 (recentRestarts s).length)
  | 0x200102 => some 0
  | 0x200103 => readNat s.modes.commandResult
  | _ => none

/-- The partition that a session has selected in 0x2011:02, when the active program has it. -/
def partitionSelected (n : Nat) (s : State) : Option Partition :=
  (activeImage s).bind fun i => i.partitions.find? fun p => p.number == selected n 0x201102 s

/-- Solver and instruction set (04_logic_solver.md, 05_instruction_set.md). -/
def readSolver (n key : Nat) (s : State) : Option Int :=
  let part (f : Partition → Option Int) : Option Int := (partitionSelected n s).bind f
  match key with
  | 0x201001 => readNat s.solver.plan
  | 0x201002 => readNat (match s.solver.planPending with | some p => p.1 | none => s.solver.plan)
  | 0x201003 => readNat s.solver.planResult
  | 0x201004 => readNat (tandemMask .split s)
  | 0x201005 => readNat s.solver.failedLanes.toNat
  | 0x201006 => readNat (tandemMask .idle s)
  | 0x201101 => (activeImage s).bind fun i => readNat i.partitions.length
  | 0x201103 => part fun p => readNat (classCode p.cls)
  | 0x201104 => part fun p => if placeIn s.solver.plan p < 48 then readNat (placeIn s.solver.plan p) else none
  | 0x201105 => part fun p => readU32 (mapVal 0 p.number (admitted s).paths)
  | 0x201106 => part fun p => readU32 (mapVal 0 p.number s.solver.lastPath)
  | 0x201107 => readU32 (mapVal 0 (selected n 0x201102 s) s.solver.saturations)
  | 0x201108 => readBool (s.solver.faulted.getLsbD (selected n 0x201102 s))
  | 0x201201 => readNat (mirrorCycle s.solver.mirror).toNat
  | 0x201202 => readU32 ((s.network.time.now - mirrorTime s.solver.mirror) / 1000)
  | 0x201203 => readNat (planFigures s).shared.length
  | 0x201204 => readU32 s.solver.writtenLast
  | 0x201205 => readNat (imageId s).toNat
  | 0x201206 => readNat s.solver.activeBank.val
  | 0x202001 => readNat moduleRevision
  | 0x202002 => readNat moduleRevision
  | 0x202004 => readNat (costQuery (selected n 0x202003 s))
  | _ => none

/-- Solver cycles as ns in a U32. -/
def readNs (cycles : Nat) : Option Int := readU32 (cyclesNs cycles)

/-- Cycle and admission, online change (06_cycle_and_admission.md, 07_online_change.md). -/
def readCycle (key : Nat) (s : State) : Option Int :=
  let a := s.cycle.latest
  let now := a.plans.getD s.solver.plan {}
  let plan (k : Nat) : Option Int := readNs ((a.plans.getD k {}).admitted)
  match key with
  | 0x203101 => plan 0
  | 0x203102 => plan 1
  | 0x203103 => plan 2
  | 0x203104 => plan 3
  | 0x203105 => readNs a.xch
  | 0x203106 => readNs now.solve
  | 0x203107 => readNs a.output
  | 0x203108 => readNs a.checkpoint
  | 0x203109 => readNs now.q
  | 0x20310A => readNs now.t1
  | 0x20310B => readNs a.commit
  | 0x20310C => readNat a.words
  | 0x203201 => readU32 s.cycle.longest
  | 0x203202 => readU32 s.cycle.abandoned
  | 0x203203 => readU32 s.cycle.deferred
  | 0x203204 => readNat s.cycle.hostWrites.length
  | 0x203205 => readU32 s.cycle.guestsWithoutSlot
  | 0x203206 => readBool s.cycle.weftSuspended
  | 0x203302 => readBool s.cycle.report.refused
  | 0x203303 => readU16 s.cycle.report.count
  | 0x204002 => readNat (changeCode s.change.state)
  | 0x204003 | 0x204004 | 0x204005 => some 0
  | 0x204007 => readNat s.change.result
  | 0x204009 => readU32 (deadlineLeft s)
  | 0x204101 => readNat (shadowId s).toNat
  | 0x204102 => readNat s.change.standby
  | 0x204103 => readNs s.change.switchTime
  | 0x204104 => readNs s.change.undoTime
  | 0x204105 => readNat s.change.carried
  | 0x204106 => readNat s.change.switchCycle.toNat
  | 0x204107 => readU32 s.change.hostWritesDiscarded
  | 0x204108 => readU16 s.change.timersRestarted
  | 0x204109 => readU32 s.change.confirmed
  | _ => none

/-- Standby state on either module (0x3000:03). -/
def standbyShown (s : State) : Nat :=
  if s.modes.mode = .standby then
    match s.pair.standby with | .none => 0 | .unsynchronised => 1 | .resynchronising => 2 | .synchronised => 3
  else if s.pair.partner.mode = some (modeCode .standby) then
    if s.pair.partner.sync then 3 else if s.pair.resyncTransfer || s.pair.resyncNext.isSome then 2 else 1
  else 0

/-- Percent of the lines committed of a resynchronisation (0x3000:05). -/
def resyncPercent (s : State) : Nat :=
  let n := if s.modes.mode = .standby then s.pair.resyncLines else s.pair.resyncNext.getD 0
  min 100 (n * 100 / resyncCount)

/-- The redundant pair (08_redundant_pair.md). -/
def readPair (key : Nat) (s : State) : Option Int :=
  let standby : Bool := s.modes.mode == .standby
  match key with
  | 0x300001 => readNat (if standby then (match s.pair.checkpoint with | some c => c.jersey.toNat | none => 0) else s.pair.jersey.toNat)
  | 0x300002 => readNat s.pair.highest.toNat
  | 0x300003 => readNat (standbyShown s)
  | 0x300004 => readNat (match s.pair.checkpoint with | some c => if standby then c.cycle.toNat else 0 | none => 0)
  | 0x300005 => readNat (resyncPercent s)
  | 0x300006 => readBool s.pair.seamPath.up
  | 0x300007 => readBool s.pair.netPath.up
  | 0x300008 => readNat (s.seam.lane0.inService.toNat + 2 * s.seam.lane1.inService.toNat)
  | 0x300009 => readU32 s.pair.takeovers
  | 0x30000A => readU32 s.pair.handovers
  | 0x30000B => readU32 s.pair.aborted
  | 0x30000C => readU32 s.pair.detection
  | 0x30000D => readU32 s.pair.takeoverTime
  | 0x30000E => readU32 s.pair.discardedHandover
  | 0x30000F => readU32 s.pair.singlePath
  | 0x300201 => readU32 s.seam.lane0.crcErrors
  | 0x300202 => readU32 s.seam.lane1.crcErrors
  | 0x300203 => readU32 s.seam.lane0.retransmissions
  | 0x300204 => readU32 s.seam.lane1.retransmissions
  | 0x300205 => readU32 s.seam.laneFailures
  | 0x300206 => readNat s.seam.reservePeak
  | 0x300207 => readNat s.seam.format
  | 0x300208 => readU16 s.seam.roundTrip
  | 0x300209 => readNat (s.firmware.main.weftLo + 65536 * s.firmware.main.weftHi)
  | _ => none

/-- Junction temperature before the first reading of the sensors, a free value in the range of the entries (R258; assumption log 2). -/
def unreadJunction : Int := Int.ofNat (Config.unreadJunction % 206) - 55

/-- Highest present junction temperature of islands 1 to 4 (0xA003:03). -/
def junctionNow (s : State) : Int :=
  if s.diag.peak.isSome then ((rangeFrom 2 3).map fun n => mapVal 0 n s.diag.junctions).foldl max (mapVal 0 1 s.diag.junctions)
  else unreadJunction

/-- Diagnostics and clock islands (09_diagnostics_and_safe_state.md, 12_clock_islands.md). -/
def readDiag (n key : Nat) (s : State) : Option Int :=
  let i := island (selected n 0xC00001 s) s
  let c := crossing (selected n 0xC00101 s) s
  let band : Nat × Nat := if selected n 0xC00001 s = 8 then (0, 0) else clockBand (selected n 0xC00001 s)
  match key with
  | 0xA00001 => readNat s.diag.detail
  | 0xA00002 => readNat s.diag.cycle.toNat
  | 0xA00003 => readU32 s.diag.hours
  | 0xA00004 => readU16 s.diag.secondary
  | 0xA00005 => readBool s.diag.latch
  | 0xA00101 => readU32 s.diag.dataCorrections
  | 0xA00102 => readU32 s.diag.programCorrections
  | 0xA00103 => readU32 s.diag.sramCorrections
  | 0xA00104 => readU32 s.diag.dramCorrections
  | 0xA00105 => readU32 s.diag.dramUncorrectable
  | 0xA00106 => readU32 s.diag.framesLost
  | 0xA00107 => readNat s.diag.persistentStore
  | 0xA00108 => readU32 s.diag.persistentLine
  | 0xA00201 => readU32 (s.diag.scrubData.passTime / 1000)
  | 0xA00202 => readU32 (s.diag.scrubProgram.passTime / 1000)
  | 0xA00203 => readU32 (s.diag.scrubSram.passTime / 1000)
  | 0xA00204 => readU32 (max s.diag.scrubDram0.passTime s.diag.scrubDram1.passTime / 1000000)
  | 0xA00205 => readU32 s.diag.overruns
  | 0xA00302 => readNat (min 6000 (mapVal {} (selected n 0xA00301 s) s.diag.rails : Rail).millivolts)
  | 0xA00303 => some (junctionNow s)
  | 0xA00304 => some (s.diag.peak.getD unreadJunction)
  | 0xA00401 => readNat s.diag.windows
  | 0xA00402 => readNat (min 10000 s.diag.lagPeak)
  | 0xA00501 => readU32 s.diag.mismatches
  | 0xC00002 => readNat i.state
  | 0xC00003 => readU16 i.count
  | 0xC00004 => readNat band.1
  | 0xC00005 => readNat band.2
  | 0xC00006 => readS20 i.deviation
  | 0xC00008 => readU32 i.changes
  | 0xC00009 => readU16 i.resets
  | 0xC00102 => readNat c.state
  | 0xC00103 => readU32 c.discarded
  | 0xC00104 => readU32 c.closedWrites
  | 0xC00105 => readU32 c.replacements
  | 0xC00106 => readU32 c.retries
  | 0xC00107 => readU32 c.accessesFailed
  | 0xC00108 => readU32 c.openings
  | 0xC00202 => readNat s.islands.resetResult
  | _ => none

/-- Hub (10_hub_memory_and_ordering.md). -/
def readHub (n key : Nat) (s : State) : Option Int :=
  let a := selected n 0x401001 s
  let p := selected n 0x401002 s
  let q := arbPort a p (arbiter a s)
  let e := dmaEngine (selected n 0x402001 s) s
  match key with
  | 0x400001 => readNat 10737418240
  | 0x400002 => readNat s.hub.channels.toNat
  | 0x400003 => readU32 s.hub.decodeErrors
  | 0x400004 => readNat s.hub.lastDecodeMaster
  | 0x401004 => readNat (portKind a p)
  | 0x401005 => readU32 q.grants
  | 0x401006 => readU32 q.lost
  | 0x401007 => readU32 q.revocations
  | 0x401008 => readU32 q.longestWait
  | 0x401009 => ((portMasters a p).head?).bind readNat
  | 0x401101 => readU32 s.hub.trips
  | 0x401102 => readNat s.hub.lastTrip
  | 0x401103 => readU32 s.hub.commits
  | 0x401104 => readNat (arbiter a s).waitPeak
  | 0x402002 => readNat e.status
  | 0x402003 => readU32 e.done
  | 0x402004 => readU32 e.failed
  | 0x403002 => readNat (lockWord (selected n 0x403001 s) s)
  | 0x403003 => some 0
  | 0x403004 => readNat (session n s).acquire
  | 0x403006 => readU32 s.hub.abandonments
  | 0x403007 => readU32 s.hub.refusals
  | _ => none

/-- Code of a lifecycle state (0x5000:01). -/
def lifecycleCode (l : Lifecycle) : Nat := match l with | .provision => 0 | .inService => 1 | .decommissioned => 2

/-- The pending proposal of the slot that a session has selected (0x5002:01). -/
def proposalSelected (n : Nat) (s : State) : Option Proposal := s.protection.proposals[selected n 0x500201 s]?

/-- Windows of the place and plan that a session has selected (0x5004, R287). -/
def windowsSelected (n : Nat) (s : State) : List (Nat × Nat) :=
  let f := (admitted s).plans.getD (selected n 0x500402 s) {}
  match f.windows.find? fun w => w.1 == selected n 0x500401 s with
  | some w => w.2
  | none => []

/-- First and last byte and attributes of a region (0x5003:03 to :08). -/
def regionField (k : Nat) (r : Region) : Option Int :=
  readNat (if k = 0 then regionLo r else if k = 1 then regionHi r else r.attr.toNat)

/-- Protection and lifecycle (11_protection_and_lifecycle.md). -/
def readProtection (n key : Nat) (s : State) : Option Int :=
  let prop (f : Proposal → Nat) : Option Int := readNat (match proposalSelected n s with | some p => f p | none => 0)
  let win := (windowsSelected n s)[selected n 0x500404 s]?
  let party := partyOf (selected n 0x500602 s) s
  match key with
  | 0x500001 | 0x500002 => readNat (lifecycleCode s.protection.lifecycle)
  | 0x500003 => readU32 s.protection.changes
  | 0x500004 | 0x500102 => some 0
  | 0x500005 => readBool s.protection.unlocked
  | 0x500006 => readU32 s.protection.hits
  | 0x500101 => readNat s.protection.epoch.toNat
  | 0x500103 => readNat (match s.protection.stage with | .open => 0 | .proposed => 1 | .waiting => 2 | .draining => 3)
  | 0x500104 => readNat (crc32 (ruleBytes s.protection.shadow)).toNat
  | 0x500106 => readNat (min 2810 s.protection.lastDrain)
  | 0x500107 => readNat s.protection.invalidRegion
  | 0x500202 => prop fun p => p.number.toNat
  | 0x500203 => prop fun p => p.index.toNat * 65536 + p.sub.toNat * 256
  | 0x500204 => prop fun p => p.proposer
  | 0x500205 => prop fun p => p.digest.toNat
  | 0x500206 => prop fun p => min 600 (unitsLeft (p.madeAt + 60000000000) 100000000 s)
  | 0x500209 => readNat (session n s).twoParty
  | 0x500306 => regionField 0 (regionOf (regionKey n s) s.protection.active)
  | 0x500307 => regionField 1 (regionOf (regionKey n s) s.protection.active)
  | 0x500308 => regionField 2 (regionOf (regionKey n s) s.protection.active)
  | 0x500403 => readNat (windowsSelected n s).length
  | 0x500405 => win.bind fun w => readNat w.1
  | 0x500406 => win.bind fun w => readNat w.2
  | 0x500501 => readU32 s.protection.notices
  | 0x500502 => readU32 s.protection.imprecise
  | 0x500601 => readNat ((rangeFrom 1 8).filter fun p => (partyOf p s).enabled).length
  | 0x500603 => readNat party.rights.toNat
  | 0x500605 => readBool party.enabled
  | _ => none

/-- Ring state (0x6010:02): both ports down, open, or closed (R332). -/
def ringState (r : Bool) (s : State) : Nat :=
  if (portsOf r).all fun p => (port p s).link == 0 then 0 else if (ring r s).closed then 2 else 1

/-- Plant network and time (13_plant_network_and_time.md). -/
def readNetwork (n key : Nat) (s : State) : Option Int :=
  let p := selected n 0x600001 s
  let q := port p s
  let rb : Bool := selected n 0x601001 s != 0
  let r := ring rb s
  let dn := selected n 0x602101 s
  let d := domainOf dn s
  let g : LaunchGroup := mapVal {} (selected n 0x604001 s) s.network.groups
  let tb := timeBase s
  match key with
  | 0x600002 => readNat q.link
  | 0x600004 => readU32 q.losses
  | 0x600005 => readU32 q.retrains
  | 0x600006 => readNat q.sent
  | 0x600007 => readNat q.received
  | 0x600008 => readU32 q.errors
  | 0x600009 => readU32 q.drops
  | 0x600101 => readNat (Config.latency p false false)
  | 0x600102 => readNat (Config.latency p true false)
  | 0x600103 => readNat (Config.latency p false true)
  | 0x600104 => readNat (Config.latency p true true)
  | 0x601002 => readNat (ringState rb s)
  | 0x601003 => readNat (Config.ringMac rb).toNat
  | 0x601004 => readNat r.nodes.length
  | 0x601005 => readU32 r.duplicates
  | 0x601006 => readNat r.forwarded
  | 0x601007 => readU32 r.forwardDrops
  | 0x601109 => readU32 q.gateChanges
  | 0x60110A => readBool q.pendingGates.isSome
  | 0x602001 => readNat s.network.time.state
  | 0x602002 => readNat s.network.time.selected
  | 0x602007 => readNat (tb / 1000000000)
  | 0x602008 => readNat (tb % 1000000000)
  | 0x602009 => readNat (tb % 4294967296)
  | 0x60200A => if s.network.time.selected = 0 then some 0 else readS20 (offsetFrom s.network.time.selected s)
  | 0x60200C => readU32 s.network.time.steps
  | 0x602104 => readBool d.good
  | 0x602105 => readNat d.grandmaster.toNat
  | 0x602106 => readS20 (offsetFrom dn s)
  | 0x602107 => readU32 (mapVal 0 p d.linkDelay)
  | 0x603005 => readU32 s.network.delayFailures
  | 0x603006 => readU32 s.network.largestDelay.toNat
  | 0x604005 => readNat g.launched
  | 0x604006 => readU32 g.late
  | 0x604007 => readU32 g.displaced
  | 0x604008 => readU32 g.superseded
  | 0x604009 => readU32 g.lateness
  | _ => none

/-- Door buses (14_door_buses.md). -/
def readDoor (n key : Nat) (s : State) : Option Int :=
  let k := selected n 0x700001 s
  let c := channel k s
  match key with
  | 0x700101 => readNat c.state
  | 0x700102 => readNat (min 255 c.tecCount)
  | 0x700103 => readNat (min 255 c.recCount)
  | 0x700104 => readU32 c.busOffEntries
  | 0x700105 => readBool c.alone
  | 0x700106 => readBool (twinOpen k s)
  | 0x700107 => readNat c.sent
  | 0x700108 => readNat c.received
  | 0x700109 => readU32 c.errorFrames
  | 0x70010A => readU32 c.rejected
  | 0x70010B => readU32 c.duplicates
  | 0x70010C => readU32 c.expired
  | 0x70010D => readU32 c.superseded
  | 0x70010E => readU32 c.twinSent
  | 0x70010F => readU32 c.twinNotMade
  | 0x700110 => readU32 (doorGuard s.nsp.inForce k)
  | 0x700111 => readU32 c.unmatched
  | 0x700112 => readU32 c.missedWindows
  | 0x700113 => readNat (min 127 c.txDelay)
  | 0x700202 => readNat c.recovery
  | 0x701003 => readNat (doorObject k (selected n 0x701001 s) s).seq.toNat
  | 0x701004 => readNat (objectsOf s.nsp.inForce k).length
  | 0x702007 => readNat (c.time.priority.getD 0xFF)
  | 0x702008 => readU32 c.time.changes
  | 0x703003 => readNat (mapVal 0 (selected n 0x703001 s) s.doors.unitJersey).toNat
  | 0x704002 => readU32 s.doors.serviceFrames
  | _ => none

/-- Number of configured stations in a state. -/
def stationsIn (k : StationState) (s : State) : Nat := ((configuredStations s.nsp.inForce).filter fun n => (station n s).state == k).length

/-- Stations, door units, guests and loom (15_stations_and_io_exchange.md). -/
def readStations (n key : Nat) (s : State) : Option Int :=
  let x := station (selected n 0x801001 s) s
  let u : DoorUnit := mapVal {} (selected n 0x802001 s) s.stations.units
  let g : Option Guest := if slotTaken (selected n 0x803001 s) s then guest (selected n 0x803001 s) s else none
  let l := loom (selected n 0x804003 s) s
  match key with
  | 0x800003 => readNat (configuredStations s.nsp.inForce).length
  | 0x800004 => readNat (stationsIn .inService s)
  | 0x800005 => readNat (stationsIn .dropped s)
  | 0x800007 => readNat ((rangeFrom 0 64).filter fun k => slotTaken k s).length
  | 0x801015 => readNat (match x.state with | .absent => 0 | .joining => 1 | .inService => 2 | .dropped => 3 | .mismatch => 4)
  | 0x801016 => readNat (match x.session with | some v => v.toNat | none => 0)
  | 0x801017 => readNat x.mac.toNat
  | 0x801018 => readU32 x.dropouts
  | 0x801019 => readU32 x.outputsDiscarded
  | 0x80101A => readU32 x.rejected
  | 0x80101B => readNat x.jersey.toNat
  | 0x80101C => readU16 x.missed
  | 0x802004 => readBool u.present
  | 0x802005 => readU32 u.changes
  | 0x803002 => readNat (match g with | some y => y.source.toNat | none => 0)
  | 0x803003 => readNat (match g with | some y => y.number | none => 0xFFFF)
  | 0x803004 => readNat (match g with | some y => y.type.toNat | none => 0)
  | 0x803005 => readNat (match g with | some y => y.serial.toNat | none => 0)
  | 0x804006 => readU32 l.dropped
  | 0x804007 => readU32 l.inOverflow
  | 0x804008 => readU32 l.closed
  | 0x804009 => readNat (l.events.length + l.overflow.isSome.toNat)
  | 0x804102 => readNat (l.ring.length - l.readMarks)
  | 0x804103 => readU32 l.overwritten
  | _ => none

/-- Local field I/O (16_local_io.md). -/
def readLocal (n key : Nat) (s : State) : Option Int :=
  match key with
  | 0x901008 => readNat (analogIn (selected n 0x901001 s) s).current
  | 0x902006 => readNat (analogOut (selected n 0x902001 s) s).readback
  | 0x902007 => readU32 (analogOut (selected n 0x902001 s) s).shortfalls
  | 0x903001 => readNat s.localIo.target
  | 0x903003 => if s.localIo.target = 0 then none else some (correction (trimChannel s.localIo.target) false s)
  | 0x903004 => if s.localIo.target = 0 then none else some (correction (trimChannel s.localIo.target) true s)
  | 0x903005 => readNat s.localIo.trimResult
  | 0x904006 => readU32 (mapVal {} (selected n 0x904001 s) s.localIo.sdi : SafetyIn).faults
  | 0x905003 => readU32 (mapVal {} (selected n 0x905001 s) s.localIo.sdo : SafetyOut).faults
  | 0x905004 => readNat (min 6000 (s.localIo.supply / 10))
  | _ => none

/-- The shadow configuration differs from the one in force (0x1010:04). -/
def shadowDiffers (s : State) : Bool := s.nsp.shadow != s.nsp.inForce

/-- Identity, commit, NSP (this chapter). -/
def readIdentity (n key : Nat) (s : State) : Option Int :=
  match key with
  | 0x100004 => readNat Config.hardwareRevision.toNat
  | 0x100005 => readNat s.firmware.main.revision.toNat
  | 0x100006 => readNat Config.dictionaryRevision.toNat
  | 0x100007 => readNat (lifecycleCode s.protection.lifecycle)
  | 0x100008 => readNat (modeCode s.modes.mode)
  | 0x100101 => readNat 0x60
  | 0x100102 => readNat Config.architectureRevision.toNat
  | 0x100103 => readNat 16
  | 0x100104 => readNat 81920
  | 0x100105 => readNat 16384
  | 0x100106 => readNat 1024
  | 0x100107 => readNat 8
  | 0x100108 => readNat 1048576
  | 0x100109 => readNat 1048576
  | 0x100201 => readNat (Config.ringMac false).toNat
  | 0x100202 => readNat (Config.ringMac true).toNat
  | 0x101001 => some 0
  | 0x101002 => readNat s.nsp.commitResult
  | 0x101003 => readNat s.nsp.generation.toNat
  | 0x101004 => readBool (shadowDiffers s)
  | 0x101006 => readNat s.nsp.offending.toNat
  | 0x102001 => readNat ((rangeFrom 0 16).filter fun k => (session k s).phase == .isOpen).length
  | 0x102003 => readU32 s.nsp.discarded
  | 0x102004 => readU32 s.nsp.authFailures
  | 0x102005 => readNat n
  | 0x102006 => readNat (session n s).party
  | 0x102106 => readNat 20604
  | _ => none

/-- Firmware and recorder (18_firmware_update.md, 19_event_recorder.md). -/
def readService (n key : Nat) (s : State) : Option Int :=
  let role (r : SlotRole) (f : FwHeader → Nat) : Option Int := readNat (match imageWith r s with | some h => f h | none => 0)
  match key with
  | 0xB00002 => readNat (if s.firmware.staging = 1 ∨ s.firmware.staging = 2 then s.firmware.staging
      else if (slotWith .staged s).isSome then 3 else 0)
  | 0xB00003 => readNat s.firmware.stagingResult
  | 0xB00101 => readNat s.firmware.main.identity.toNat
  | 0xB00102 => role .staged fun h => h.identity.toNat
  | 0xB00103 => role .fallback fun h => h.identity.toNat
  | 0xB00104 => readBool s.firmware.trial
  | 0xB00105 | 0xB00106 | 0xB00107 | 0xB00201 => some 0
  | 0xB00108 => readU32 s.firmware.minSecurity
  | 0xB00109 => role .staged fun h => h.revision.toNat
  | 0xB0010A => readNat (min 3 s.firmware.trialStarts)
  | 0xB0010B => readNat s.firmware.fallbackCause
  | 0xB0010C => readNat s.firmware.result
  | 0xB00202 => readNat s.firmware.pairState
  | 0xB00203 => readNat s.firmware.abortCause
  | 0xB00301 => readNat (storedFormat s)
  | 0xB00302 => readNat (match s.firmware.fallbackConfig with | some c => c.2.format | none => 0)
  | 0xA01005 => readU32 (session n s).skipped
  | 0xA01201 => readU32 s.quilt.seconds
  | 0xA01202 => readU32 s.quilt.powerCycles
  | 0xA01203 => ((heldRecords s.quilt).head?).bind fun r => readNat r.seq.toNat
  | 0xA01204 => ((heldRecords s.quilt).getLast?).bind fun r => readNat r.seq.toNat
  | 0xA01205 => readNat (((List.range 4).map fun k => (blockCount k s.quilt % 65536) * 65536 ^ k).foldl (· + ·) 0)
  | 0xA01206 => readNat (recordsBytes s.quilt.buffer)
  | 0xA01207 => readU32 s.quilt.lost
  | 0xA01208 => readNat (min 800 s.quilt.flushDuration)
  | 0xA01209 => readNat s.quilt.flushCause
  | _ => none

/-- Number of an entry that no store of settings holds. -/
def readMeasured (n index sub : Nat) (s : State) : Option Int :=
  let key := index * 256 + sub
  match index / 4096 with
  | 1 => if index = 0x1030 then readModule key s else readIdentity n key s
  | 2 => if index < 0x2010 then readStart key s else if index < 0x2030 then readSolver n key s else readCycle key s
  | 3 => readPair key s
  | 4 => readHub n key s
  | 5 => readProtection n key s
  | 6 => readNetwork n key s
  | 7 => readDoor n key s
  | 8 => readStations n key s
  | 9 => readLocal n key s
  | 10 => if index < 0xA010 then readDiag n key s else if 0xA020 ≤ index then readModule key s else readService n key s
  | 11 => readService n key s
  | 12 => readDiag n key s
  | _ => none

/-- RW entries that are actions, not settings (R423): identify, plan request, confirm, undo, acquire, trim, firmware confirm. -/
def actionKeys : List Nat := [0xA02205, 0x201002, 0x204004, 0x204005, 0x403003, 0x903001, 0x903003, 0x903004, 0xB00105]

/-- The value stands in the module's settings (R423): RW entries but selectors and actions, and the RW2 entries that hold one. -/
def isSetting (e : EntryDesc) : Bool :=
  let key := e.index * 256 + e.sub
  (e.access == 2 && !isSelector key && !actionKeys.any (· == key)) || key == 0xA02203 || key == 0x200303

/-- Number that a read of an entry gives in session `n`, 0xFF sessionless (R422, R425). -/
def entryNumber (n : Nat) (active : Bool) (e : EntryDesc) (s : State) : Option Int :=
  let sel := selection n e.index e.sub s
  let d := (defaultOf e sel.1 sel.2).getD 0
  if e.sub = 0 then e.dflt
  else if isSelector (e.index * 256 + e.sub) then readNat (selected n (e.index * 256 + e.sub) s)
  else if isSetting e then some (entryInt s.nsp.settings e.index e.sub d sel.1 sel.2)
  else if isConfiguration e then
    some (entryInt (if active then s.nsp.inForce else s.nsp.shadow) e.index e.sub d sel.1 sel.2)
  else if e.access = 4 then
    regionField (e.sub - 3) (regionOf (regionKey n s) (if active then s.protection.active else s.protection.shadow))
  else readMeasured n e.index e.sub s

/-- Bytes of a checkpoint history entry (Table 8-12). -/
def historyBytes (h : HistoryEntry) : List Byte :=
  let b := leBytes 5 h.cycle.toNat ++ leBytes 1 h.flags.toNat ++ leBytes 1 h.plan ++ leBytes 1 h.result ++ leBytes 4 h.jersey.toNat ++
    timeBytes h.start ++ leBytes 4 h.length ++ leBytes 4 h.words ++ leBytes 2 h.commands ++ leBytes 2 h.slices ++
    leBytes 4 h.timing ++ leBytes 2 (satU16 h.resent) ++ leBytes 4 h.image.toNat ++ leBytes 4 h.generation.toNat ++ leBytes 12 0
  b ++ leBytes 4 (crc32 b).toNat

/-- Bytes of a DOMAIN entry at its Default of zeros; substitute values take the length that their Range column names
(assumption log 72). -/
def zeroLength (n : Nat) (active : Bool) (e : EntryDesc) (s : State) : Nat :=
  let c := if active then s.nsp.inForce else s.nsp.shadow
  let k := selected n 0x801001 s
  if e.index = 0x8010 then valueBytes (cfgDigitalIns c k) (cfgAnalogueIns c k) else e.size

/-- Order code (R2, Table 0-1). -/
def orderCode (coated : Bool) : List Byte := nameBytes (if coated then "SX96-2C" else "SX96-2A")

/-- Value of a STRING entry, or of a DOMAIN entry that no snapshot consumes; none where the manual gives no bytes. -/
def entryBlob (n : Nat) (active : Bool) (e : EntryDesc) (s : State) : Option (List Byte) :=
  let sel := selection n e.index e.sub s
  match e.index * 256 + e.sub with
  | 0x100001 => some (nameBytes "SX96")
  | 0x100002 => some (orderCode Config.conformalCoated)
  | 0x100003 => some (Config.serialNumber.take 16)
  | 0x201109 => (partitionSelected n s).map fun p => (nameBytes p.name).take 32
  | 0x203301 => some (reportBytes s.cycle.report)
  | 0x30020A => some ((s.pair.history.take 16384).flatMap historyBytes)
  | 0x500503 => s.protection.ring.head?.map noticeBytes
  | 0x500504 => some (s.protection.ring.flatMap noticeBytes)
  | _ =>
    if e.access = 5 then some (List.replicate 16 0)
    else if e.access = 4 then
      let b := entryBytes (if active then s.nsp.inForce else s.nsp.shadow) e.index e.sub sel.1 sel.2
      some (if b.isEmpty then List.replicate (zeroLength n active e s) 0 else b)
    else none

/-- Bytes that a read of an entry other than a DOMAIN consumed by its snapshot gives; an open value draws a free one. -/
def entryValue (n : Nat) (active : Bool) (e : EntryDesc) (s : State) : State × List Byte :=
  if e.type < 9 then
    match entryNumber n active e s with
    | some v => (s, wireBytes e.type v)
    | none =>
      let d := drawNat s
      (d.2, wireBytes e.type (if e.type = 4 then Int.ofNat (d.1 % 1048576) else Int.ofNat d.1))
  else
    match entryBlob n active e s with
    | some b => (s, b)
    | none =>
      let d := drawNat s
      (d.2, if e.type = 9 then leBytes (d.1 % (e.size + 1)) d.1 else leBytes 16 d.1)

end Sys2Proof.Machine
end

