-- ==== Sys2Proof/Machine/NspWrite.lean ====
section
/-!
DEFINITION. What a write of a dictionary entry does (17_object_dictionary.md R421–R427, R436, R441, R442, R444 and the entry
tables of the other chapters).
-/
namespace Sys2Proof.Machine

/-- The shadow is frozen by a configuration commit under way (R426). -/
def shadowFrozen (s : State) : Bool := s.nsp.commit != .none

/-- The configuration in force is copied into the shadow (R425, 0x1010:05). -/
def revertShadow (s : State) : State := { s with nsp.shadow := s.nsp.inForce }

/-- Open event slots of the four classes with a new number for one class (0x8040:05). -/
def loomSlots (cls v : Nat) (s : State) : Nat :=
  (((List.range 4).map fun c => if c = cls then v else
    entryNat s.nsp.settings 0x8040 0x05 ([64, 64, 32, 32].getD c 0) c 0)).foldl (· + ·) 0

/-- Status with which a write of a numeric entry is refused before it is performed, in session `n`; none when it is accepted
(R421, R422, R426, R444). An RW2 entry is judged as a proposal. -/
def writeRefusal (n : Nat) (e : EntryDesc) (b : List Byte) (s : State) : Option Nat :=
  let key := e.index * 256 + e.sub
  let sel := selection n e.index e.sub s
  if e.access = 1 then some 0x02
  else if b.length ≠ (if e.type < 9 then typeBytes e.type else b.length) then some 0x04
  else if e.access = 5 then none
  else match valueError e b with
    | some st => some st
    | none =>
      if e.access = 4 then
        if s.modes.mode = .standby then some 0x06
        else if isConfiguration e && shadowFrozen s then some 0x07
        else if !isConfiguration e && s.protection.stage != .open then some 0x07
        else if key = 0x401003 ∧ portKind sel.1 sel.2 ≠ 0 then some 0x05
        else none
      else if key = 0x101005 ∧ shadowFrozen s then some 0x07
      else if key = 0x804005 ∧ 192 < loomSlots sel.1 (ofLe b) s then some 0x05
      else none

/-- A refused write of the shadow rule set gives its session the result 7 (R301); a write of an island number out of the range of 0xC002:01
its result (R324). -/
def noteRefusal (n : Nat) (e : EntryDesc) (status : Nat) (s : State) : State :=
  if e.index = 0x5003 ∧ status = 0x07 then twoParty n 7 s
  else if e.index = 0xC002 ∧ status = 0x05 ∧ s.islands.reset = none then
    { s with islands.resetResult := if s.modes.mode = .stop then 3 else 2 }
  else s

/-- A selector of a session set (R424). -/
def writeSelector (n key : Nat) (v : Int) (s : State) : State :=
  modSession n (fun x => { x with selectors := mapPut (selectorDefault key) key v x.selectors }) s

/-- A number of the shadow configuration set (R425). -/
def writeShadow (k : Nat) (d v : Int) (s : State) : State :=
  { s with nsp.shadow := { s.nsp.shadow with nums := mapPut d k v s.nsp.shadow.nums } }

/-- A field of a region of the shadow rule set: base, limit, attributes (0x5003:03 to :05, R311). -/
def setRegionField (sub v : Nat) (r : Region) : Region :=
  if sub = 3 then { r with base := BitVec.ofNat 32 (v / 16) }
  else if sub = 4 then { r with limit := BitVec.ofNat 32 (v / 16) }
  else { r with attr := BitVec.ofNat 32 v &&& 0xE7000007 }

/-- A region of the shadow rule set written. -/
def writeRegion (k sub v : Nat) (s : State) : State :=
  { s with protection.shadow :=
      mapPut (regionReset k) k (setRegionField sub v (regionOf k s.protection.shadow)) s.protection.shadow }

/-- Status of a result that follows the common coding: 0 done, 1 pending, 2 refused for the mode, 3 no standby where `standby`
is set; any other a refusal (R442). -/
def resultStatus (r : Nat) (standby : Bool) : Nat :=
  if r ≤ 1 then 0x00 else if r = 2 then 0x06 else if r = 3 ∧ standby = true then 0x0C else 0x0D

/-- Mode commands (Table 3-7). -/
def modeCommand (v : Nat) (s : State) : State :=
  if v = 1 then commandStart s else if v = 2 then commandStop s else if v = 3 then commandHandover s else commandRestart .warmCommand s

/-- A session acquires its selected lock (0x4030:03): the state, and its status. A session that already waits has one pending
acquisition at most: 0x07 (assumption log 73). -/
def acquireCommand (n v : Nat) (s : State) : State × Nat :=
  if v = 0 then (s, 0x00)
  else if waitsForLock (0x80 + n) s then (s, 0x07)
  else
    let s := sessionAcquire n v s
    (s, if (session n s).acquire = 0 then 0x00 else acquireStatus (session n s).acquire)

/-- A session releases its selected lock (0x4030:05, R281): another owner's is refused. -/
def releaseCommand (n : Nat) (s : State) : State × Nat :=
  let k := selectedLock n s
  (releaseLock (0x80 + n) k s, if (lockAt k s).owner = some (0x80 + n) then 0x00 else 0x0D)

/-- A command entry written with an accepted value: the state, its status and the reply's body (R441, R442). -/
def commandWrite (n key : Nat) (v : Int) (s : State) : State × Nat × List Byte :=
  let u := v.toNat
  let done (s : State) : State × Nat × List Byte := (s, 0x00, [])
  let trim (s : State) : State × Nat × List Byte := (s, resultStatus s.localIo.trimResult false, [])
  let result (r : State × Nat) : State × Nat × List Byte := (r.1, r.2, [])
  match key with
  | 0x101005 => done (revertShadow s)
  | 0x200101 =>
    let s := modeCommand u s
    (s, resultStatus s.modes.commandResult true, [])
  | 0x201002 =>
    let s := requestPlan u s
    (s, resultStatus s.solver.planResult false, [])
  | 0x204004 => if u = 0 then done s else
    let s := commandEnd .confirmPending .changeConfirm s
    (s, changeStatus s, [])
  | 0x204005 => if u = 0 then done s else
    let s := commandEnd .undoPending .changeUndo s
    (s, changeStatus s, [])
  | 0x204006 => if u = 0 then done s else
    let s := commandDiscard s
    (s, changeStatus s, [])
  | 0x403003 => result (acquireCommand n u s)
  | 0x403005 => result (releaseCommand n s)
  | 0x500105 =>
    let r := revertShadowSet s
    if r.2 then done r.1 else (twoParty n 7 r.1, 0x0B, leBytes 1 7)
  | 0x500207 =>
    let r := confirmProposal n (BitVec.ofNat 16 (u / 4294967296)) (BitVec.ofNat 32 u) true s
    (r.1, r.2.1, leBytes 1 r.2.2)
  | 0x500208 =>
    let r := withdrawProposal n (BitVec.ofNat 16 u) s
    if r.2 = 0 then done r.1 else (r.1, 0x0B, leBytes 1 r.2)
  | 0x60200B => result (commandStep s)
  | 0x700201 =>
    let k := selected n 0x700001 s
    let s := recoverBus k s
    (s, if (channel k s).recovery = 2 then 0x0D else 0x00, [])
  | 0x903001 => trim (writeTrimTarget u s)
  | 0x903002 => trim (trimActionWrite u s)
  | 0x903003 => trim (writeCorrection false v s)
  | 0x903004 => trim (writeCorrection true v s)
  | 0xA02205 => done (startIdentify u s)
  | 0xA02206 => done (if u = 1 then { s with front.lampTest := true } else s)
  | 0xB00004 => result (discardStagedImage u s)
  | 0xB00105 => if u = 0 then done s else
    let s := commandConfirm s
    (s, updateStatus s, [])
  | 0xC00201 =>
    let r := resetIsland u s
    (r, resultStatus (if s.islands.reset.isSome then 2 else r.islands.resetResult) false, [])
  | _ => done s

/-- A write of a numeric entry that is not refused is performed (R422): the state, its status and the reply's body. -/
def applyWrite (n : Nat) (e : EntryDesc) (b : List Byte) (s : State) : State × Nat × List Byte :=
  let key := e.index * 256 + e.sub
  let v := wireValue e b
  let sel := selection n e.index e.sub s
  let d := (defaultOf e sel.1 sel.2).getD 0
  if e.access = 5 then writeRw2 n key b s
  else if isSelector key then (writeSelector n key v s, 0x00, [])
  else if isConfiguration e then (writeShadow (ekey e.index e.sub sel.1 sel.2) d v s, 0x00, [])
  else if e.access = 4 then (writeRegion (regionKey n s) e.sub v.toNat s, 0x00, [])
  else if isSetting e then
    let s := writeSetting (ekey e.index e.sub sel.1 sel.2) d v s
    (if key = 0xA02105 then capacitanceAlarm s else s, 0x00, [])
  else commandWrite n key v s

/-- A whole DOMAIN value is accepted for its effect (R436): the state, and its status and body, or none while the effect runs. -/
def applyDomain (n : Nat) (e : EntryDesc) (data : List Byte) (s : State) : State × Option (Nat × List Byte) :=
  let sel := selection n e.index e.sub s
  match valueError e data with
  | some st => (s, some (st, []))
  | none =>
    if e.access = 5 then
      let r := writeRw2 n (e.index * 256 + e.sub) data s
      (r.1, some r.2)
    else if e.index = 0x2040 then
      if acceptsChange s then (loadChange (Config.imageOf data) s, none) else (changeResult 2 s, some (0x06, []))
    else
      let v := if data.all (· == 0) then [] else data
      ({ s with nsp.shadow := { s.nsp.shadow with
          blobs := mapPut [] (ekey e.index e.sub sel.1 sel.2) v s.nsp.shadow.blobs } }, some (0x00, []))

/-- Status with which a segment of a DOMAIN entry is refused whatever its transfer (R422, R426, R444). -/
def domainRefusal (e : EntryDesc) (s : State) : Option Nat :=
  if e.access = 1 then some 0x02
  else if e.access = 4 ∧ s.modes.mode = .standby then some 0x06
  else if e.access = 4 ∧ shadowFrozen s then some 0x07
  else none

/-- The session, or another one for this entry, has a DOMAIN write in progress (R436). -/
def transferBusy (n : Nat) (e : EntryDesc) (s : State) : Bool :=
  (session n s).transfer.isSome || (decide (s.firmware.staging = 1) && s.firmware.bySession == some n) ||
    (rangeFrom 0 16).any fun k => match (session k s).transfer with
      | some t => t.index.toNat == e.index && t.sub.toNat == e.sub
      | none => false

/-- A DOMAIN transfer that a violation has ended is gone with its answer of 0x09 (R295). -/
def endViolated (n : Nat) (s : State) : State :=
  abandonStaging n (modSession n (fun x => { x with
    violated := false
    transfer := none
    snapshots := [] }) s)

/-- One segment of a DOMAIN write (R436, Table 17-6): the state, and status and body, or none while the effect of the value runs. -/
def writeSegment (n : Nat) (e : EntryDesc) (offset total : Nat) (data : List Byte) (last : Bool) (s : State) :
    State × Option (Nat × List Byte) :=
  let setTransfer (t : Option Transfer) (s : State) : State := modSession n (fun x => { x with transfer := t }) s
  let mine : Option Transfer := (session n s).transfer.bind fun t =>
    if t.index.toNat = e.index ∧ t.sub.toNat = e.sub then some t else none
  let refuse (st : Nat) : State × Option (Nat × List Byte) := (if mine.isSome then setTransfer none s else s, some (st, []))
  if (session n s).violated then (endViolated n s, some (0x09, []))
  else match domainRefusal e s with
  | some st => (s, some (st, []))
  | none =>
    if e.index = 0xB000 then
      let r := writeFirmware n offset total data last s
      (r.1, if r.2 = 0 ∧ last = true then none else some (r.2, []))
    else if e.size < total then refuse 0x05
    else if total < offset + data.length ∨ (last = true ∧ offset + data.length ≠ total) then refuse 0x0E
    else
      let held : Option (List Byte) := match mine with
        | some t => if offset = t.data.length ∧ total = t.total then some t.data else none
        | none => if offset = 0 then some [] else none
      if mine.isNone ∧ transferBusy n e s then (s, some (0x07, []))
      else match held with
        | none => refuse 0x10
        | some l =>
          if last then applyDomain n e (l ++ data) (setTransfer none s)
          else (setTransfer (some { index := BitVec.ofNat 16 e.index, sub := BitVec.ofNat 8 e.sub, total := total, data := l ++ data }) s,
            some (0x00, []))

end Sys2Proof.Machine
end

