-- ==== Sys2Proof/Machine/Nsp.lean ====
section
/-!
DEFINITION. NSP requests: carriers, frame checks, sessions, and the meanings of the NSP commands (17_object_dictionary.md
R428–R445; 11_protection_and_lifecycle.md R310).
-/
namespace Sys2Proof.Machine

/-! ### Operation codes (Table 17-5) -/

/-- READ. -/
def opRead : Nat := 0x01
/-- WRITE. -/
def opWrite : Nat := 0x02
/-- GROUP READ. -/
def opGroupRead : Nat := 0x03
/-- GROUP WRITE. -/
def opGroupWrite : Nat := 0x04
/-- DESCRIBE. -/
def opDescribe : Nat := 0x05
/-- DATA READ. -/
def opDataRead : Nat := 0x10
/-- DATA WRITE. -/
def opDataWrite : Nat := 0x11
/-- DATA WRITE MASKED. -/
def opDataMasked : Nat := 0x12
/-- OPEN. -/
def opOpen : Nat := 0x20
/-- PROVE. -/
def opProve : Nat := 0x21
/-- CLOSE. -/
def opClose : Nat := 0x22
/-- KEEPALIVE. -/
def opKeepalive : Nat := 0x23
/-- ABORT. -/
def opAbort : Nat := 0x24

/-- Operations that name an entry (Table 17-5). -/
def hasEntry (op : Nat) : Bool := op == opRead || op == opWrite || op == opDescribe

/-- Operations with an empty request body (Table 17-5). -/
def emptyBody (op : Nat) : Bool := op == opRead || op == opDescribe || op == opDataRead || 0x21 ≤ op

/-- DATA operations (R437). -/
def isData (op : Nat) : Bool := op == opDataRead || op == opDataWrite || op == opDataMasked

/-- Reads: READ, GROUP READ, DESCRIBE, DATA READ (R435). -/
def isReading (op : Nat) : Bool := op == opRead || op == opGroupRead || op == opDescribe || op == opDataRead

/-! ### Carriers -/

/-- Two sources are one (R433): ring, address and port; channel; the USB connection. -/
def sameSource (a : Option Carrier) (b : Carrier) : Bool :=
  match a, b with
  | some (.network r x p _), .network r' x' p' _ => r == r' && x == x' && p == p'
  | some (.door c), .door c' => c == c'
  | some .fs, .fs => true
  | _, _ => false

/-- Prefix length of a ring (0x1021:02, :04). -/
def ringPrefix (e : Entries) (r : Bool) : Nat := if r then cfgPrefixB e else cfgPrefixA e

/-- The source of a datagram lies within the prefix of its ring. -/
def inPrefix (e : Entries) (r : Bool) (a : BitVec 32) : Bool :=
  a.toNat / 2 ^ (32 - ringPrefix e r) == ringAddress e r / 2 ^ (32 - ringPrefix e r)

/-- NSP requests are taken from a carrier (R81, R310, R319, Table 17-3): its island runs, the module is IN_SERVICE but on FS, the
ring has an address, a USB host is attached. -/
def carrierUp (c : Carrier) (s : State) : Bool :=
  nspUp s && islandUp 2 s && match c with
    | .network r _ _ _ => s.protection.lifecycle == .inService && islandUp 4 s && ringAddress s.nsp.inForce r != 0
    | .door k => s.protection.lifecycle == .inService && islandUp 5 s && channelUsed s.nsp.inForce k.val
    | .fs => s.front.fsAttached

/-- A datagram from outside the prefix with no gateway to answer through is discarded (R429). -/
def unanswerable (c : Carrier) (s : State) : Bool :=
  match c with
  | .network r a _ _ => !inPrefix s.nsp.inForce r a && cfgGateway s.nsp.inForce == 0
  | _ => false

/-- The request leaves the hand-over of its carrier. -/
def takeRequest (c : Carrier) (s : State) : State :=
  match c with
  | .network _ _ _ _ => takeNet 0x0800 s
  | .door k => { s with doors.handed := s.doors.handed.eraseP fun p => p.1 == k.val }
  | .fs => s

/-! ### Frame checks -/

/-- A frame is discarded and counted in 0x1020:03. -/
def discardFrame (s : State) : State := { s with nsp.discarded := satU32 (s.nsp.discarded + 1) }

/-- The first two rows of Table 17-6. The body of a frame that is not discarded has LENGTH bytes. -/
def badFrame (q : NspReq) : Bool :=
  decide (q.frameLength < 24) || decide (1472 < q.frameLength) || q.version != 1 || decide (1440 < q.length) ||
    q.frameLength != 24 + q.length + (if q.session = 0xFF then 0 else 8) || q.body.length != q.length

/-- FLAGS bit REPLY. -/
def isReply (q : NspReq) : Bool := q.flags.getLsbD 0

/-- FLAGS bit ORDERED. -/
def isOrdered (q : NspReq) : Bool := q.flags.getLsbD 1

/-- FLAGS bit ACTIVE. -/
def isActive (q : NspReq) : Bool := q.flags.getLsbD 2

/-- FLAGS bit LAST. -/
def isLast (q : NspReq) : Bool := q.flags.getLsbD 3

/-- The request names a DOMAIN entry. -/
def namesDomain (op : Nat) (q : NspReq) : Bool :=
  (op == opRead || op == opWrite) && match entryAt q.index.toNat q.sub.toNat with
    | some e => e.type == 10
    | none => false

/-- A field marked zero is not zero, or ACTIVE stands on another operation than READ and GROUP READ (Table 17-4, Table 17-6). -/
def badFields (op : Nat) (q : NspReq) : Bool :=
  q.reserved != 0 || q.status != 0 || decide (16 ≤ q.flags.toNat) ||
    (isActive q && op != opRead && op != opGroupRead) ||
    (!hasEntry op && (q.index != 0 || q.sub != 0)) ||
    (!isData op && !namesDomain op q && (q.offset != 0 || q.total != 0)) ||
    (emptyBody op && q.length != 0)

/-- Items of a GROUP READ: index and subindex; none where they do not fill the body (Table 17-5). -/
def readItems : Nat → List Byte → Option (List (Nat × Nat))
  | 0, [] => some []
  | 0, _ :: _ => none
  | k + 1, a :: b :: c :: l => (readItems k l).map fun r => (a.toNat + 256 * b.toNat, c.toNat) :: r
  | _ + 1, _ => none

/-- Items of a GROUP WRITE: index, subindex and value; none where they do not fill the body (Table 17-5). -/
def writeItems : Nat → List Byte → Option (List (Nat × Nat × List Byte))
  | 0, [] => some []
  | 0, _ :: _ => none
  | k + 1, a :: b :: c :: d :: l =>
    if l.length < d.toNat then none
    else (writeItems k (l.drop d.toNat)).map fun r => (a.toNat + 256 * b.toNat, c.toNat, l.take d.toNat) :: r
  | _ + 1, _ => none

/-- Items of a group body with its COUNT, 1 to 64 (Table 17-6); a GROUP READ's have no value. -/
def groupItems (op : Nat) (body : List Byte) : Option (List (Nat × Nat × List Byte)) :=
  match body with
  | [] => none
  | n :: l =>
    if n.toNat = 0 ∨ 64 < n.toNat then none
    else if op = opGroupRead then (readItems n.toNat l).map fun r => r.map fun p => (p.1, p.2, [])
    else writeItems n.toNat l

/-- The item names a DOMAIN or RW2 entry (Table 17-6). -/
def groupBars (i : Nat × Nat × List Byte) : Bool :=
  match entryAt i.1 i.2.1 with
  | some e => e.type == 10 || e.access == 5
  | none => false

/-- Index of the first item that satisfies a test. -/
def firstItem {α : Type} (f : α → Bool) : Nat → List α → Option Nat
  | _, [] => none
  | k, x :: l => if f x then some k else firstItem f (k + 1) l

/-- Words of a DATA request whose counts are wrong, or that run past the data store (Table 17-6). -/
def dataRefusal (op : Nat) (q : NspReq) : Option Nat :=
  let most := if op = opDataMasked then 240 else 480
  let size := if op = opDataRead then 0 else if op = opDataMasked then 6 * q.total else 3 * q.total
  if q.total = 0 ∨ most < q.total ∨ q.length ≠ size then some 0x0E
  else if 0xFFFFF < q.offset + q.total - 1 then some 0x05
  else none

/-! ### Rights -/

/-- Entries that a decommissioned module lets read: identity, lifecycle, quilt (R310). -/
def decommissionedReads (index : Nat) : Bool :=
  (decide (0x1000 ≤ index) && decide (index ≤ 0x1002)) || index == 0x5000 || (decide (0xA010 ≤ index) && decide (index ≤ 0xA01F))

/-- The session's party may make the request (R310, R435). `items` are the entries that it names. -/
def mayAsk (n op : Nat) (items : List (Nat × Nat)) (s : State) : Bool :=
  let p := (session n s).party
  let keys := items.map fun i => i.1 * 256 + i.2
  if 0x21 ≤ op then true
  else if s.protection.lifecycle = .decommissioned then
    if isReading op then op != opDataRead && items.all fun i => decommissionedReads i.1
    else op == opWrite && keys == [0x500002]
  else isReading op || p == 0 || hasRight p 0 s || hasRight p 1 s || (!isData op && keys.all isSelector)

/-! ### The operations -/

/-- A reply to a request with a status and a body. -/
def replyTo (op : Nat) (q : NspReq) (status : Nat) (body : List Byte) : NspReply :=
  { op := op, session := q.session, seq := q.seq, status := status, index := q.index, sub := q.sub, offset := q.offset,
    total := q.total, body := body }

/-- A snapshot of a DOMAIN value is taken (R436): what reading destroys is consumed, and the quilt is read from its cursor. -/
def takeSnapshot (n : Nat) (active : Bool) (e : EntryDesc) (s : State) : State × ReadSnapshot :=
  let i := BitVec.ofNat 16 e.index
  let b := BitVec.ofNat 8 e.sub
  if e.index = 0x8041 then
    let r := takeEvents (selected n 0x804003 s) s
    (r.1, { index := i, sub := b, data := r.2 })
  else if e.index = 0xA010 then
    let cursor := entryInt s.nsp.settings 0xA010 0x02 0 0 0
    let r := quiltSnapshot (BitVec.ofInt 32 cursor) (selected n 0xA01003 s) (selected n 0xA01004 s) s.quilt
    (modSession n (fun x => { x with skipped := r.2.1 }) s, { index := i, sub := b, data := r.1, cursor := some r.2.2 })
  else
    let r := entryValue n active e s
    (r.1, { index := i, sub := b, data := r.2 })

/-- The last segment of a snapshot has been sent: the snapshot ends, and the quilt's cursor moves (R436, R475). -/
def endSnapshot (n : Nat) (x : ReadSnapshot) (s : State) : State :=
  let s := modSession n (fun y => { y with
    snapshots := y.snapshots.filter fun z => !(z.index == x.index && z.sub == x.sub) }) s
  match x.cursor with
  | some c => writeSetting (ekey 0xA010 0x02 0 0) 0 (Int.ofNat c.toNat) s
  | none => s

/-- One segment of a DOMAIN read (R436). A non-zero OFFSET without a snapshot is answered 0x10 (assumption log 74). -/
def readSegment (n : Nat) (active : Bool) (offset : Nat) (e : EntryDesc) (r : NspReply) (s : State) : State × NspReply :=
  let found : Option (State × ReadSnapshot) :=
    if offset = 0 then
      let t := takeSnapshot n active e s
      some (keepSnapshot n t.2 t.1, t.2)
    else ((session n s).snapshots.find? fun z => z.index.toNat == e.index && z.sub.toNat == e.sub).map fun x => (s, x)
  if (session n s).violated then (endViolated n s, { r with status := 0x09 })
  else match found with
  | none => (s, { r with status := 0x10 })
  | some (s', x) =>
    if x.data.length < offset then (s, { r with status := 0x05 })
    else
      let last := decide (x.data.length ≤ offset + 1440)
      (if last then endSnapshot n x s' else s',
        { r with status := 0x00, total := x.data.length, last := last, body := slice offset 1440 x.data })

/-- READ (R422, R436). -/
def doRead (n : Nat) (q : NspReq) (s : State) : State × NspReply :=
  let r := replyTo opRead q 0x00 []
  match entryAt q.index.toNat q.sub.toNat with
  | none => (s, { r with status := 0x01 })
  | some e =>
    if e.access = 3 then (s, { r with status := 0x03 })
    else if e.type = 10 then readSegment n (isActive q) q.offset e r s
    else
      let v := entryValue n (isActive q) e s
      (v.1, { r with body := v.2 })

/-- Items of a GROUP READ in order: the state, and the reply's body (Table 17-5). -/
def readGroup (n : Nat) (active : Bool) : List (Nat × Nat × List Byte) → State → State × List Byte
  | [], s => (s, [])
  | i :: l, s =>
    match entryAt i.1 i.2.1 with
    | none =>
      let r := readGroup n active l s
      (r.1, leBytes 1 0x01 ++ leBytes 1 0 ++ r.2)
    | some e =>
      if e.access = 3 then
        let r := readGroup n active l s
        (r.1, leBytes 1 0x03 ++ leBytes 1 0 ++ r.2)
      else
        let v := entryValue n active e s
        let r := readGroup n active l v.1
        (r.1, leBytes 1 0x00 ++ leBytes 1 v.2.length ++ v.2 ++ r.2)

/-- GROUP READ (R440, Table 17-6). -/
def doGroupRead (n : Nat) (q : NspReq) (items : List (Nat × Nat × List Byte)) (s : State) : State × NspReply :=
  match firstItem groupBars 0 items with
  | some k => (s, replyTo opGroupRead q 0x13 (leBytes 1 k))
  | none =>
    let r := readGroup n (isActive q) items s
    if 1440 < r.2.length then (s, replyTo opGroupRead q 0x0F []) else (r.1, replyTo opGroupRead q 0x00 r.2)

/-- What the check of a later item of a GROUP WRITE sees of an earlier one: the selection or the setting that it makes (R440). -/
def foreseen (n : Nat) (e : EntryDesc) (b : List Byte) (s : State) : State :=
  if isSelector (e.index * 256 + e.sub) || (e.access != 5 && !isConfiguration e && e.access != 4 && isSetting e) then
    (applyWrite n e b s).1
  else s

/-- The first item of a GROUP WRITE that fails its check, with its status (R440). Items are checked under the selections and settings
that the earlier items of the group make. -/
def checkGroup (n : Nat) : Nat → List (Nat × Nat × List Byte) → State → Option (Nat × Nat)
  | _, [], _ => none
  | k, i :: l, s =>
    match entryAt i.1 i.2.1 with
    | none => some (k, 0x01)
    | some e =>
      match writeRefusal n e i.2.2 s with
      | some st => some (k, st)
      | none => checkGroup n (k + 1) l (foreseen n e i.2.2 s)

/-- Items of a GROUP WRITE applied in order: the state, and the first command item that was refused with its status (R440). -/
def applyGroup (n : Nat) : Nat → List (Nat × Nat × List Byte) → State → State × Option (Nat × Nat)
  | _, [], s => (s, none)
  | k, i :: l, s =>
    match entryAt i.1 i.2.1 with
    | none => applyGroup n (k + 1) l s
    | some e =>
      let a := applyWrite n e i.2.2 s
      let r := applyGroup n (k + 1) l a.1
      (r.1, if a.2.1 = 0 then r.2 else some (k, a.2.1))

/-- GROUP WRITE (R440). -/
def doGroupWrite (n : Nat) (q : NspReq) (items : List (Nat × Nat × List Byte)) (s : State) : State × NspReply :=
  match firstItem groupBars 0 items with
  | some k => (s, replyTo opGroupWrite q 0x13 (leBytes 1 k))
  | none =>
    match checkGroup n 0 items s with
    | some (k, st) =>
      let e := (items[k]?).bind fun i => entryAt i.1 i.2.1
      (match e with | some e => noteRefusal n e st s | none => s, replyTo opGroupWrite q st (leBytes 1 k))
    | none =>
      let r := applyGroup n 0 items s
      match r.2 with
      | some (k, st) => (r.1, replyTo opGroupWrite q st (leBytes 1 k))
      | none => (r.1, replyTo opGroupWrite q 0x00 (leBytes 1 0xFF))

/-- Lowest and highest number of an entry's range (Table 17-7). -/
def rangeEnds (e : EntryDesc) : Int × Int :=
  match rangeOf e with
  | [] => (0, 0)
  | p :: l => l.foldl (fun a b => (min a.1 b.1, max a.2 b.2)) p

/-- Reply body of DESCRIBE (Table 17-7). -/
def describeBytes (n : Nat) (e : EntryDesc) (s : State) : List Byte :=
  let sel := selection n e.index e.sub s
  let d := defaultOf e sel.1 sel.2
  let ends := if 9 ≤ e.type then (0, 0) else rangeEnds e
  let name := nameBytes e.name
  leBytes 1 e.type ++ leBytes 1 e.access ++
    leBytes 1 (d.isSome.toNat + 2 * (isSelector (e.index * 256 + e.sub)).toNat + 4 * (isConfiguration e).toNat) ++
    leBytes 1 name.length ++ leBytes 4 (maxSize e) ++ intBytes 8 ends.1 ++ intBytes 8 ends.2 ++ intBytes 8 (d.getD 0) ++ name

/-- DESCRIBE. -/
def doDescribe (n : Nat) (q : NspReq) (s : State) : State × NspReply :=
  match entryAt q.index.toNat q.sub.toNat with
  | none => (s, replyTo opDescribe q 0x01 [])
  | some e => (s, replyTo opDescribe q 0x00 (describeBytes n e s))

/-- Words of the data store as DATA READ returns them (R437): on a standby those of the last committed checkpoint, and zero while
the crossing to the solver island is closed (R319). -/
def storeWords (first count : Nat) (s : State) : List Byte :=
  let v := if s.modes.mode = .standby then restoreBefore s else s
  (rangeFrom first count).flatMap fun a => leBytes 3 (if windowClosed 1 s then 0 else (storeAt a v).toNat)

/-- DATA READ: the lines of the words are decoded, and words of which a line is lost are free values (R245, R246, R437; assumption log
2). -/
def readWords (first count : Nat) (s : State) : State × List Byte :=
  let lines := rangeFrom (first / 8) ((first + count - 1) / 8 + 1 - first / 8)
  if windowClosed 1 s then (s, storeWords first count s)
  else if lines.any fun n => decide (3 ≤ upsetOf 0 n s) then
    let f := freeBytes (3 * count) (decodeLines 0 lines s)
    (f.2, f.1)
  else (decodeLines 0 lines s, storeWords first count s)

/-- Host writes that a DATA WRITE makes (R108, R437). -/
def hostWritesOf (masked : Bool) : Nat → Nat → List Byte → List HostWrite
  | _, 0, _ => []
  | a, k + 1, b =>
    let v : Word := BitVec.ofNat 20 (ofLe (slice 0 3 b))
    let m : Word := if masked then BitVec.ofNat 20 (ofLe (slice 3 3 b)) else BitVec.allOnes 20
    { address := a, value := v, mask := m } :: hostWritesOf masked (a + 1) k (b.drop (if masked then 6 else 3))

/-- DATA WRITE and DATA WRITE MASKED (R437): all words are held, or none. -/
def doDataWrite (masked : Bool) (q : NspReq) (s : State) : State × Nat :=
  let l := hostWritesOf masked q.offset q.total q.body
  if l.any fun h => !isWritable s.nsp.inForce h.address then (s, 0x02)
  else if s.modes.mode = .standby then (s, 0x06)
  else if 4096 < s.cycle.hostWrites.length + l.length then (s, 0x07)
  else ({ s with cycle.hostWrites := s.cycle.hostWrites ++ l }, 0x00)

/-- WRITE (R422, R436, R441): the state, and the reply, or none while the effect runs. -/
def doWrite (n : Nat) (q : NspReq) (s : State) : State × Option NspReply :=
  let r := replyTo opWrite q 0x00 []
  match entryAt q.index.toNat q.sub.toNat with
  | none => (s, some { r with status := 0x01 })
  | some e =>
    if e.type = 10 then
      let w := writeSegment n e q.offset q.total q.body (isLast q) s
      (w.1, w.2.map fun a => { r with status := a.1, body := a.2 })
    else match writeRefusal n e q.body s with
      | some st => (noteRefusal n e st s, some { r with status := st })
      | none =>
        let w := applyWrite n e q.body s
        if e.index = 0x4030 ∧ e.sub = 0x03 ∧ w.2.1 = 0 ∧ ofLe q.body ≠ 0 ∧ (session n w.1).acquire = 0 then (w.1, none)
        else (w.1, some { r with status := w.2.1, body := w.2.2 })

/-- Entries that a request names. -/
def namedEntries (op : Nat) (q : NspReq) (items : List (Nat × Nat × List Byte)) : List (Nat × Nat) :=
  if hasEntry op then [(q.index.toNat, q.sub.toNat)] else items.map fun i => (i.1, i.2.1)

/-- A request that its session has accepted is executed (R435–R442, Table 17-6): the state, and the reply, or none while its effect
runs. `n` is the session, 0xFF sessionless. -/
def perform (n op : Nat) (q : NspReq) (s : State) : State × Option NspReply :=
  let group := op == opGroupRead || op == opGroupWrite
  let items := if group then groupItems op q.body else some []
  let refuse (st : Nat) : State × Option NspReply := (s, some (replyTo op q st []))
  if badFields op q then refuse 0x0E
  else match items with
    | none => refuse 0x0E
    | some items =>
      match (if isData op then dataRefusal op q else none) with
      | some st => refuse st
      | none =>
        if n < 16 ∧ mayAsk n op (namedEntries op q items) s = false then refuse 0x0A
        else
          let some' (r : State × NspReply) : State × Option NspReply := (r.1, some r.2)
          if op = opRead then some' (doRead n q s)
          else if op = opWrite then doWrite n q s
          else if op = opGroupRead then some' (doGroupRead n q items s)
          else if op = opGroupWrite then some' (doGroupWrite n q items s)
          else if op = opDescribe then some' (doDescribe n q s)
          else if op = opDataRead then
            let w := readWords q.offset q.total s
            (w.1, some (replyTo op q 0x00 w.2))
          else if op = opDataWrite ∨ op = opDataMasked then
            let w := doDataWrite (op == opDataMasked) q s
            (w.1, some (replyTo op q w.2 []))
          else if op = opAbort then
            (abandonStaging n (modSession n (fun x => { x with transfer := none }) s), some (replyTo op q 0x00 []))
          else (s, some (replyTo op q 0x00 []))

/-! ### Sessions -/

/-- SEQ lies 1 to 32,767 ahead of the highest one accepted (R434). -/
def seqAhead (seq highest : BitVec 16) : Bool := decide (1 ≤ (seq - highest).toNat ∧ (seq - highest).toNat ≤ 32767)

/-- A request is accepted in its session: its SEQ is the highest, and it is among the last eight (R434). -/
def acceptSeq (seq : BitVec 16) (x : Session) : Session :=
  { x with
    highest := seq
    recent := (seq, none) :: x.recent.take 7 }

/-- The reply of a session leaves on the source of its request, also where the effect has ended the session (R434). -/
def answer (c : Carrier) (r : NspReply) (s : State) : State :=
  if (session r.session s).carrier.isSome then sendReply r s else replyOn (some c) r s

/-- An accepted request runs: CLOSE ends its session after its reply (R435); a reply that waits keeps its place (R434). -/
def runRequest (n op : Nat) (q : NspReq) (s : State) : State :=
  let r := perform n op q s
  match r.2 with
  | some y =>
    let s := answer q.carrier y r.1
    if op = opClose ∧ y.status = 0x00 then endSession n s else s
  | none => modSession n (fun x => { x with deferred := x.deferred ++ [(isOrdered q, replyTo op q 0x00 [])] }) r.1

/-- A request of a session may start (R439): none ORDERED is in progress, and nothing is, when it is ORDERED itself. -/
def mayStart (ordered : Bool) (x : Session) : Bool := !(x.deferred.any fun d => d.1) && (!ordered || x.deferred.isEmpty)

/-- A request of a session may start now: DATA READ waits for the hub slot (R154, R437). -/
def startsNow (op : Nat) (q : NspReq) (x : Session) (s : State) : Bool :=
  mayStart (isOrdered q) x && !(op == opDataRead && slotOwned s)

/-- Held requests of a session that may start run, in their order (R439); the fuel bounds their number. -/
def runHeldOf (n : Nat) : Nat → State → State
  | 0, s => s
  | k + 1, s =>
    match (session n s).held with
    | [] => s
    | h :: l =>
      if startsNow h.1 h.2 (session n s) s then
        runHeldOf n k (runRequest n h.1 h.2 (modSession n (fun x => { x with held := l }) s))
      else s

/-- Held requests of every session that may start run (R439). -/
def runHeld (s : State) : State := (List.range 16).foldl (fun s n => runHeldOf n 8 s) s

/-- Some session has a held request that may start. -/
def heldReady (s : State) : Bool :=
  (List.range 16).any fun n => match (session n s).held with
    | [] => false
    | h :: _ => startsNow h.1 h.2 (session n s) s

/-- Accesses and NSP requests that waited for the hub slot go, and NSP requests that may start (R154, R439). -/
def releaseHeld (s : State) : State := runHeld (if slotOwned s then s else startChains (runWaiting s))

/-- What the block does while no command waits: hub accesses and NSP requests that were held start once nothing is in their way, else
it idles (assumption log 3). -/
def idleStep (s : State) : State :=
  if heldReady s || (!slotOwned s && !s.hub.waiting.isEmpty) then releaseHeld { s with nsp.replies := [] } else s

/-- A request arrives in a session (R433, R434, R439). -/
def sessionRequest (op : Nat) (q : NspReq) (s : State) : State :=
  let n := q.session
  let x := session n s
  if 16 ≤ n ∨ x.phase ≠ .isOpen ∨ sameSource x.carrier q.carrier = false ∨ q.cmacOk = false ∨ isReply q = true then discardFrame s
  else match x.recent.find? fun p => p.1 == q.seq with
    | some p =>
      match p.2 with
      | some r => replyOn (some q.carrier) r s
      | none => s
    | none =>
      if seqAhead q.seq x.highest = false then discardFrame s
      else
        let s := modSession n (acceptSeq q.seq) s
        if 8 ≤ x.deferred.length + x.held.length then answer q.carrier (replyTo op q 0x07 []) s
        else if op = opOpen then answer q.carrier (replyTo op q 0x13 []) s
        else if x.held.isEmpty ∧ startsNow op q x s = true then runRequest n op q s
        else modSession n (fun x => { x with held := x.held ++ [(op, q)] }) s

/-- The entries of a sessionless request are identity entries (R431). A body that does not parse is judged by its form. -/
def sessionlessMay (op : Nat) (q : NspReq) : Bool :=
  let identity (i : Nat) : Bool := decide (0x1000 ≤ i ∧ i ≤ 0x1002)
  if op = opRead ∨ op = opDescribe then identity q.index.toNat
  else if op = opGroupRead then match groupItems op q.body with
    | some l => l.all fun i => identity i.1
    | none => true
  else false

/-- A sessionless request but OPEN (R431). -/
def sessionlessRequest (op : Nat) (q : NspReq) (s : State) : State :=
  if isReply q then discardFrame s
  else if sessionlessMay op q = false then replyOn (some q.carrier) (replyTo op q 0x0A []) s
  else
    let r := perform 0xFF op q s
    match r.2 with
    | some y => replyOn (some q.carrier) y r.1
    | none => r.1

/-- What every NSP command begins with: the clock, the hand-over of the carrier, no reply kept. -/
def beginRequest (q : NspReq) (t : Nat) (s : State) : State := { takeRequest q.carrier (atTime t s) with nsp.replies := [] }

/-- An NSP request other than OPEN and PROVE arrives (R428–R439); held requests that may start follow. -/
def request (op : Nat) (q : NspReq) (t : Nat) (s : State) : State :=
  let s := beginRequest q t s
  if carrierUp q.carrier s = false then s
  else if unanswerable q.carrier s || badFrame q then discardFrame s
  else if q.session = 0xFF then sessionlessRequest op q s
  else runHeld (sessionRequest op q s)

/-- NSP_READ. -/
def execNspRead (q : NspReq) (t : Nat) (s : State) : Host.Outcome State Fault Refusal := .next (request opRead q t s)

/-- NSP_WRITE. -/
def execNspWrite (q : NspReq) (t : Nat) (s : State) : Host.Outcome State Fault Refusal := .next (request opWrite q t s)

/-- GROUP_READ. -/
def execGroupRead (q : NspReq) (t : Nat) (s : State) : Host.Outcome State Fault Refusal := .next (request opGroupRead q t s)

/-- GROUP_WRITE. -/
def execGroupWrite (q : NspReq) (t : Nat) (s : State) : Host.Outcome State Fault Refusal := .next (request opGroupWrite q t s)

/-- DESCRIBE. -/
def execDescribe (q : NspReq) (t : Nat) (s : State) : Host.Outcome State Fault Refusal := .next (request opDescribe q t s)

/-- DATA_READ. -/
def execDataRead (q : NspReq) (t : Nat) (s : State) : Host.Outcome State Fault Refusal := .next (request opDataRead q t s)

/-- DATA_WRITE. -/
def execDataWrite (q : NspReq) (t : Nat) (s : State) : Host.Outcome State Fault Refusal := .next (request opDataWrite q t s)

/-- DATA_WRITE_MASKED. -/
def execDataWriteMasked (q : NspReq) (t : Nat) (s : State) : Host.Outcome State Fault Refusal := .next (request opDataMasked q t s)

/-- CLOSE. -/
def execClose (q : NspReq) (t : Nat) (s : State) : Host.Outcome State Fault Refusal := .next (request opClose q t s)

/-- KEEPALIVE. -/
def execKeepalive (q : NspReq) (t : Nat) (s : State) : Host.Outcome State Fault Refusal := .next (request opKeepalive q t s)

/-- ABORT. -/
def execAbort (q : NspReq) (t : Nat) (s : State) : Host.Outcome State Fault Refusal := .next (request opAbort q t s)

/-- First free session number (R432). -/
def freeSession (s : State) : Option Nat := (rangeFrom 0 16).find? fun n => (session n s).phase == .free

/-- A party may open a session (R432, R433, R435): enabled and not barred; party 0 on FS outside IN_SERVICE. -/
def mayOpen (p : Nat) (c : Carrier) (s : State) : Bool :=
  !s.nsp.barred.any (· == p) &&
    (if p = 0 then c == .fs && s.protection.lifecycle != .inService else decide (p ≤ 8) && (partyOf p s).enabled)

/-- The new session `n` of an OPEN, with the session key of `partyKey` (R432 steps 2 and 3). -/
def openedSession (q : NspReq) (n : Nat) (nonce : BitVec 128) (partyKey : List Byte) : Session :=
  let host := slice 4 16 q.body
  { phase := .opening, party := (byteAt 0 q.body).toNat, carrier := some q.carrier, hostNonce := host, moduleNonce := nonce
    key := cmacWhole partyKey ([1, byteAt 0 q.body, BitVec.ofNat 8 n, 0] ++ host ++ leBytes 16 nonce.toNat) }

/-- An OPEN that has passed the frame checks (R432). -/
def openRequest (q : NspReq) (nonce : BitVec 128) (s : State) : State :=
  let reply (r : NspReply) (s : State) : State := replyOn (some q.carrier) r s
  let r := replyTo opOpen q 0x00 []
  if isReply q then discardFrame s
  else if badFields opOpen q ∨ q.length ≠ 20 ∨ slice 1 3 q.body ≠ [0, 0, 0] then reply { r with status := 0x0E } s
  else if mayOpen (byteAt 0 q.body).toNat q.carrier s = false then reply { r with status := 0x0A } s
  else match freeSession s with
    | none => reply { r with status := 0x07 } s
    | some n => reply { r with session := n, body := leBytes 16 nonce.toNat } (modSession n (fun _ =>
        openedSession q n nonce (partyOf (byteAt 0 q.body).toNat s).key) s)

/-- OPEN (R431, R432): `nonce` is the random MODULE_NONCE. -/
def execOpenS (q : NspReq) (nonce : BitVec 128) (t : Nat) (s : State) : Host.Outcome State Fault Refusal :=
  let s := beginRequest q t s
  .next (if carrierUp q.carrier s = false then s
    else if unanswerable q.carrier s || badFrame q then discardFrame s
    else if q.session = 0xFF then openRequest q nonce s
    else runHeld (sessionRequest opOpen q s))

/-- A PROVE with an invalid CMAC (R433): the session is freed, the failure is counted, the third one of a party within 60 s bars
it. -/
def failProve (n : Nat) (s : State) : State :=
  let p := (session n s).party
  let now := s.network.time.now
  let l := now :: (mapVal [] p s.nsp.failedProves).filter fun x => decide (now - x ≤ 60000000000)
  let s := endSession n s
  { s with
    nsp.authFailures := satU32 (s.nsp.authFailures + 1)
    nsp.failedProves := mapPut [] p (if 3 ≤ l.length then [] else l) s.nsp.failedProves
    nsp.barred := if 3 ≤ l.length then insertNat p s.nsp.barred else s.nsp.barred }

/-- A PROVE in an opening session (R432 step 4): it sets the first SEQ. -/
def proveRequest (q : NspReq) (s : State) : State :=
  let n := q.session
  let x := session n s
  if sameSource x.carrier q.carrier = false ∨ isReply q = true then discardFrame s
  else if q.cmacOk = false then failProve n s
  else if badFields opProve q then
    answer q.carrier (replyTo opProve q 0x0E []) (modSession n (acceptSeq q.seq) s)
  else answer q.carrier (replyTo opProve q 0x00 []) (modSession n (fun x => { acceptSeq q.seq x with phase := .isOpen }) s)

/-- PROVE (R432, R433). -/
def execProve (q : NspReq) (t : Nat) (s : State) : Host.Outcome State Fault Refusal :=
  let s := beginRequest q t s
  .next (if carrierUp q.carrier s = false then s
    else if unanswerable q.carrier s || badFrame q then discardFrame s
    else if q.session = 0xFF then sessionlessRequest opProve q s
    else if q.session < 16 ∧ (session q.session s).phase = .opening then proveRequest q s
    else runHeld (sessionRequest opProve q s))

/-- PROVE_TIMEOUT (R432): an opening session without a valid PROVE within 2 s is freed. -/
def execProveTimeout (session : Fin 16) (s : State) : Host.Outcome State Fault Refusal :=
  .next (if (Machine.session session.val s).phase = .opening then endSession session.val s else s)

/-- SESSION_TIMEOUT (R435). -/
def execSessionTimeout (session : Fin 16) (s : State) : Host.Outcome State Fault Refusal :=
  .next (if (Machine.session session.val s).phase = .isOpen then endSession session.val s else s)

/-- OPEN_BAR_EXPIRY (R433). -/
def execOpenBarExpiry (party : Fin 9) (s : State) : Host.Outcome State Fault Refusal :=
  .next { s with nsp.barred := s.nsp.barred.filter fun p => p != party.val }

/-- DOMAIN_SNAPSHOT_EXPIRY (R436): the oldest snapshot of the session lapses. -/
def execDomainSnapshotExpiry (session : Fin 16) (s : State) : Host.Outcome State Fault Refusal :=
  .next (modSession session.val (fun x => { x with snapshots := x.snapshots.dropLast }) s)

/-- DOMAIN_WRITE_TIMEOUT (R436): the transfer is discarded whole. -/
def execDomainWriteTimeout (session : Fin 16) (s : State) : Host.Outcome State Fault Refusal :=
  .next (abandonStaging session.val (modSession session.val (fun x => { x with transfer := none }) s))

/-- REVERT_SHADOW (R425, R426): a write of 1 to 0x1010:05, refused while the shadow is frozen. -/
def execRevertShadow (value : BitVec 8) (s : State) : Host.Outcome State Fault Refusal :=
  .next (if nspUp s ∧ value = 1 ∧ shadowFrozen s = false then revertShadow s else s)

end Sys2Proof.Machine
end

