-- ==== Sys2Proof/Machine/PairMessages.lean ====
section
/-!
DEFINITION. Meanings of the seam blocks and of the pair messages, of path loss, commits, and of resynchronisation
(08_redundant_pair.md R201–R217, R226–R230; 02_module_and_connectors.md R34; 07_online_change.md R181).
-/
namespace Sys2Proof.Machine

/-! ### Seam blocks and the start of a link -/

/-- The standby keeps weft frames (R214, R215). -/
def keepsFrames (s : State) : Bool :=
  s.modes.mode == .standby && (s.pair.standby == .synchronised || s.pair.standby == .resynchronising)

/-- The standby can still commit the frame: it follows the frames, or the frame is the first of a resynchronisation or behind it
(R214, R215, R230). -/
def keepsFrame (f : WeftFrame) (s : State) : Bool :=
  keepsFrames s && (s.pair.standby == .synchronised || s.pair.resyncLines != 0 || f.flags.getLsbD 7)

/-- A whole weft frame has arrived: kept when its trailer is right and it can be committed, otherwise entered as uncommitted (R235); a
handover frame that fails makes the standby unsynchronised (R214, R227). -/
def takeFrame (tag : BitVec 16) (bytes : List Byte) (t : Nat) (s : State) : State :=
  match parseWeft bytes with
  | some f =>
    if keepsFrame f s then tryCommit t (applyHandover { s with pair.frames := s.pair.frames ++ [f] }) else standbyHistory f 5 0 s
  | none =>
    let s := { s with pair.badFrame := some tag }
    if (byteAt 2 bytes).getLsbD 3 then loseSync s else s

/-- A block is handed on by its TYPE (R201, R202). -/
def deliverBlock (b : SeamBlock) (t : Nat) (s : State) : State :=
  match b.type with
  | 1 =>
    if s.modes.mode = .standby then
      let r := takeWeftBlock b s
      match r.2 with
      | some bytes => takeFrame b.tag bytes t r.1
      | none => r.1
    else s
  | 2 =>
    let m := parsePair b.payload
    if m.kind = 8 then s else { s with seam.handed := s.seam.handed ++ [m] }
  | _ => takeServiceBlock b s

/-- SEAM_BLOCK_RECEIVED (R201–R203). -/
def execSeamBlockReceived (lane : Fin 2) (block : SeamBlock) (crcOk : Bool) (t : Nat) (s : State) :
    Host.Outcome State Fault Refusal :=
  let s := atTime t s
  let x := seamLane lane s
  if x.lock = false ∨ islandUp 7 s = false then .next s
  else if crossingOpen 10 s = false then .next (closedWrite 10 s)
  else if crcOk = false ∨ block.type = 0 ∨ 3 < block.type then .next (crcError lane s)
  else if isDuplicate block.laneSeq x then
    .next (ackIfOwed lane (modSeamLane lane (fun x => { x with ackOwed := x.ackOwed + 1 }) (noteResent block x s)))
  else
    let gap := block.laneSeq != x.rxNext
    let s := modSeamLane lane (noteBlock block.laneSeq) (noteResent block x s)
    .next (deliverBlock block t (if gap then sendAck lane (seamLane lane s).rxNext s else ackIfOwed lane s))

/-- Highest weft format that both ranges hold; 0 when they do not overlap (R205). -/
def commonFormat (lo hi : Nat) (s : State) : Nat :=
  let top := min hi s.firmware.main.weftHi
  if max lo s.firmware.main.weftLo ≤ top then top else 0

/-- No HELLO has passed since the link was lost: the next one starts a new link (R205, R209). -/
def newLink (s : State) : Bool := !(s.seam.lane0.helloAccepted || s.seam.lane1.helloAccepted)

/-- A HELLO that passes its checks: the lane enters service unless it still retrains (R204, R205). -/
def helloPasses (lane : Fin 2) (format : Nat) (s : State) : State :=
  let s := modSeamLane lane (fun x => { x with
    helloAccepted := true
    inService := !x.failed
    weftReady := !x.failed && !weftMode s }) s
  let s := clearAlarm .weftFormatMismatch 0 { s with
    seam.format := format
    seam.formatMismatch := false }
  pumpSeam (laneReturned s)

/-- A HELLO whose ranges do not overlap: no weft format is in use on the new link (R205). -/
def helloMismatch (s : State) : State :=
  raiseAlarm .weftFormatMismatch 0 { s with
    seam.formatMismatch := true
    seam.format := if newLink s then 0 else s.seam.format }

/-- A pair message that fails R209 is dropped and counted. -/
def dropMessage (p : PairPath) (s : State) : State := modPath p (fun x => { x with dropped := satU32 (x.dropped + 1) }) s

/-- A pair message is accepted: path and partner are noted, a higher jersey supersedes this module, and it may confirm its HANDOVER
(R209, R222, R225, R226). -/
def acceptMessage (p : PairPath) (m : PairMsg) (s : State) : State :=
  confirmHandover m (supersede m (notePartner p m (pathUp p m s)))

/-- HELLO (R34, R205, R209): what the seam path has heard is forgotten at a new link; a message of another pair or slot, or one
that is not later, is dropped. Before LOAD only the link itself acts on it. -/
def execHello (lane : Fin 2) (m : PairMsg) (s : State) : Host.Outcome State Fault Refusal :=
  let s := takeHanded m s
  let x := seamLane lane s
  if x.lock = false ∨ x.helloAccepted = true then .next s
  else
    let s := { s with
      front.partnerSlot := some m.slot
      pair.seamPath.last := if newLink s then none else s.pair.seamPath.last }
    if some m.slot ≠ partnerSlotOf s then
      .next (raiseAlarm .pairMismatch 0 { dropMessage .seam s with seam.pairMismatch := true })
    else if m.pairId = 0 ∨ messageAccepted .seam m true s = false then .next (dropMessage .seam s)
    else
      let back := s.pair.partner.left
      let s := if nspUp s then acceptMessage .seam m s else s
      match m.arg with
      | .formats lo hi revision =>
        let s := if back then partnerFellBack revision s else s
        let f := commonFormat lo.toNat hi.toNat s
        .next (if f = 0 then helloMismatch s else helloPasses lane f s)
      | _ => .next s

/-! ### Sending -/

/-- SEAM_HEARTBEAT_TIMER (R208): every 250 µs on each lane in service. -/
def execSeamHeartbeatTimer (t : Nat) (s : State) : Host.Outcome State Fault Refusal :=
  let s := atTime t s
  .next (if sendsHeartbeats s ∧ seamUp s then sendSeam (heartbeatMsg s) s else s)

/-- NETWORK_HEARTBEAT_TIMER (R208): every 500 µs on rings A and B. -/
def execNetworkHeartbeatTimer (t : Nat) (s : State) : Host.Outcome State Fault Refusal :=
  let s := atTime t s
  .next (if sendsHeartbeats s then sendNetwork (heartbeatMsg s) s else s)

/-- FAULT_DECLARATION_REPEAT (R208): the declaration goes out twice more, 50 µs apart. -/
def execFaultDeclarationRepeat (t : Nat) (s : State) : Host.Outcome State Fault Refusal :=
  let s := atTime t s
  if s.modes.mode = .fault ∧ 0 < s.pair.faultRepeats then
    .next { sendBoth 2 (.fault (BitVec.ofNat 16 s.modes.cause)) s with pair.faultRepeats := s.pair.faultRepeats - 1 }
  else .next s

/-! ### Reception of pair messages -/

/-- A message passes R209, or is dropped and counted; `f` is what an accepted one does once path and partner are noted. -/
def receiveMessage (p : PairPath) (m : PairMsg) (cmacOk : Bool) (t : Nat) (f : State → State) (s : State) : State :=
  let s := atTime t s
  let s := if p = .network then takeNet (cfgHeartbeatEtherType s.nsp.inForce) s else takeHanded m s
  if nspUp s = false then s
  else if messageAccepted p m cmacOk s then f (acceptMessage p m s)
  else dropMessage p s

/-- The standby of this active module reports itself synchronised: the alarm of its resynchronisation clears, and that of an abandoned
weft frame once it has committed a later one (Table 8-10). -/
def standbyReports (m : PairMsg) (s : State) : State :=
  if solving s.modes.mode && m.mode == 4 && m.sync then
    let behind := (m.cycle - s.cycle.abandonedCycle).toNat
    clearAlarm .resyncSlow 0 (if 0 < behind ∧ behind < 2 ^ 39 then clearAlarm .weftAbandoned 0 s else s)
  else s

/-- What the announced mode of the partner does to an active module (Table 3-5, R217). -/
def partnerAnnounces (m : PairMsg) (s : State) : State :=
  if s.modes.mode = .solo ∧ s.pair.partner.mode = some 4 then addTrigger .partnerStandby s
  else if m.mode = 9 ∨ m.mode = 10 then partnerLost s
  else s

/-- An accepted HEARTBEAT (R209, R215, R217, R226, R458). -/
def acceptHeartbeat (m : PairMsg) (s : State) : State :=
  let s := partnerAnnounces m (standbyReports m s)
  partnerStops m (checkSync m (advanceUpdate s))

/-- HEARTBEAT (R209). -/
def execHeartbeat (path : PairPath) (m : PairMsg) (cmacOk : Bool) (t : Nat) (s : State) : Host.Outcome State Fault Refusal :=
  .next (receiveMessage path m cmacOk t (acceptHeartbeat m) s)

/-- An accepted FAULT (R215, R217, Table 8-6): a declaration is remembered; it starts the takeover of a standby that is still
synchronised by what the message reports, and of another raises the alarm once the seam path is lost. -/
def acceptFault (m : PairMsg) (t : Nat) (s : State) : State :=
  if s.modes.mode = .standby then
    if isDeclaration m s then
      let s := checkSync m { s with pair.declared := true }
      if s.pair.standby = .synchronised then takeover t s
      else if s.pair.seamPath.up then s
      else raiseAlarm .takeoverNotPossible 0 s
    else s
  else partnerLost s

/-- FAULT (R217). -/
def execFault (path : PairPath) (m : PairMsg) (cmacOk : Bool) (t : Nat) (s : State) : Host.Outcome State Fault Refusal :=
  .next (receiveMessage path m cmacOk t (acceptFault m t) s)

/-- An accepted LEAVING (R217, Table 3-5). -/
def acceptLeaving (s : State) : State :=
  partnerLost { s with
    pair.partner.left := true
    pair.partner.mode := none }

/-- LEAVING (R217). -/
def execLeaving (path : PairPath) (m : PairMsg) (cmacOk : Bool) (t : Nat) (s : State) : Host.Outcome State Fault Refusal :=
  .next (receiveMessage path m cmacOk t acceptLeaving s)

/-- HANDOVER_CONFIRM (R226 step 5). -/
def execHandoverConfirm (path : PairPath) (m : PairMsg) (cmacOk : Bool) (t : Nat) (s : State) :
    Host.Outcome State Fault Refusal :=
  .next (receiveMessage path m cmacOk t id s)

/-! ### Loss of a path -/

/-- Both paths are lost (Table 8-6, Table 3-5). -/
def bothLost (t : Nat) (s : State) : State :=
  let s := { s with
    pair.partner.mode := none
    pair.partner.left := false }
  if s.modes.mode = .standby then
    if s.pair.standby = .synchronised then takeover t s else raiseAlarm .takeoverNotPossible 0 s
  else partnerLost s

/-- PATH_LOST (R209, R217): four periods without an accepted message. The third row of Table 8-6 comes before the fourth. -/
def execPathLost (path : PairPath) (t : Nat) (s : State) : Host.Outcome State Fault Refusal :=
  let s := atTime t s
  if (pathOf path s).up then
    let s := modPath path (fun x => { x with up := false, last := none }) s
    let other := match path with | .seam => s.pair.netPath.up | .network => s.pair.seamPath.up
    if other then
      if path = .seam ∧ s.modes.mode = .standby ∧ s.pair.standby ≠ .synchronised ∧ s.pair.declared then
        .next (raiseAlarm .takeoverNotPossible 0 s)
      else
        let s := { s with pair.singlePath := satU32 (s.pair.singlePath + 1) }
        .next (raiseAlarm (match path with | .seam => .seamLinkDown | .network => .networkHeartbeatLost) 0 s)
    else .next (bothLost t s)
  else .next s

/-! ### Commits and HANDOVER -/

/-- An accepted BOUNDARY (R214, R215, R227). -/
def acceptBoundary (m : PairMsg) (t : Nat) (s : State) : State :=
  if keepsFrames s then
    match m.arg with
    | .boundary _ true => loseSync s
    | .boundary _ false => tryCommit t (checkSync m { s with pair.boundaries := s.pair.boundaries ++ [(m, timeBase s)] })
    | _ => s
  else s

/-- BOUNDARY (R214). -/
def execBoundary (m : PairMsg) (t : Nat) (s : State) : Host.Outcome State Fault Refusal :=
  .next (receiveMessage .seam m true t (acceptBoundary m t) s)

/-- WEFT_COMMIT_DONE (R214): the commit in progress completes, and the next frame in hand follows. -/
def execWeftCommitDone (t : Nat) (s : State) : Host.Outcome State Fault Refusal :=
  let s := atTime t s
  if s.pair.committing.isSome then .next (tryCommit t (applyHandover (completeCommit s))) else .next s

/-- HANDOVER_ABORT (R229, R459): two admitted cycles after the end of cycle H without a confirmation. DESIGN CHOICE (assumption log 141):
an extraction request whose HANDOVER is aborted stays in preparation and starts no second HANDOVER. -/
def execHandoverAbort (t : Nat) (s : State) : Host.Outcome State Fault Refusal :=
  let s := atTime t s
  match s.modes.mode, s.pair.handover with
  | .handover, some h =>
    if h.endedAt.isSome && !h.confirmed then
      let s := logOther .handoverAborted [] { s with
        pair.handover := none
        pair.aborted := s.pair.aborted + 1 }
      .next (nextCycle (resumeCommit (leverAfterWait (abortUpdate 4 (readyIfSolo (setMode (activeOrSolo s) 0x0009 s))))))
    else .next s
  | _, _ => .next s

/-! ### Resynchronisation -/

/-- RESYNC_REQUEST_TIMER (R230): every 10 ms until the resynchronisation begins; not while the lever is open (R50). -/
def execResyncRequestTimer (t : Nat) (s : State) : Host.Outcome State Fault Refusal :=
  let s := atTime t s
  if s.modes.mode = .standby ∧ s.pair.standby = .unsynchronised ∧ s.front.leverOpen = false ∧ seamUp s ∧
      pairRefused s = false then
    let w := s.firmware.main
    .next (sendSeam (pairMsg 5 (.formats (BitVec.ofNat 16 w.weftLo) (BitVec.ofNat 16 w.weftHi) 0) s) s)
  else .next s

/-- An accepted RESYNC_REQUEST: asked for until the next boundary at which R230 allows it. -/
def acceptResync (m : PairMsg) (s : State) : State :=
  if solving s.modes.mode then partnerAnnounces m { s with pair.resyncWanted := true } else s

/-- RESYNC_REQUEST (R230): the partner is back in STANDBY even if it had announced LEAVING (R51). -/
def execResyncRequest (m : PairMsg) (t : Nat) (s : State) : Host.Outcome State Fault Refusal :=
  let ok := messageAccepted .seam m true (atTime t s)
  let s := if ok then { s with pair.partner.left := false } else s
  .next (receiveMessage .seam m true t (acceptResync m) s)

/-- The standby refuses the resynchronisation (R230 step 1). -/
def refuseResync (s : State) : State := raiseAlarm .resyncRefused 0 (loseSync s)

/-- Change state of a code (Table 7-1). -/
def changeStateOf (n : Nat) : ChangeState :=
  ([.empty, .loading, .refused, .loaded, .ready, .switchPending, .switched, .confirmPending, .undoPending] :
    List ChangeState).getD n .empty

/-- A configuration arrives: for a commit to come on a synchronised standby, else as the first transfer of a resynchronisation
(R216, R230, R426, R457). -/
def takeConfiguration (c : StoredCopy) (s : State) : State :=
  if s.pair.standby = .synchronised ∨ s.pair.resyncAccepted = true then { s with pair.heldConfig := some c }
  else if c.format < s.firmware.main.cfgLo ∨ s.firmware.main.cfgHi < c.format then refuseResync s
  else
    let s := { stopCommitting s with
      pair.standby := .resynchronising
      pair.resyncLines := 0 }
    let s := { applyConfig c.values s with
      nsp.generation := c.generation
      nsp.stored0 := c
      nsp.stored1 := c }
    convertConfig c s

/-- The content of both banks arrives: the loader checks and admission run on this module on each of them (R157, R230). -/
def takeBanks (active shadow : Option Image) (s : State) : State :=
  match active with
  | none => s
  | some i =>
    let r := admissionOf s.nsp.inForce i 0 []
    let s := { s with cycle.report := r.1 }
    if r.1.refused || imageLost s then refuseResync s
    else
      let s := setActive (some i) r.2 { s with cycle.latest := r.2 }
      match shadow with
      | none => setShadow none {} s
      | some x =>
        let q := admissionOf s.nsp.inForce x 0 []
        if q.1.refused then refuseResync { s with cycle.report := q.1 } else setShadow (some x) q.2 s

/-- A change image arrives: steps 1 to 4 of R178 on this module, which reports its result to the active module; a standby that admits
it holds the change READY (R181). -/
def takeChangeImage (i : Image) (s : State) : State :=
  let s := setFlash (otherSlot s) (some i) s
  let r := admitChange i s
  let bad := r.1.refused || imageLost s
  let s := { s with cycle.report := r.1 }
  let s := if bad then setChange .refused (dropChange s) else setChange .ready (holdChange i r.2 s)
  pumpSeam { s with seam.serviceTx := s.seam.serviceTx ++ [.changeResult i.identity (!bad)] }

/-- A rule set arrives: for a commit to come, or as part of a resynchronisation that has not been refused (R230, R305). -/
def takeRules (m : SMap Region) (s : State) : State :=
  if s.pair.standby = .synchronised ∨ s.pair.resyncAccepted = true then { s with pair.heldRules := some m }
  else if s.pair.standby = .resynchronising then
    { s with
      protection.active := m
      protection.shadow := m }
  else s

/-- The staged image of slot X arrives (R458): this module stages it, unless the same image is staged already; then it restarts at once.
DESIGN CHOICE (assumption log 157): a module in trial, or one that is receiving another image, reports result 11. -/
def takeFirmware (image : List Byte) (s : State) : State :=
  let identity := BitVec.ofNat 32 (fieldLe 64 4 image)
  let here := match imageWith .staged s with | some h => h.identity == identity | none => false
  if here then answerForwarded 0 s
  else if s.firmware.trial ∨ s.firmware.staging = 1 ∨ s.firmware.staging = 2 then answerForwarded 11 s
  else { beginStaging image.length none s with
    firmware.received := image
    firmware.staging := 2 }

/-- A service transfer that passed its integrity checks (R181, R230, R305, R426, R456, R458). -/
def takeService (item : Service) (s : State) : State :=
  match item with
  | .configuration g f nums blobs =>
    takeConfiguration { generation := g, format := f, values := { nums := nums, blobs := blobs } } s
  | .banks a x => if s.pair.standby = .resynchronising then takeBanks a x s else s
  | .changeState n => if s.pair.standby = .resynchronising then setChange (changeStateOf n) s else s
  | .plan p => if s.pair.standby = .resynchronising then { s with solver.plan := p.val } else s
  | .changeImage i => if s.pair.standby = .unsynchronised then s else takeChangeImage i s
  | .changeResult _ _ => s
  | .ruleSet r => takeRules (r.map fun p => (p.1, { base := p.2.1, limit := p.2.2.1, attr := p.2.2.2 })) s
  | .firmware i => takeFirmware i s
  | .stagingResult _ => s
  | .firmwareConfirm => confirmHere s
  | .resyncEnd =>
    if s.pair.standby = .resynchronising then
      clearAlarm .resyncRefused 0 { s with
        pair.resyncAccepted := true }
    else s

/-- A service transfer that an active module takes: its standby's result of a change image or of a forwarded firmware image (R181,
R458). -/
def takeReport (item : Service) (s : State) : State :=
  match item with
  | .changeResult i a => standbyChangeResult i a s
  | .stagingResult n => partnerStaged n.toNat s
  | _ => s

/-- SERVICE_TRANSFER_RECEIVED (R181, R230). -/
def execServiceTransferReceived (item : Service) (intact : Bool) (s : State) : Host.Outcome State Fault Refusal :=
  let s := takeTransfer s
  if pairRefused s then .next s
  else if s.modes.mode ≠ .standby then .next (if intact then takeReport item s else s)
  else if intact then .next (takeService item s)
  else match item with
    | .firmware _ | .stagingResult _ | .firmwareConfirm | .changeResult _ _ => .next s
    | _ => .next (if s.pair.standby = .resynchronising ∨ s.pair.standby = .unsynchronised then refuseResync s else s)

/-- RESYNC_SLOW (R230): a resynchronisation has lasted longer than 0x3001:06. -/
def execResyncSlow (s : State) : Host.Outcome State Fault Refusal :=
  let asActive := solving s.modes.mode && s.pair.partner.mode == some 4 && !s.pair.partner.sync
  .next (if s.pair.standby = .resynchronising ∨ asActive = true then raiseAlarm .resyncSlow 0 s else s)

end Sys2Proof.Machine
end

