-- ==== Sys2Proof/Machine/Phases.lean ====
section
/-!
DEFINITION. The end of the XCH phase: the solve phase starts, and what waited for the hub slot of the crossbar goes
(04_logic_solver.md R93, R95; 06_cycle_and_admission.md R151, R154).
-/
namespace Sys2Proof.Machine

/-- The solve phase starts on every place with the before-image store cleared (R93, R95, R151). -/
def startSolve (s : State) : State :=
  startPlaces { s with
    cycle.phase := .solve
    solver.before := []
    diag.disagreed := false
    solver.places := [] }

/-- XCH_PHASE_END (R151): the solve phase starts, and hub accesses and NSP requests that waited for the hub slot go (R154). -/
def execXchPhaseEnd (s : State) : Host.Outcome State Fault Refusal :=
  if s.cycle.phase = .xch then
    let s := startSolve s
    .next (if heldReady s || !s.hub.waiting.isEmpty then releaseHeld s else s)
  else .next s

end Sys2Proof.Machine
end

