-- ==== Sys2Proof/Machine/Quilt.lean ====
section
/-!
DEFINITION. Meanings of the commands of the quilt event recorder (19_event_recorder.md R464–R475;
03_start_and_modes.md R73).
-/
namespace Sys2Proof.Machine

/-- A count of a port or door channel that grew in this second: the growth into the extremes, the count kept (Table 19-4). -/
def sampleGrowth (code source count : Nat) (s : State) : State :=
  let k := accKey code source
  let last := mapVal 0 k s.quilt.lastCounts
  let s := sample code source 0 0 false true (Int.ofNat (count - last)) s
  { s with quilt.lastCounts := mapPut 0 k count s.quilt.lastCounts }

/-- Samples that recorder staging takes every second: junctions of islands 1 to 4 once they have been read, receive errors of the
ports, errors of the channels in use (Table 19-4). -/
def sampleSecond (s : State) : State :=
  let s := if s.diag.peak.isSome then
      (rangeFrom 1 4).foldl (fun s n => sample 3 n (-40) 5 true true (mapVal 0 n s.diag.junctions) s) s
    else s
  let s := (rangeFrom 1 4).foldl (fun s p => sampleGrowth 4 p (port p s).errors s) s
  (channelsUsed s.nsp.inForce).foldl (fun s k => sampleGrowth 5 k ((channel k s).errorFrames + (channel k s).rejected) s) s

/-- The next statistics interval opens: the cycle time's histogram takes its WIDTH from the CYCLE_BOUND of this instant (Table 19-4).
DEDUCED (assumption log 158): an interval that opens before a program is admitted takes it at its first sample. -/
def openStatistics (s : State) : State :=
  { s with quilt.accumulators :=
      mapMod {} (accKey 1 0) (fun a => { a with width := (cycleBoundUs s + 31) / 32 }) s.quilt.accumulators }

/-- Intervals close when the operating seconds reach a whole multiple of them (R465). -/
def closeIntervals (s : State) : State :=
  let s := if s.quilt.seconds % s.quilt.statsInterval = 0 then openStatistics (sealStatistics false s) else s
  if s.quilt.seconds % s.quilt.unitsInterval = 0 then sealUnits false s else s

/-- OPERATING_SECOND (R465, R471): counted while the module has power; staging samples and closes intervals while island 2 runs. -/
def execOperatingSecond (s : State) : Host.Outcome State Fault Refusal :=
  if s.front.powerGood then
    let s := { s with quilt.seconds := s.quilt.seconds + 1 }
    .next (if islandUp 2 s then closeIntervals (sampleSecond s) else s)
  else .next s

/-- QUILT_BUFFER_WRITE (R468): the buffer holds 65,536 bytes, or its oldest record has waited 10 s. -/
def execQuiltBufferWrite (oldestWaited : Bool) (s : State) : Host.Outcome State Fault Refusal :=
  if s.quilt.flushing || s.quilt.buffer.isEmpty then .next s
  else if 65536 ≤ recordsBytes s.quilt.buffer then .next (writeBuffered { s with quilt.flushCause := 1 })
  else if oldestWaited then .next (writeBuffered { s with quilt.flushCause := 2 })
  else .next s

/-- QUILT_FLUSH (R470): the flush that a trigger has started writes the buffer. -/
def execQuiltFlush (s : State) : Host.Outcome State Fault Refusal :=
  .next (if s.quilt.flushing then writeBuffered s else s)

/-- FAULT causes after which the module restarts by itself (R73, Table 9-8 and the cause tables of the other chapters). -/
def restartable (cause : Nat) : Bool :=
  (decide (0x0201 ≤ cause ∧ cause ≤ 0x020A)) || [0x020C, 0x0210, 0x0305].any (· == cause) ||
    (decide (0x1011 ≤ cause) &&
      !([0x1022, 0x1051, 0x1052, 0x1105, 0x1401, 0x1402, 0x1603, 0x1701].any (· == cause)))

/-- QUILT_FLUSH_END (R470, R471, R73): the counter record ends the flush, `duration` in units of 10 µs. After a restartable FAULT the
10 s of the automatic restart begin. -/
def execQuiltFlushEnd (duration : Nat) (s : State) : Host.Outcome State Fault Refusal :=
  if s.quilt.flushing then
    let s := writeCounters s
    .next { s with
      quilt.flushing := false
      quilt.flushDuration := min 800 duration
      modes.autoRestartArmed := s.modes.mode == .fault && restartable s.modes.cause && !s.supply.powerFail }
  else .next s

/-- COUNTER_RECORD_WRITE (R471). -/
def execCounterRecordWrite (s : State) : Host.Outcome State Fault Refusal :=
  .next (if s.front.powerGood then writeCounters s else s)

/-- QUILT_READ (R475): a session's read of 0xA010:01 at OFFSET 0 takes its snapshot. -/
def execQuiltRead (session : Fin 16) (s : State) : Host.Outcome State Fault Refusal :=
  let n := session.val
  match findEntry 0xA010 0x01 with
  | some e =>
    if (Machine.session n s).phase = .isOpen then
      let r := takeSnapshot n false e s
      .next (keepSnapshot n r.2 r.1)
    else .next s
  | none => .next s

end Sys2Proof.Machine
end

