-- ==== Sys2Proof/Machine/Timers.lean ====
section
/-!
DEFINITION. Meanings of the timer and counter instructions (05_instruction_set.md R134, R135; 04_logic_solver.md
R113–R115).
-/
namespace Sys2Proof.Machine

/-- Types of timers (Table 4-8). -/
inductive TimerType where
  | ton | tof | tp
  deriving DecidableEq, Repr

/-- Code of a timer type (Table 4-8). -/
def timerCode : TimerType → Nat
  | .ton => 0 | .tof => 1 | .tp => 2

/-- A timer cell as its instruction works on it (Table 4-7, Table 4-8). -/
structure TimerCell where
  /-- RUN. -/
  run : Bool
  /-- Q. -/
  q : Bool
  /-- IN_PREV. -/
  inPrev : Bool
  /-- ELAPSED. -/
  elapsed : Nat
  /-- RESIDUAL. -/
  residual : Nat
  deriving DecidableEq, Repr

/-- Time base in µs of a CONTROL word (Table 4-8). -/
def timeBaseOf (control : Word) : Nat :=
  match (control >>> 13).setWidth 2 with
  | 0 => 1000
  | 1 => 10000
  | 2 => 100000
  | _ => 1000000

/-- The advance of R114 by `d` µs in time base `b`. -/
def timerAdvance (d b : Nat) (c : TimerCell) : TimerCell :=
  if c.run then
    let r := c.residual + d
    { c with elapsed := min (c.elapsed + r / b) 1048575, residual := r % b }
  else c

/-- Idle: output and time cleared. -/
def timerIdle (q : Bool) (run : Bool) (c : TimerCell) : TimerCell :=
  { c with q := q, run := run, elapsed := 0, residual := 0 }

/-- The steps of R134 after the advance. -/
def timerStep (ty : TimerType) (inp : Bool) (preset : Nat) (c : TimerCell) : TimerCell :=
  let done := c.run && decide (preset ≤ c.elapsed)
  let c' := match ty with
    | .ton =>
      if !inp then timerIdle false false c
      else if !c.inPrev then timerIdle (decide (preset = 0)) (decide (preset ≠ 0)) c
      else if done then { c with q := true, run := false } else c
    | .tof =>
      if inp then timerIdle true false c
      else if c.inPrev then timerIdle (decide (0 < preset)) (decide (0 < preset)) c
      else if done then { c with q := false, run := false } else c
    | .tp =>
      if done then { c with q := false, run := false }
      else if !c.run && inp && !c.inPrev then timerIdle (decide (0 < preset)) (decide (0 < preset)) c
      else c
  { c' with inPrev := inp }

/-- The cell that CONTROL, ELAPSED and RESIDUAL words spell. -/
def timerOf (control elapsed residual : Word) : TimerCell :=
  { run := control.getLsbD 19, q := control.getLsbD 18, inPrev := control.getLsbD 17
    elapsed := elapsed.toNat, residual := residual.toNat }

/-- CONTROL of a cell under its new TYPE; BASE is kept, reserved bits read zero (Table 4-8). -/
def controlWord (ty : TimerType) (old : Word) (c : TimerCell) : Word :=
  BitVec.ofNat 20 (c.run.toNat * 2 ^ 19 + c.q.toNat * 2 ^ 18 + c.inPrev.toNat * 2 ^ 17 + timerCode ty * 2 ^ 15 +
    ((old >>> 13).setWidth 2).toNat * 2 ^ 13)

/-- TON, TOF, TP (R134): CONTROL, ELAPSED and RESIDUAL are written in every execution; ACC := Q. -/
def timerRun (ty : TimerType) (p : Place) (o : WordOperand) (s : State) : Host.Outcome State Fault Refusal :=
  runReading p (fun l => (List.range 4).map fun k => wordAddress o l + BitVec.ofNat 20 k) (fun l s =>
    let a := wordAddress o l
    let control := storeAt a.toNat s
    let preset := storeAt (a + 1).toNat s
    let c0 := timerOf control (storeAt (a + 2).toNat s) (storeAt (a + 3).toNat s)
    let c := timerStep ty l.acc preset.toNat (timerAdvance (cycleDelta s) (timeBaseOf control) c0)
    writeThen p.val a (controlWord ty control c)
      (writeThen p.val (a + 2) (BitVec.ofNat 20 c.elapsed)
        (writeThen p.val (a + 3) (BitVec.ofNat 20 c.residual)
          (fun s => advance p.val (12 + surcharge o.stride) (modLane p.val (fun l => { l with acc := c.q }) s)))) s) s

/-- TON. -/
def execTon (p : Place) (o : WordOperand) (s : State) : Host.Outcome State Fault Refusal := timerRun .ton p o s

/-- TOF. -/
def execTof (p : Place) (o : WordOperand) (s : State) : Host.Outcome State Fault Refusal := timerRun .tof p o s

/-- TP. -/
def execTp (p : Place) (o : WordOperand) (s : State) : Host.Outcome State Fault Refusal := timerRun .tp p o s

/-- No count is reported: a new counter cell in the first cycle after a change (R188). -/
def counterMasked (a : Nat) (s : State) : Bool := decide (a ∈ s.change.maskCounters)

/-- Status word of a counter (Table 4-9). -/
def counterStatus (up down qu qd : Bool) : Word :=
  BitVec.ofNat 20 (up.toNat * 2 ^ 19 + down.toNat * 2 ^ 18 + qu.toNat * 2 ^ 17 + qd.toNat * 2 ^ 16)

/-- CTU and CTD (R135): `up` counts up. VALUE and status are written in every execution. -/
def counterRun (up : Bool) (p : Place) (o : WordOperand) (s : State) : Host.Outcome State Fault Refusal :=
  runReading p (fun l => [wordAddress o l, wordAddress o l + 1]) (fun l s =>
    let a := wordAddress o l
    let v := storeAt a.toNat s
    let st := storeAt (a + 1).toNat s
    let prev := st.getLsbD (if up then 19 else 18)
    let counts := l.acc && !prev && !counterMasked a.toNat s
    let r := if counts then narrow false (v.toInt + (if up then 1 else -1)) else (v, false)
    let qu := decide (l.wb.toInt ≤ r.1.toInt)
    let qd := decide (r.1.toInt ≤ 0)
    let status := if up then counterStatus l.acc (st.getLsbD 18) qu qd else counterStatus (st.getLsbD 19) l.acc qu qd
    writeThen p.val a r.1
      (writeThen p.val (a + 1) status
        (fun s => advance p.val (6 + surcharge o.stride)
          (modLane p.val (fun l => { l with sat := l.sat || r.2, acc := if up then qu else qd }) s))) s) s

/-- CTU. -/
def execCtu (p : Place) (o : WordOperand) (s : State) : Host.Outcome State Fault Refusal := counterRun true p o s

/-- CTD. -/
def execCtd (p : Place) (o : WordOperand) (s : State) : Host.Outcome State Fault Refusal := counterRun false p o s

/-- CLD and CRS: VALUE takes a new value when ACC is 1 and is written in every case (R135). -/
def counterSet (p : Place) (o : WordOperand) (f : Lane → Word) (s : State) : Host.Outcome State Fault Refusal :=
  runReading p (fun l => [wordAddress o l]) (fun l s =>
    let a := wordAddress o l
    writeThen p.val a (if l.acc then f l else storeAt a.toNat s) (advance p.val (4 + surcharge o.stride)) s) s

/-- CLD. -/
def execCld (p : Place) (o : WordOperand) (s : State) : Host.Outcome State Fault Refusal :=
  counterSet p o (fun l => l.wb) s

/-- CRS. -/
def execCrs (p : Place) (o : WordOperand) (s : State) : Host.Outcome State Fault Refusal :=
  counterSet p o (fun _ => 0) s

end Sys2Proof.Machine
end

