-- ==== Sys2Proof/Machine/WordLogic.lean ====
section
/-!
DEFINITION. Meanings of the word, scaling, compare and quality instructions (05_instruction_set.md R136–R138,
Table 5-6, Table 5-7).
-/
namespace Sys2Proof.Machine

/-- A load of a word operand into a register of the lane. -/
def wordLoad (p : Place) (o : WordOperand) (f : Word → Lane → Lane) (s : State) : State :=
  let a := wordAddress o (laneAt p.val s)
  advance p.val (2 + surcharge o.stride) (modLane p.val (f (readWord p.val a s)) s)

/-- LWA; `symbols` of the line that it reads have come to be in error (R245). -/
def execLwa (p : Place) (o : WordOperand) (symbols : Nat) (s : State) : Host.Outcome State Fault Refusal :=
  runReading p (fun l => [wordAddress o l]) (fun _ s => wordLoad p o (fun w l => { l with wa := w }) s)
    (if laneRuns p.val s then meetUpset 0 ((wordAddress o (laneAt p.val s)).toNat / 8) symbols s else s)

/-- LWB. -/
def execLwb (p : Place) (o : WordOperand) (s : State) : Host.Outcome State Fault Refusal :=
  runReading p (fun l => [wordAddress o l]) (fun _ s => wordLoad p o (fun w l => { l with wb := w }) s) s

/-- A store of a register of the lane. -/
def wordStore (p : Place) (o : WordOperand) (f : Lane → Word) (s : State) : Host.Outcome State Fault Refusal :=
  runAt p (fun l s => writeThen p.val (wordAddress o l) (f l) (advance p.val (2 + surcharge o.stride)) s) s

/-- SWA. -/
def execSwa (p : Place) (o : WordOperand) (s : State) : Host.Outcome State Fault Refusal :=
  wordStore p o (fun l => l.wa) s

/-- SWB. -/
def execSwb (p : Place) (o : WordOperand) (s : State) : Host.Outcome State Fault Refusal :=
  wordStore p o (fun l => l.wb) s

/-- LIA. -/
def execLia (p : Place) (v : Word) (s : State) : Host.Outcome State Fault Refusal :=
  runRegs p 1 (fun l => { l with wa := v }) s

/-- LIB. -/
def execLib (p : Place) (v : Word) (s : State) : Host.Outcome State Fault Refusal :=
  runRegs p 1 (fun l => { l with wb := v }) s

/-- XAB. -/
def execXab (p : Place) (s : State) : Host.Outcome State Fault Refusal :=
  runRegs p 1 (fun l => { l with wa := l.wb, wb := l.wa }) s

/-- LIX. -/
def execLix (p : Place) (s : State) : Host.Outcome State Fault Refusal :=
  runRegs p 1 (fun l => { l with wa := BitVec.ofNat 20 (indexOf l) }) s

/-- WA takes a result, and SAT is set where the result saturated (R90, R130). -/
def takeResult (r : Word × Bool) (l : Lane) : Lane := { l with wa := r.1, sat := l.sat || r.2 }

/-- WA takes an exact function of WA and WB in the format of U (Table 5-6). -/
def arithmetic (p : Place) (u : Bool) (cost : Nat) (f : Int → Int → Int) (s : State) :
    Host.Outcome State Fault Refusal :=
  runRegs p cost (fun l => takeResult (narrow u (f (wordVal u l.wa) (wordVal u l.wb))) l) s

/-- ADD. -/
def execAdd (p : Place) (u : Bool) (s : State) : Host.Outcome State Fault Refusal := arithmetic p u 1 (fun a b => a + b) s

/-- SUB. -/
def execSub (p : Place) (u : Bool) (s : State) : Host.Outcome State Fault Refusal := arithmetic p u 1 (fun a b => a - b) s

/-- MUL. -/
def execMul (p : Place) (u : Bool) (s : State) : Host.Outcome State Fault Refusal := arithmetic p u 3 (fun a b => a * b) s

/-- DIV. -/
def execDiv (p : Place) (u : Bool) (s : State) : Host.Outcome State Fault Refusal :=
  runRegs p 22 (fun l => takeResult (divide u (wordVal u l.wa) (wordVal u l.wb)) l) s

/-- MOD: when WB is 0, WA := 0 and SAT is set. -/
def execMod (p : Place) (u : Bool) (s : State) : Host.Outcome State Fault Refusal :=
  runRegs p 22 (fun l =>
    let a := wordVal u l.wa
    let b := wordVal u l.wb
    takeResult (if b = 0 then (0, true) else narrow u (a - a.tdiv b * b)) l) s

/-- NEG. -/
def execNeg (p : Place) (u : Bool) (s : State) : Host.Outcome State Fault Refusal := arithmetic p u 1 (fun a _ => -a) s

/-- ABS. -/
def execAbs (p : Place) (u : Bool) (s : State) : Host.Outcome State Fault Refusal :=
  arithmetic p u 1 (fun a _ => Int.ofNat a.natAbs) s

/-- MIN. -/
def execMin (p : Place) (u : Bool) (s : State) : Host.Outcome State Fault Refusal :=
  arithmetic p u 1 (fun a b => if b < a then b else a) s

/-- MAX. -/
def execMax (p : Place) (u : Bool) (s : State) : Host.Outcome State Fault Refusal :=
  arithmetic p u 1 (fun a b => if a < b then b else a) s

/-- WAND. -/
def execWand (p : Place) (s : State) : Host.Outcome State Fault Refusal :=
  runRegs p 1 (fun l => { l with wa := l.wa &&& l.wb }) s

/-- WOR. -/
def execWor (p : Place) (s : State) : Host.Outcome State Fault Refusal :=
  runRegs p 1 (fun l => { l with wa := l.wa ||| l.wb }) s

/-- WXOR. -/
def execWxor (p : Place) (s : State) : Host.Outcome State Fault Refusal :=
  runRegs p 1 (fun l => { l with wa := l.wa ^^^ l.wb }) s

/-- SHL. -/
def execShl (p : Place) (count : Fin 20) (s : State) : Host.Outcome State Fault Refusal :=
  runRegs p 1 (fun l => { l with wa := l.wa <<< count.val }) s

/-- SHR: copies of bit 19 enter when U is 0, zeros when U is 1. -/
def execShr (p : Place) (u : Bool) (count : Fin 20) (s : State) : Host.Outcome State Fault Refusal :=
  runRegs p 1 (fun l => { l with wa := if u then l.wa >>> count.val else l.wa.sshiftRight count.val }) s

/-- The unclamped result of SCL (R137). -/
def scaleResult (u : Bool) (wa inLo inHi outLo outHi : Int) : Word × Bool :=
  let product := (wa - inLo) * (outHi - outLo)
  if inHi = inLo then (BitVec.ofInt 20 (divideByZero u product), true)
  else narrow u (outLo + product.tdiv (inHi - inLo))

/-- A value limited to the closed range between two bounds, in either order (R137). -/
def limitBetween (v a b : Int) : Int := max (min a b) (min v (max a b))

/-- SCL: ACC tells that WA lay outside its input range; `clamp` is FN 1 (R137). -/
def execScl (p : Place) (u : Bool) (clamp : Bool) (o : WordOperand) (s : State) : Host.Outcome State Fault Refusal :=
  runReading p (fun l => (List.range 4).map fun k => wordAddress o l + BitVec.ofNat 20 k) (fun l s =>
    let a := wordAddress o l
    let rd (k : Word) : Int := wordVal u (readWord p.val (a + k) s)
    let x := wordVal u l.wa
    let r := scaleResult u x (rd 0) (rd 1) (rd 2) (rd 3)
    let w := if clamp then BitVec.ofInt 20 (limitBetween (wordVal u r.1) (rd 2) (rd 3)) else r.1
    let out := decide (x < min (rd 0) (rd 1) ∨ max (rd 0) (rd 1) < x)
    advance p.val (30 + surcharge o.stride)
      (modLane p.val (fun l => { l with wa := w, sat := l.sat || r.2, acc := out }) s)) s

/-- ACC tells whether a relation between WA and WB holds in the format of U (R138). -/
def compare (p : Place) (u : Bool) (f : Int → Int → Bool) (s : State) : Host.Outcome State Fault Refusal :=
  runRegs p 1 (fun l => { l with acc := f (wordVal u l.wa) (wordVal u l.wb) }) s

/-- CEQ. -/
def execCeq (p : Place) (u : Bool) (s : State) : Host.Outcome State Fault Refusal := compare p u (fun a b => a == b) s

/-- CNE. -/
def execCne (p : Place) (u : Bool) (s : State) : Host.Outcome State Fault Refusal := compare p u (fun a b => a != b) s

/-- CLT. -/
def execClt (p : Place) (u : Bool) (s : State) : Host.Outcome State Fault Refusal :=
  compare p u (fun a b => decide (a < b)) s

/-- CLE. -/
def execCle (p : Place) (u : Bool) (s : State) : Host.Outcome State Fault Refusal :=
  compare p u (fun a b => decide (a ≤ b)) s

/-- CGT. -/
def execCgt (p : Place) (u : Bool) (s : State) : Host.Outcome State Fault Refusal :=
  compare p u (fun a b => decide (b < a)) s

/-- CGE. -/
def execCge (p : Place) (u : Bool) (s : State) : Host.Outcome State Fault Refusal :=
  compare p u (fun a b => decide (b ≤ a)) s

/-- QTS: the quality of a point by FN (R138, Table 5-7). -/
def execQts (p : Place) (fn : Fin 4) (o : BitOperand) (s : State) : Host.Outcome State Fault Refusal :=
  runReading p (fun l => [BitVec.ofNat 20 (qualityWord (pointAt (bitAddress o l).1.toNat (bitAddress o l).2))]) (fun l s =>
    let a := bitAddress o l
    let point := pointAt a.1.toNat a.2
    let c := qualityOf point (readWord p.val (BitVec.ofNat 20 (qualityWord point)) s)
    let f (l : Lane) : Lane := match fn with
      | 0 => { l with acc := c == 3 }
      | 1 => { l with acc := c == 3 || c == 2 }
      | 2 => { l with acc := c != 0 }
      | 3 => { l with wa := c.setWidth 20 }
    advance p.val (3 + surcharge o.stride) (modLane p.val f s)) s

end Sys2Proof.Machine
end

