-- ==== Sys2Proof/Machine/Dispatch.lean ====
section
/-!
DEFINITION. One arm per command: a direct call of its meaning, or a rejection by name.
-/
namespace Sys2Proof.Machine

def exec (i : Instr) (s : State) : Host.Outcome State Fault Refusal :=
  match i with
  | .powerGood straps partnerLow t => Sys2Proof.Machine.execPowerGood straps partnerLow t s
  | .kickstandInForce selfCheckOk => Sys2Proof.Machine.execKickstandInForce selfCheckOk s
  | .islandRelease copyOk fallbackOk eraseFailed => Sys2Proof.Machine.execIslandRelease copyOk fallbackOk eraseFailed s
  | .lampTestEnd => Sys2Proof.Machine.execLampTestEnd s
  | .selftestCheckDone check pass capacitance => Sys2Proof.Machine.execSelftestCheckDone check pass capacitance s
  | .selftestTimeout => Sys2Proof.Machine.execSelftestTimeout s
  | .loadStepsDone imageIntact t => Sys2Proof.Machine.execLoadStepsDone imageIntact t s
  | .linkWaitExpiry => Sys2Proof.Machine.execLinkWaitExpiry s
  | .loadTimeout => Sys2Proof.Machine.execLoadTimeout s
  | .partnerSearchStart t => Sys2Proof.Machine.execPartnerSearchStart t s
  | .searchWindowEnd t => Sys2Proof.Machine.execSearchWindowEnd t s
  | .supplySample a b loadPower => Sys2Proof.Machine.execSupplySample a b loadPower s
  | .supplyGoodQualified input => Sys2Proof.Machine.execSupplyGoodQualified input s
  | .rideThroughEnd => Sys2Proof.Machine.execRideThroughEnd s
  | .bankCharged millivolts => Sys2Proof.Machine.execBankCharged millivolts s
  | .bankExhausted => Sys2Proof.Machine.execBankExhausted s
  | .powerFailRestart => Sys2Proof.Machine.execPowerFailRestart s
  | .matedSenseDebounce => Sys2Proof.Machine.execMatedSenseDebounce s
  | .extractionWithoutRelease => Sys2Proof.Machine.execExtractionWithoutRelease s
  | .extractionLeverOpen => Sys2Proof.Machine.execExtractionLeverOpen s
  | .extractionLeverClose => Sys2Proof.Machine.execExtractionLeverClose s
  | .extractionReady => Sys2Proof.Machine.execExtractionReady s
  | .extractionRefusedEnd => Sys2Proof.Machine.execExtractionRefusedEnd s
  | .slotStrapChange => Sys2Proof.Machine.execSlotStrapChange s
  | .trimCoverChange opened => Sys2Proof.Machine.execTrimCoverChange opened s
  | .trimKeyPress plus => Sys2Proof.Machine.execTrimKeyPress plus s
  | .trimKeyRepeat plus => Sys2Proof.Machine.execTrimKeyRepeat plus s
  | .trimTargetTimeout => Sys2Proof.Machine.execTrimTargetTimeout s
  | .identify seconds => Sys2Proof.Machine.execIdentify seconds s
  | .identifyEnd => Sys2Proof.Machine.execIdentifyEnd s
  | .lampTest => Sys2Proof.Machine.execLampTest s
  | .start => Sys2Proof.Machine.execStart s
  | .stop => Sys2Proof.Machine.execStop s
  | .handover => Sys2Proof.Machine.execHandover s
  | .warmRestart => Sys2Proof.Machine.execWarmRestart s
  | .automaticRestart => Sys2Proof.Machine.execAutomaticRestart s
  | .minimumCycleWaitEnd t => Sys2Proof.Machine.execMinimumCycleWaitEnd t s
  | .cycleBoundary t testsEnded => Sys2Proof.Machine.execCycleBoundary t testsEnded s
  | .xchPhaseEnd => Sys2Proof.Machine.execXchPhaseEnd s
  | .solvePhaseEnd t => Sys2Proof.Machine.execSolvePhaseEnd t s
  | .cycleWatchdogExpiry => Sys2Proof.Machine.execCycleWatchdogExpiry s
  | .signatureWindowEnd tandem disturbance => Sys2Proof.Machine.execSignatureWindowEnd tandem disturbance s
  | .snapshotPairCompare tandem upset lag => Sys2Proof.Machine.execSnapshotPairCompare tandem upset lag s
  | .snapshotStreamLost tandem => Sys2Proof.Machine.execSnapshotStreamLost tandem s
  | .cycleRelease t => Sys2Proof.Machine.execCycleRelease t s
  | .pathWatchdogExpiry p => Sys2Proof.Machine.execPathWatchdogExpiry p s
  | .illegalEncodingFetch p => Sys2Proof.Machine.execIllegalEncodingFetch p s
  | .nop p => Sys2Proof.Machine.execNop p s
  | .ld p n o => Sys2Proof.Machine.execLd p n o s
  | .andB p n o => Sys2Proof.Machine.execAndB p n o s
  | .orB p n o => Sys2Proof.Machine.execOrB p n o s
  | .xorB p n o => Sys2Proof.Machine.execXorB p n o s
  | .st p n o => Sys2Proof.Machine.execSt p n o s
  | .setB p o => Sys2Proof.Machine.execSetB p o s
  | .rstB p o => Sys2Proof.Machine.execRstB p o s
  | .notA p => Sys2Proof.Machine.execNotA p s
  | .seta p => Sys2Proof.Machine.execSeta p s
  | .clra p => Sys2Proof.Machine.execClra p s
  | .lsat p => Sys2Proof.Machine.execLsat p s
  | .br p => Sys2Proof.Machine.execBr p s
  | .bca p n => Sys2Proof.Machine.execBca p n s
  | .bco p n => Sys2Proof.Machine.execBco p n s
  | .bcx p n => Sys2Proof.Machine.execBcx p n s
  | .brt p => Sys2Proof.Machine.execBrt p s
  | .re p o => Sys2Proof.Machine.execRe p o s
  | .fe p o => Sys2Proof.Machine.execFe p o s
  | .ton p o => Sys2Proof.Machine.execTon p o s
  | .tof p o => Sys2Proof.Machine.execTof p o s
  | .tp p o => Sys2Proof.Machine.execTp p o s
  | .ctu p o => Sys2Proof.Machine.execCtu p o s
  | .ctd p o => Sys2Proof.Machine.execCtd p o s
  | .cld p o => Sys2Proof.Machine.execCld p o s
  | .crs p o => Sys2Proof.Machine.execCrs p o s
  | .lwa p o symbols => Sys2Proof.Machine.execLwa p o symbols s
  | .lwb p o => Sys2Proof.Machine.execLwb p o s
  | .swa p o => Sys2Proof.Machine.execSwa p o s
  | .swb p o => Sys2Proof.Machine.execSwb p o s
  | .lia p v => Sys2Proof.Machine.execLia p v s
  | .lib p v => Sys2Proof.Machine.execLib p v s
  | .xab p => Sys2Proof.Machine.execXab p s
  | .lix p => Sys2Proof.Machine.execLix p s
  | .add p u => Sys2Proof.Machine.execAdd p u s
  | .sub p u => Sys2Proof.Machine.execSub p u s
  | .mul p u => Sys2Proof.Machine.execMul p u s
  | .div p u => Sys2Proof.Machine.execDiv p u s
  | .mod p u => Sys2Proof.Machine.execMod p u s
  | .neg p u => Sys2Proof.Machine.execNeg p u s
  | .abs p u => Sys2Proof.Machine.execAbs p u s
  | .min p u => Sys2Proof.Machine.execMin p u s
  | .max p u => Sys2Proof.Machine.execMax p u s
  | .wand p => Sys2Proof.Machine.execWand p s
  | .wor p => Sys2Proof.Machine.execWor p s
  | .wxor p => Sys2Proof.Machine.execWxor p s
  | .shl p count => Sys2Proof.Machine.execShl p count s
  | .shr p u count => Sys2Proof.Machine.execShr p u count s
  | .scl p u clamp o => Sys2Proof.Machine.execScl p u clamp o s
  | .ceq p u => Sys2Proof.Machine.execCeq p u s
  | .cne p u => Sys2Proof.Machine.execCne p u s
  | .clt p u => Sys2Proof.Machine.execClt p u s
  | .cle p u => Sys2Proof.Machine.execCle p u s
  | .cgt p u => Sys2Proof.Machine.execCgt p u s
  | .cge p u => Sys2Proof.Machine.execCge p u s
  | .qts p fn o => Sys2Proof.Machine.execQts p fn o s
  | .endP p => Sys2Proof.Machine.execEndP p s
  | .jmp p target => Sys2Proof.Machine.execJmp p target s
  | .jc p target => Sys2Proof.Machine.execJc p target s
  | .jnc p target => Sys2Proof.Machine.execJnc p target s
  | .loop p count => Sys2Proof.Machine.execLoop p count s
  | .endl p => Sys2Proof.Machine.execEndl p s
  | .call p target => Sys2Proof.Machine.execCall p target s
  | .ret p => Sys2Proof.Machine.execRet p s
  | .xchInput p o answered => Sys2Proof.Machine.execXchInput p o answered s
  | .xchOutput p o => Sys2Proof.Machine.execXchOutput p o s
  | .fence p => Sys2Proof.Machine.execFence p s
  | .xchPostLatch p => Sys2Proof.Machine.execXchPostLatch p s
  | .planRequest plan => Sys2Proof.Machine.execPlanRequest plan s
  | .rejoinTestDone tandem pass => Sys2Proof.Machine.execRejoinTestDone tandem pass s
  | .mirrorRecordCommitted => Sys2Proof.Machine.execMirrorRecordCommitted s
  | .mirrorBaseComplete => Sys2Proof.Machine.execMirrorBaseComplete s
  | .changeImageWrite image => Sys2Proof.Machine.execChangeImageWrite image s
  | .changeLoadDone => Sys2Proof.Machine.execChangeLoadDone s
  | .standbyChangeResult image admitted => Sys2Proof.Machine.execStandbyChangeResult image admitted s
  | .changeDiscard value => Sys2Proof.Machine.execChangeDiscard value s
  | .confirmCommand => Sys2Proof.Machine.execConfirmCommand s
  | .undoCommand => Sys2Proof.Machine.execUndoCommand s
  | .confirmationDeadline => Sys2Proof.Machine.execConfirmationDeadline s
  | .seamBlockReceived lane block crcOk t => Sys2Proof.Machine.execSeamBlockReceived lane block crcOk t s
  | .ackReceived lane received resend => Sys2Proof.Machine.execAckReceived lane received resend s
  | .ackTimer lane => Sys2Proof.Machine.execAckTimer lane s
  | .retransmitTimeout lane seq => Sys2Proof.Machine.execRetransmitTimeout lane seq s
  | .blockLockLoss lane => Sys2Proof.Machine.execBlockLockLoss lane s
  | .laneRetrainDone lane => Sys2Proof.Machine.execLaneRetrainDone lane s
  | .blockLockAchieved lane roundTrip => Sys2Proof.Machine.execBlockLockAchieved lane roundTrip s
  | .hello lane m => Sys2Proof.Machine.execHello lane m s
  | .seamHeartbeatTimer t => Sys2Proof.Machine.execSeamHeartbeatTimer t s
  | .networkHeartbeatTimer t => Sys2Proof.Machine.execNetworkHeartbeatTimer t s
  | .heartbeat path m cmacOk t => Sys2Proof.Machine.execHeartbeat path m cmacOk t s
  | .fault path m cmacOk t => Sys2Proof.Machine.execFault path m cmacOk t s
  | .faultDeclarationRepeat t => Sys2Proof.Machine.execFaultDeclarationRepeat t s
  | .leaving path m cmacOk t => Sys2Proof.Machine.execLeaving path m cmacOk t s
  | .pathLost path t => Sys2Proof.Machine.execPathLost path t s
  | .boundary m t => Sys2Proof.Machine.execBoundary m t s
  | .weftCommitDone t => Sys2Proof.Machine.execWeftCommitDone t s
  | .handoverConfirm path m cmacOk t => Sys2Proof.Machine.execHandoverConfirm path m cmacOk t s
  | .handoverAbort t => Sys2Proof.Machine.execHandoverAbort t s
  | .resyncRequestTimer t => Sys2Proof.Machine.execResyncRequestTimer t s
  | .resyncRequest m t => Sys2Proof.Machine.execResyncRequest m t s
  | .serviceTransferReceived item intact => Sys2Proof.Machine.execServiceTransferReceived item intact s
  | .resyncSlow => Sys2Proof.Machine.execResyncSlow s
  | .clockMonitorInterval counts => Sys2Proof.Machine.execClockMonitorInterval counts s
  | .clockDeviationCheck ppm => Sys2Proof.Machine.execClockDeviationCheck ppm s
  | .referenceCheck edges rcCount deviation => Sys2Proof.Machine.execReferenceCheck edges rcCount deviation s
  | .maskRomRecheck crcOk => Sys2Proof.Machine.execMaskRomRecheck crcOk s
  | .railSample millivolts => Sys2Proof.Machine.execRailSample millivolts s
  | .junctionRead celsius => Sys2Proof.Machine.execJunctionRead celsius s
  | .windowWatchdogExpiry => Sys2Proof.Machine.execWindowWatchdogExpiry s
  | .scrubStep store symbolsInError => Sys2Proof.Machine.execScrubStep store symbolsInError s
  | .supervisorReadback sdo ao => Sys2Proof.Machine.execSupervisorReadback sdo ao s
  | .dramTrainingLoss channel => Sys2Proof.Machine.execDramTrainingLoss channel s
  | .hubRequest a symbolsInError => Sys2Proof.Machine.execHubRequest a symbolsInError s
  | .arbiterDecision arbiter requests ended tick => Sys2Proof.Machine.execArbiterDecision arbiter requests ended tick s
  | .fixed15Revoke arbiter request tick => Sys2Proof.Machine.execFixed15Revoke arbiter request tick s
  | .arbiterWatchdogTrip arbiter => Sys2Proof.Machine.execArbiterWatchdogTrip arbiter s
  | .arbiterCommit arbiter => Sys2Proof.Machine.execArbiterCommit arbiter s
  | .dmaChainStart engine head session => Sys2Proof.Machine.execDmaChainStart engine head session s
  | .dmaDescriptorDone engine uncorrectable => Sys2Proof.Machine.execDmaDescriptorDone engine uncorrectable s
  | .writeBufferDrain engine => Sys2Proof.Machine.execWriteBufferDrain engine s
  | .lockTry master lock => Sys2Proof.Machine.execLockTry master lock s
  | .lockWait master lock => Sys2Proof.Machine.execLockWait master lock s
  | .lockRelease master lock => Sys2Proof.Machine.execLockRelease master lock s
  | .lockWaitTimeout master lock => Sys2Proof.Machine.execLockWaitTimeout master lock s
  | .sessionLockAcquire session value => Sys2Proof.Machine.execSessionLockAcquire session value s
  | .sessionLockRelease session value => Sys2Proof.Machine.execSessionLockRelease session value s
  | .registerWrite master address value => Sys2Proof.Machine.execRegisterWrite master address value s
  | .rw2Proposal session index sub value t => Sys2Proof.Machine.execRw2Proposal session index sub value t s
  | .proposalConfirm session number digest erasedOk t => Sys2Proof.Machine.execProposalConfirm session number digest erasedOk t s
  | .proposalWithdraw session number => Sys2Proof.Machine.execProposalWithdraw session number s
  | .proposalDeadline number => Sys2Proof.Machine.execProposalDeadline number s
  | .ruleCommitPoint => Sys2Proof.Machine.execRuleCommitPoint s
  | .drainEnd ticks => Sys2Proof.Machine.execDrainEnd ticks s
  | .revertShadowSet value => Sys2Proof.Machine.execRevertShadowSet value s
  | .debugPortAccess write address data size => Sys2Proof.Machine.execDebugPortAccess write address data size s
  | .crossingOpen crossing agreed => Sys2Proof.Machine.execCrossingOpen crossing agreed s
  | .crossingClose crossing => Sys2Proof.Machine.execCrossingClose crossing s
  | .registerAccessTimeout island => Sys2Proof.Machine.execRegisterAccessTimeout island s
  | .islandReset value => Sys2Proof.Machine.execIslandReset value s
  | .islandResetAssert => Sys2Proof.Machine.execIslandResetAssert s
  | .islandResetRelease => Sys2Proof.Machine.execIslandResetRelease s
  | .islandResetLoopbackDone pass => Sys2Proof.Machine.execIslandResetLoopbackDone pass s
  | .linkChange port state => Sys2Proof.Machine.execLinkChange port state s
  | .networkFrameReceived port f fcsOk t => Sys2Proof.Machine.execNetworkFrameReceived port f fcsOk t s
  | .discardEntryExpiry ring source seq => Sys2Proof.Machine.execDiscardEntryExpiry ring source seq s
  | .supervisionFrameTimer ring t => Sys2Proof.Machine.execSupervisionFrameTimer ring t s
  | .arpRequest ring target sender => Sys2Proof.Machine.execArpRequest ring target sender s
  | .icmpEcho ring target sender data => Sys2Proof.Machine.execIcmpEcho ring target sender data s
  | .gateEntryEnd port t => Sys2Proof.Machine.execGateEntryEnd port t s
  | .gateListChange port t => Sys2Proof.Machine.execGateListChange port t s
  | .launchGuard port t => Sys2Proof.Machine.execLaunchGuard port t s
  | .launchTime t => Sys2Proof.Machine.execLaunchTime t s
  | .lateLaunchClear => Sys2Proof.Machine.execLateLaunchClear s
  | .syncReceived domain grandmaster offset t => Sys2Proof.Machine.execSyncReceived domain grandmaster offset t s
  | .peerDelayTimer port delay => Sys2Proof.Machine.execPeerDelayTimer port delay s
  | .syncReceiptTimeout domain => Sys2Proof.Machine.execSyncReceiptTimeout domain s
  | .domainRevert => Sys2Proof.Machine.execDomainRevert s
  | .holdoverExpiry => Sys2Proof.Machine.execHoldoverExpiry s
  | .timeStep value => Sys2Proof.Machine.execTimeStep value s
  | .announce f cmacOk t => Sys2Proof.Machine.execAnnounce f cmacOk t s
  | .input f cmacOk t => Sys2Proof.Machine.execInput f cmacOk t s
  | .event f cmacOk t => Sys2Proof.Machine.execEvent f cmacOk t s
  | .stationLeaving f cmacOk t => Sys2Proof.Machine.execStationLeaving f cmacOk t s
  | .stationInputTimeout station t => Sys2Proof.Machine.execStationInputTimeout station t s
  | .stationResyncSlow station => Sys2Proof.Machine.execStationResyncSlow station s
  | .guestAnnounce f cmacOk t => Sys2Proof.Machine.execGuestAnnounce f cmacOk t s
  | .guestInput f cmacOk t => Sys2Proof.Machine.execGuestInput f cmacOk t s
  | .guestTimeout slot => Sys2Proof.Machine.execGuestTimeout slot s
  | .loomReport t => Sys2Proof.Machine.execLoomReport t s
  | .eventCoalesceExpiry cls key => Sys2Proof.Machine.execEventCoalesceExpiry cls key s
  | .eventOpenLimit cls key => Sys2Proof.Machine.execEventOpenLimit cls key s
  | .eventRead session => Sys2Proof.Machine.execEventRead session s
  | .canFrameReceived channel f cmacOk t => Sys2Proof.Machine.execCanFrameReceived channel f cmacOk t s
  | .doorLaunch channel t => Sys2Proof.Machine.execDoorLaunch channel t s
  | .doorMessageAcknowledged channel t => Sys2Proof.Machine.execDoorMessageAcknowledged channel t s
  | .doorTransmitError channel ackError t => Sys2Proof.Machine.execDoorTransmitError channel ackError t s
  | .doorMessageExpiry channel object t => Sys2Proof.Machine.execDoorMessageExpiry channel object t s
  | .busOffRecovery channel value => Sys2Proof.Machine.execBusOffRecovery channel value s
  | .busOffRecoveryDone channel => Sys2Proof.Machine.execBusOffRecoveryDone channel s
  | .referenceMessageSend channel t => Sys2Proof.Machine.execReferenceMessageSend channel t s
  | .referenceMessage channel priority cycleCount t => Sys2Proof.Machine.execReferenceMessage channel priority cycleCount t s
  | .columnMark channel column t => Sys2Proof.Machine.execColumnMark channel column t s
  | .timeMasterLost channel => Sys2Proof.Machine.execTimeMasterLost channel s
  | .serviceSegment channel data t => Sys2Proof.Machine.execServiceSegment channel data t s
  | .serviceReassemblyTimeout channel => Sys2Proof.Machine.execServiceReassemblyTimeout channel s
  | .aiSample raw => Sys2Proof.Machine.execAiSample raw s
  | .aiFailureDelay input => Sys2Proof.Machine.execAiFailureDelay input s
  | .aoShortfall output => Sys2Proof.Machine.execAoShortfall output s
  | .shortfallClear output => Sys2Proof.Machine.execShortfallClear output s
  | .testPulse source => Sys2Proof.Machine.execTestPulse source s
  | .sdiSample levels pulse pulseEnd => Sys2Proof.Machine.execSdiSample levels pulse pulseEnd s
  | .sdiFilterExpiry input => Sys2Proof.Machine.execSdiFilterExpiry input s
  | .discrepancyTime pair => Sys2Proof.Machine.execDiscrepancyTime pair s
  | .sdiFaultCauseGone input => Sys2Proof.Machine.execSdiFaultCauseGone input s
  | .sdoSupplyLow => Sys2Proof.Machine.execSdoSupplyLow s
  | .sdoSupplyGood millivolts => Sys2Proof.Machine.execSdoSupplyGood millivolts s
  | .darkTest output staysEnergised => Sys2Proof.Machine.execDarkTest output staysEnergised s
  | .trimTarget value => Sys2Proof.Machine.execTrimTarget value s
  | .trimAction value => Sys2Proof.Machine.execTrimAction value s
  | .trimCorrectionWrite span value => Sys2Proof.Machine.execTrimCorrectionWrite span value s
  | .nspRead q t => Sys2Proof.Machine.execNspRead q t s
  | .nspWrite q t => Sys2Proof.Machine.execNspWrite q t s
  | .groupRead q t => Sys2Proof.Machine.execGroupRead q t s
  | .groupWrite q t => Sys2Proof.Machine.execGroupWrite q t s
  | .describe q t => Sys2Proof.Machine.execDescribe q t s
  | .dataRead q t => Sys2Proof.Machine.execDataRead q t s
  | .dataWrite q t => Sys2Proof.Machine.execDataWrite q t s
  | .dataWriteMasked q t => Sys2Proof.Machine.execDataWriteMasked q t s
  | .openS q nonce t => Sys2Proof.Machine.execOpenS q nonce t s
  | .prove q t => Sys2Proof.Machine.execProve q t s
  | .close q t => Sys2Proof.Machine.execClose q t s
  | .keepalive q t => Sys2Proof.Machine.execKeepalive q t s
  | .abort q t => Sys2Proof.Machine.execAbort q t s
  | .proveTimeout session => Sys2Proof.Machine.execProveTimeout session s
  | .sessionTimeout session => Sys2Proof.Machine.execSessionTimeout session s
  | .openBarExpiry party => Sys2Proof.Machine.execOpenBarExpiry party s
  | .domainSnapshotExpiry session => Sys2Proof.Machine.execDomainSnapshotExpiry session s
  | .domainWriteTimeout session => Sys2Proof.Machine.execDomainWriteTimeout session s
  | .revertShadow value => Sys2Proof.Machine.execRevertShadow value s
  | .firmwareImageWrite session offset total data last => Sys2Proof.Machine.execFirmwareImageWrite session offset total data last s
  | .stagingCheckDone signatureOk hashOk flashOk => Sys2Proof.Machine.execStagingCheckDone signatureOk hashOk flashOk s
  | .discardStaged value => Sys2Proof.Machine.execDiscardStaged value s
  | .firmwareConfirm value => Sys2Proof.Machine.execFirmwareConfirm value s
  | .pairUpdateStateTimeout => Sys2Proof.Machine.execPairUpdateStateTimeout s
  | .operatingSecond => Sys2Proof.Machine.execOperatingSecond s
  | .quiltBufferWrite oldestWaited => Sys2Proof.Machine.execQuiltBufferWrite oldestWaited s
  | .quiltFlush => Sys2Proof.Machine.execQuiltFlush s
  | .quiltFlushEnd duration => Sys2Proof.Machine.execQuiltFlushEnd duration s
  | .counterRecordWrite => Sys2Proof.Machine.execCounterRecordWrite s
  | .quiltRead session => Sys2Proof.Machine.execQuiltRead session s
  | .partnerPresentChange low => Sys2Proof.Machine.execPartnerPresentChange low s
  | .fsAttachment attached => Sys2Proof.Machine.execFsAttachment attached s
  | .trimKeyRelease plus => Sys2Proof.Machine.execTrimKeyRelease plus s
  | .grandmasterSyncTimer domain t => Sys2Proof.Machine.execGrandmasterSyncTimer domain t s
  | .frameTransmitted port t => Sys2Proof.Machine.execFrameTransmitted port t s
  | .seamBlockTransmitted lane t => Sys2Proof.Machine.execSeamBlockTransmitted lane t s
  | .canReceiveError channel => Sys2Proof.Machine.execCanReceiveError channel s
  | .canIntegration channel => Sys2Proof.Machine.execCanIntegration channel s
  | .doorBusWarningClear channel => Sys2Proof.Machine.execDoorBusWarningClear channel s
  | .doorReceiveChecksClear channel => Sys2Proof.Machine.execDoorReceiveChecksClear channel s
  | .outputWordLatch => Sys2Proof.Machine.execOutputWordLatch s
  | .restartReset selfCheckOk t => Sys2Proof.Machine.execRestartReset selfCheckOk t s
  | .partnerStagingResult result => Sys2Proof.Machine.execPartnerStagingResult result s

end Sys2Proof.Machine
end

