-- ==== Sys2Proof/Machine/Step.lean ====
section
/-!
DEFINITION. One step: the command at the front of the queue runs on the state with the queue's rest; on an empty queue
the block idles (assumption log 3).
-/
namespace Sys2Proof.Machine

/-- Take the command at the front of the queue and run it. -/
def step (s : State) : Host.Outcome State Fault Refusal :=
  match s.pending with
  | [] => .next (idleStep s)
  | c :: rest => exec c { s with pending := rest }

/-- `s` with the command that a table word spells put at the front of its queue. -/
def State.withFetchWord (s : State) (nbits w : Nat) : State :=
  match Sys2Proof.decodeTableWord nbits w with
  | some c => { s with pending := c :: s.pending }
  | none => s

end Sys2Proof.Machine
end

