-- ==== Sys2Proof/Safety.lean ====
section
/-!
DEFINITION. Terms in which claims speak of what a command leaves alone: the state cut into parts, what it is for two
states to agree on a part, and for each command the parts it may change.
-/
namespace Sys2Proof.Safety
open Sys2Proof.Machine

/-- The parts of the state that claims tell apart. -/
inductive Part where
  /-- Front panel, slot, hot swap. -/
  | front
  /-- Supply inputs and hold-up bank. -/
  | supply
  /-- Mode sequencer. -/
  | modes
  /-- Lanes, program banks, plan, mirror: the solver group but its data store. -/
  | solver
  /-- The data store. -/
  | dataStore
  /-- Cycle engine and admission. -/
  | cycle
  /-- Online change. -/
  | change
  /-- Seam link. -/
  | seam
  /-- Redundant pair. -/
  | pair
  /-- Diagnostics and safe state. -/
  | diag
  /-- Clock islands and crossings. -/
  | islands
  /-- Arbiters, DMA engines, locks, decode errors: the hub group but its memories. -/
  | hub
  /-- DRAM, SRAM, MRAM and flash behind the hub. -/
  | hubMemory
  /-- Parties, proposals, rule set shadow and stage, violations, debug unlock. -/
  | protection
  /-- The rule set in force and its epoch. -/
  | ruleSet
  /-- Lifecycle state, its change mark and count. -/
  | lifecycle
  /-- The secret keys. -/
  | keys
  /-- Ports, rings, launch groups: the network group but its time base. -/
  | network
  /-- The time base. -/
  | time
  /-- Door buses. -/
  | doors
  /-- Stations, guests, door units, event loom. -/
  | stations
  /-- Local field I/O but its trim corrections. -/
  | localIo
  /-- Trim corrections of the local channels. -/
  | corrections
  /-- NSP sessions, replies and the commit in progress. -/
  | nsp
  /-- Settings, configuration in force and its shadow. -/
  | configuration
  /-- The stored configuration copies and the generation. -/
  | storedCopies
  /-- Firmware and pair update. -/
  | firmware
  /-- The quilt. -/
  | quilt
  /-- Raised alarms. -/
  | alarms
  /-- Count of the free values drawn (the model's own). -/
  | free
  deriving DecidableEq, Repr

/-- What the part `solver` covers of its group. -/
def solverCore (x : Solver) : Solver :=
  { x with
    store := [] }

/-- What the part `hub` covers of its group. -/
def hubCore (x : Hub) : Hub :=
  { x with
    dram := []
    sram := []
    mram := []
    flash := [] }

/-- What the part `protection` covers of its group. -/
def protectionCore (x : Protection) : Protection :=
  { x with
    active := []
    epoch := 0
    lifecycle := .provision
    mark := none
    changes := 0
    keys := [] }

/-- What the part `network` covers of its group. -/
def networkCore (x : Network) : Network :=
  { x with
    time := {} }

/-- What the part `localIo` covers of its group. -/
def localIoCore (x : LocalIo) : LocalIo :=
  { x with
    zero := []
    span := [] }

/-- What the part `nsp` covers of its group. -/
def nspCore (x : Nsp) : Nsp :=
  { x with
    settings := {}
    inForce := {}
    shadow := {}
    stored0 := {}
    stored1 := {}
    generation := 0 }

/-- Two states agree on a part. -/
def same (s t : State) : Part → Prop
  | .front => s.front = t.front
  | .supply => s.supply = t.supply
  | .modes => s.modes = t.modes
  | .solver => solverCore s.solver = solverCore t.solver
  | .dataStore => s.solver.store = t.solver.store
  | .cycle => s.cycle = t.cycle
  | .change => s.change = t.change
  | .seam => s.seam = t.seam
  | .pair => s.pair = t.pair
  | .diag => s.diag = t.diag
  | .islands => s.islands = t.islands
  | .hub => hubCore s.hub = hubCore t.hub
  | .hubMemory => s.hub.dram = t.hub.dram ∧ s.hub.sram = t.hub.sram ∧ s.hub.mram = t.hub.mram ∧ s.hub.flash = t.hub.flash
  | .protection => protectionCore s.protection = protectionCore t.protection
  | .ruleSet => s.protection.active = t.protection.active ∧ s.protection.epoch = t.protection.epoch
  | .lifecycle => s.protection.lifecycle = t.protection.lifecycle ∧ s.protection.mark = t.protection.mark ∧
    s.protection.changes = t.protection.changes
  | .keys => s.protection.keys = t.protection.keys
  | .network => networkCore s.network = networkCore t.network
  | .time => s.network.time = t.network.time
  | .doors => s.doors = t.doors
  | .stations => s.stations = t.stations
  | .localIo => localIoCore s.localIo = localIoCore t.localIo
  | .corrections => s.localIo.zero = t.localIo.zero ∧ s.localIo.span = t.localIo.span
  | .nsp => nspCore s.nsp = nspCore t.nsp
  | .configuration => s.nsp.settings = t.nsp.settings ∧ s.nsp.inForce = t.nsp.inForce ∧ s.nsp.shadow = t.nsp.shadow
  | .storedCopies => s.nsp.stored0 = t.nsp.stored0 ∧ s.nsp.stored1 = t.nsp.stored1 ∧ s.nsp.generation = t.nsp.generation
  | .firmware => s.firmware = t.firmware
  | .quilt => s.quilt = t.quilt
  | .alarms => s.alarms = t.alarms
  | .free => s.free = t.free

/-- Every part. -/
def allParts : List Part :=
  [.front, .supply, .modes, .solver, .dataStore, .cycle, .change, .seam, .pair, .diag, .islands, .hub, .hubMemory,
    .protection, .ruleSet, .lifecycle, .keys, .network, .time, .doors, .stations, .localIo, .corrections, .nsp,
    .configuration, .storedCopies, .firmware, .quilt, .alarms, .free]

/-- Every part but those named. -/
def allBut (l : List Part) : List Part := allParts.filter (· ∉ l)

/-- The parts that entry into FAULT changes (R72, R240, R252). -/
def faultParts : List Part :=
  [.front, .modes, .solver, .cycle, .seam, .pair, .diag, .islands, .network, .doors, .localIo, .nsp, .storedCopies,
    .firmware, .quilt, .alarms]

/-- Place `p` holds lane state `l`. -/
def withLane (p : Nat) (l : Lane) (s : State) : State :=
  { s with solver.places := mapPut {} p l s.solver.places }

/-- A lane after an instruction of some cost: the next one follows, window and path have grown (R129). -/
def spent (cost : Nat) (l : Lane) : Lane :=
  { l with
    pc := l.pc + 1
    window := l.window + cost
    path := l.path + cost }

/-- Lower bound of a word format: U20 or S20 (R90). -/
def lowest (u : Bool) : Int := if u then 0 else -524288

/-- Upper bound of a word format (R90). -/
def highest (u : Bool) : Int := if u then 1048575 else 524287

/-- An exact result brought into the format by its nearer bound (R90). -/
def clamped (u : Bool) (v : Int) : Int := max (lowest u) (min (highest u) v)

/-- A lane whose WA takes an exact result brought into the format; SAT is set when it lay outside (R90). -/
def resulting (u : Bool) (v : Int) (l : Lane) : Lane :=
  { l with
    wa := BitVec.ofInt 20 (clamped u v)
    sat := l.sat || decide (v < lowest u ∨ highest u < v) }

/-- The parts a command may change; it leaves every other part as it is. -/
def mayChange : Instr → List Part
  | .powerGood _ _ _ => [.time] ++ faultParts
  | .kickstandInForce _ => faultParts
  | .islandRelease _ _ _ => allBut [.supply, .dataStore, .hub, .stations, .free]
  | .lampTestEnd => [.front]
  | .selftestCheckDone _ _ _ => [.supply, .hub] ++ faultParts
  | .selftestTimeout => faultParts
  | .loadStepsDone _ _ => [.front, .modes, .solver, .dataStore, .cycle, .change, .hub, .protection, .ruleSet, .network,
    .time, .localIo, .nsp, .configuration, .storedCopies, .firmware, .quilt, .alarms]
  | .linkWaitExpiry => [.modes, .quilt, .alarms]
  | .loadTimeout => faultParts
  | .partnerSearchStart _ => [.front, .modes, .time, .nsp, .storedCopies, .firmware, .quilt, .alarms]
  | .searchWindowEnd _ => [.dataStore, .change, .time, .stations, .free] ++ faultParts
  | .supplySample _ _ _ => [.supply, .change, .free] ++ faultParts
  | .supplyGoodQualified _ => [.supply, .quilt, .alarms]
  | .rideThroughEnd => [.supply, .change] ++ faultParts
  | .bankCharged _ => [.supply, .quilt, .alarms]
  | .bankExhausted => allBut []
  | .powerFailRestart => allBut []
  | .matedSenseDebounce => [.front]
  | .extractionWithoutRelease => [.supply, .change] ++ faultParts
  | .extractionLeverOpen => [.front, .modes, .seam, .pair, .islands, .network, .firmware]
  | .extractionLeverClose => [.front, .modes]
  | .extractionReady => [.front, .quilt]
  | .extractionRefusedEnd => [.front]
  | .slotStrapChange => [.front, .quilt]
  | .trimCoverChange _ => [.front, .localIo, .quilt]
  | .trimKeyPress _ => [.front, .localIo, .corrections, .quilt]
  | .trimKeyRepeat _ => [.localIo, .corrections]
  | .trimTargetTimeout => [.localIo, .quilt]
  | .identify _ => [.front]
  | .identifyEnd => [.front]
  | .lampTest => [.front]
  | .start => [.modes]
  | .stop => [.front, .modes, .pair, .nsp, .storedCopies, .firmware, .quilt, .alarms]
  | .handover => [.modes]
  | .warmRestart => [.modes, .localIo, .quilt, .alarms]
  | .automaticRestart => [.modes, .localIo, .quilt, .alarms]
  | .minimumCycleWaitEnd _ => [.dataStore, .change, .time, .stations, .free] ++ faultParts
  | .cycleBoundary _ _ => allBut [.supply, .hubMemory, .lifecycle, .keys, .corrections]
  | .xchPhaseEnd => allBut [.supply, .ruleSet]
  | .solvePhaseEnd _ => [.solver, .dataStore, .cycle, .change, .seam, .pair, .diag, .islands, .protection, .network,
    .time, .doors, .stations, .localIo, .nsp, .quilt, .alarms, .free]
  | .cycleWatchdogExpiry => allBut [.supply, .hubMemory, .lifecycle, .keys, .corrections]
  | .signatureWindowEnd _ _ => faultParts
  | .snapshotPairCompare _ _ _ => faultParts
  | .snapshotStreamLost _ => faultParts
  | .cycleRelease _ => [.cycle, .seam, .pair, .islands, .network, .time, .doors]
  | .pathWatchdogExpiry _ => faultParts
  | .illegalEncodingFetch _ => faultParts
  | .nop _ => faultParts
  | .ld _ _ _ => faultParts
  | .andB _ _ _ => faultParts
  | .orB _ _ _ => faultParts
  | .xorB _ _ _ => faultParts
  | .st _ _ _ => [.dataStore, .protection] ++ faultParts
  | .setB _ _ => [.dataStore, .protection] ++ faultParts
  | .rstB _ _ => [.dataStore, .protection] ++ faultParts
  | .notA _ => faultParts
  | .seta _ => faultParts
  | .clra _ => faultParts
  | .lsat _ => faultParts
  | .br _ => faultParts
  | .bca _ _ => faultParts
  | .bco _ _ => faultParts
  | .bcx _ _ => faultParts
  | .brt _ => faultParts
  | .re _ _ => [.dataStore, .protection] ++ faultParts
  | .fe _ _ => [.dataStore, .protection] ++ faultParts
  | .ton _ _ => [.dataStore, .protection] ++ faultParts
  | .tof _ _ => [.dataStore, .protection] ++ faultParts
  | .tp _ _ => [.dataStore, .protection] ++ faultParts
  | .ctu _ _ => [.dataStore, .protection] ++ faultParts
  | .ctd _ _ => [.dataStore, .protection] ++ faultParts
  | .cld _ _ => [.dataStore, .protection] ++ faultParts
  | .crs _ _ => [.dataStore, .protection] ++ faultParts
  | .lwa _ _ _ => faultParts
  | .lwb _ _ => faultParts
  | .swa _ _ => [.dataStore, .protection] ++ faultParts
  | .swb _ _ => [.dataStore, .protection] ++ faultParts
  | .lia _ _ => faultParts
  | .lib _ _ => faultParts
  | .xab _ => faultParts
  | .lix _ => faultParts
  | .add _ _ => faultParts
  | .sub _ _ => faultParts
  | .mul _ _ => faultParts
  | .div _ _ => faultParts
  | .mod _ _ => faultParts
  | .neg _ _ => faultParts
  | .abs _ _ => faultParts
  | .min _ _ => faultParts
  | .max _ _ => faultParts
  | .wand _ => faultParts
  | .wor _ => faultParts
  | .wxor _ => faultParts
  | .shl _ _ => faultParts
  | .shr _ _ _ => faultParts
  | .scl _ _ _ _ => faultParts
  | .ceq _ _ => faultParts
  | .cne _ _ => faultParts
  | .clt _ _ => faultParts
  | .cle _ _ => faultParts
  | .cgt _ _ => faultParts
  | .cge _ _ => faultParts
  | .qts _ _ _ => faultParts
  | .endP _ => faultParts
  | .jmp _ _ => faultParts
  | .jc _ _ => faultParts
  | .jnc _ _ => faultParts
  | .loop _ _ => faultParts
  | .endl _ => faultParts
  | .call _ _ => faultParts
  | .ret _ => faultParts
  | .xchInput _ _ _ => faultParts
  | .xchOutput _ _ => [.dataStore, .protection] ++ faultParts
  | .fence _ => faultParts
  | .xchPostLatch _ => [.solver, .localIo]
  | .planRequest _ => [.solver]
  | .rejoinTestDone _ _ => [.solver, .seam, .pair, .diag, .protection, .nsp]
  | .mirrorRecordCommitted => [.solver, .change]
  | .mirrorBaseComplete => [.solver, .change, .pair, .quilt, .alarms]
  | .changeImageWrite _ => [.solver, .cycle, .change, .hub, .quilt, .alarms]
  | .changeLoadDone => [.solver, .cycle, .change, .seam, .islands, .network, .doors, .nsp, .quilt, .alarms]
  | .standbyChangeResult _ _ => [.change, .quilt, .alarms]
  | .changeDiscard _ => [.solver, .cycle, .change, .quilt, .alarms]
  | .confirmCommand => [.modes, .change, .quilt]
  | .undoCommand => [.modes, .change, .quilt]
  | .confirmationDeadline => [.modes, .change, .quilt]
  | .seamBlockReceived _ _ _ _ => allBut [.supply, .hubMemory, .lifecycle, .keys, .corrections]
  | .ackReceived _ _ _ => [.cycle, .seam, .pair, .islands, .quilt, .alarms]
  | .ackTimer _ => [.seam, .pair]
  | .retransmitTimeout _ _ => [.cycle, .seam, .pair, .islands, .quilt, .alarms]
  | .blockLockLoss _ => [.cycle, .seam, .pair, .islands, .quilt, .alarms]
  | .laneRetrainDone _ => [.cycle, .seam, .quilt, .alarms]
  | .blockLockAchieved _ _ => [.seam, .pair, .islands]
  | .hello _ _ => [.hub, .protection] ++ faultParts
  | .seamHeartbeatTimer _ => [.seam, .pair, .time]
  | .networkHeartbeatTimer _ => [.pair, .islands, .network, .time]
  | .heartbeat _ _ _ _ => [.dataStore, .hub, .protection, .time] ++ faultParts
  | .fault _ _ _ _ => allBut [.supply, .hubMemory, .lifecycle, .keys, .corrections]
  | .faultDeclarationRepeat _ => [.seam, .pair, .islands, .network, .time]
  | .leaving _ _ _ _ => [.hub, .protection, .time] ++ faultParts
  | .pathLost _ _ => allBut [.supply, .hubMemory, .lifecycle, .keys, .corrections]
  | .boundary _ _ => allBut [.supply, .hubMemory, .lifecycle, .keys, .corrections]
  | .weftCommitDone _ => allBut [.supply, .hubMemory, .lifecycle, .keys, .corrections]
  | .handoverConfirm _ _ _ _ => [.hub, .protection, .time] ++ faultParts
  | .handoverAbort _ => [.dataStore, .change, .time, .stations, .free] ++ faultParts
  | .resyncRequestTimer _ => [.seam, .pair, .time]
  | .resyncRequest _ _ => [.hub, .protection, .time] ++ faultParts
  | .serviceTransferReceived _ _ => [.modes, .solver, .dataStore, .cycle, .change, .seam, .pair, .islands, .hub,
    .protection, .ruleSet, .network, .doors, .stations, .localIo, .configuration, .storedCopies, .firmware, .quilt,
    .alarms, .free]
  | .resyncSlow => [.quilt, .alarms]
  | .clockMonitorInterval _ => [.hub, .protection, .free] ++ faultParts
  | .clockDeviationCheck _ => [.islands, .quilt, .alarms]
  | .referenceCheck _ _ _ => faultParts
  | .maskRomRecheck _ => faultParts
  | .railSample _ => faultParts
  | .junctionRead _ => faultParts
  | .windowWatchdogExpiry => [.hub, .protection, .free] ++ faultParts
  | .scrubStep _ _ => [.hub, .hubMemory, .stations] ++ faultParts
  | .supervisorReadback _ _ => faultParts
  | .dramTrainingLoss _ => [.pair, .hub, .stations, .quilt, .alarms]
  | .hubRequest _ _ => allBut [.supply, .ruleSet, .lifecycle, .keys, .time, .corrections]
  | .arbiterDecision _ _ _ _ => [.hub]
  | .fixed15Revoke _ _ _ => [.hub]
  | .arbiterWatchdogTrip _ => [.hub, .hubMemory] ++ faultParts
  | .arbiterCommit _ => [.hub]
  | .dmaChainStart _ _ _ => [.islands, .hub, .hubMemory, .network, .doors, .nsp]
  | .dmaDescriptorDone _ _ => allBut [.supply, .ruleSet, .lifecycle, .keys, .time, .corrections]
  | .writeBufferDrain _ => allBut [.supply, .ruleSet, .lifecycle, .keys, .time, .corrections]
  | .lockTry _ _ => [.islands, .hub, .network, .doors, .nsp]
  | .lockWait _ _ => [.islands, .hub, .network, .doors, .nsp]
  | .lockRelease _ _ => [.islands, .hub, .network, .doors, .nsp]
  | .lockWaitTimeout _ _ => [.islands, .hub, .hubMemory, .network, .doors, .nsp]
  | .sessionLockAcquire _ _ => [.islands, .hub, .network, .doors, .nsp]
  | .sessionLockRelease _ _ => [.islands, .hub, .network, .doors, .nsp]
  | .registerWrite _ _ _ => allBut [.supply, .ruleSet, .lifecycle, .keys, .time, .corrections]
  | .rw2Proposal _ _ _ _ _ => allBut [.supply, .dataStore, .ruleSet, .corrections]
  | .proposalConfirm _ _ _ _ _ => allBut [.supply, .dataStore, .ruleSet, .corrections]
  | .proposalWithdraw _ _ => [.protection, .nsp]
  | .proposalDeadline _ => [.protection, .nsp]
  | .ruleCommitPoint => [.protection, .ruleSet, .storedCopies]
  | .drainEnd _ => [.protection, .nsp]
  | .revertShadowSet _ => [.protection]
  | .debugPortAccess _ _ _ _ => allBut [.supply, .ruleSet, .lifecycle, .keys, .time, .corrections]
  | .crossingOpen _ _ => faultParts
  | .crossingClose _ => [.solver, .diag, .islands, .free]
  | .registerAccessTimeout _ => [.islands, .hub]
  | .islandReset _ => [.islands]
  | .islandResetAssert => [.solver, .seam, .diag, .islands, .hub, .protection, .network, .doors, .nsp, .firmware, .quilt,
    .alarms, .free]
  | .islandResetRelease => [.solver, .seam, .diag, .islands, .hub, .network, .time, .doors, .localIo, .quilt, .alarms, .free]
  | .islandResetLoopbackDone _ => [.solver, .seam, .diag, .islands, .network, .doors, .quilt, .alarms, .free]
  | .linkChange _ _ => [.network, .quilt, .alarms]
  | .networkFrameReceived _ _ _ _ => [.islands, .network, .time]
  | .discardEntryExpiry _ _ _ => [.network]
  | .supervisionFrameTimer _ _ => [.network, .time]
  | .arpRequest _ _ _ => [.islands, .network]
  | .icmpEcho _ _ _ _ => [.islands, .network]
  | .gateEntryEnd _ _ => [.network, .time]
  | .gateListChange _ _ => [.network, .time]
  | .launchGuard _ _ => [.network, .time]
  | .launchTime _ => [.front, .modes, .solver, .cycle, .seam, .pair, .islands, .hub, .protection, .network, .time, .doors,
    .localIo, .nsp, .storedCopies, .firmware, .quilt, .alarms]
  | .lateLaunchClear => [.quilt, .alarms]
  | .syncReceived _ _ _ _ => [.network, .time, .quilt, .alarms, .free]
  | .peerDelayTimer _ _ => [.time]
  | .syncReceiptTimeout _ => [.time, .quilt, .alarms]
  | .domainRevert => [.time, .quilt, .alarms]
  | .holdoverExpiry => [.time, .quilt, .alarms]
  | .timeStep _ => [.network, .time, .quilt, .alarms]
  | .announce _ _ _ => [.time, .stations, .free] ++ faultParts
  | .input _ _ _ => [.time, .stations, .free] ++ faultParts
  | .event _ _ _ => [.time, .stations, .free] ++ faultParts
  | .stationLeaving _ _ _ => [.time, .stations, .free] ++ faultParts
  | .stationInputTimeout _ _ => [.time, .stations, .quilt, .alarms, .free]
  | .stationResyncSlow _ => [.stations, .quilt, .alarms]
  | .guestAnnounce _ _ _ => [.cycle, .islands, .network, .time, .stations, .free]
  | .guestInput _ _ _ => [.islands, .network, .time, .stations, .free]
  | .guestTimeout _ => [.stations]
  | .loomReport _ => [.time, .stations]
  | .eventCoalesceExpiry _ _ => [.stations, .quilt]
  | .eventOpenLimit _ _ => [.stations, .quilt]
  | .eventRead _ => [.stations, .nsp]
  | .canFrameReceived _ _ _ _ => [.time, .stations, .free] ++ faultParts
  | .doorLaunch _ _ => [.time, .doors]
  | .doorMessageAcknowledged _ _ => [.time, .doors, .quilt, .alarms, .free]
  | .doorTransmitError _ _ _ => [.time, .doors, .quilt, .alarms]
  | .doorMessageExpiry _ _ _ => [.time, .doors]
  | .busOffRecovery _ _ => [.doors]
  | .busOffRecoveryDone _ => [.doors, .quilt, .alarms]
  | .referenceMessageSend _ _ => [.time, .doors, .quilt, .alarms]
  | .referenceMessage _ _ _ _ => [.time, .doors, .quilt, .alarms, .free]
  | .columnMark _ _ _ => [.time, .doors]
  | .timeMasterLost _ => [.doors, .quilt, .alarms]
  | .serviceSegment _ _ _ => [.islands, .time, .doors, .quilt, .alarms, .free]
  | .serviceReassemblyTimeout _ => [.doors]
  | .aiSample _ => [.localIo]
  | .aiFailureDelay _ => [.localIo]
  | .aoShortfall _ => [.localIo, .quilt, .alarms]
  | .shortfallClear _ => [.localIo, .quilt, .alarms]
  | .testPulse _ => [.localIo]
  | .sdiSample _ _ _ => [.localIo, .quilt, .alarms]
  | .sdiFilterExpiry _ => [.localIo]
  | .discrepancyTime _ => [.localIo, .quilt, .alarms]
  | .sdiFaultCauseGone _ => [.localIo]
  | .sdoSupplyLow => [.localIo, .quilt, .alarms, .free]
  | .sdoSupplyGood _ => [.localIo, .quilt, .alarms]
  | .darkTest _ _ => faultParts
  | .trimTarget _ => [.localIo, .quilt]
  | .trimAction _ => [.localIo, .corrections]
  | .trimCorrectionWrite _ _ => [.localIo, .corrections]
  | .nspRead _ _ => allBut [.supply, .ruleSet]
  | .nspWrite _ _ => allBut [.supply, .ruleSet]
  | .groupRead _ _ => allBut [.supply, .ruleSet]
  | .groupWrite _ _ => allBut [.supply, .ruleSet]
  | .describe _ _ => allBut [.supply, .ruleSet]
  | .dataRead _ _ => allBut [.supply, .ruleSet]
  | .dataWrite _ _ => allBut [.supply, .ruleSet]
  | .dataWriteMasked _ _ => allBut [.supply, .ruleSet]
  | .openS _ _ _ => allBut [.supply, .ruleSet]
  | .prove _ _ => allBut [.supply, .ruleSet]
  | .close _ _ => allBut [.supply, .ruleSet]
  | .keepalive _ _ => allBut [.supply, .ruleSet]
  | .abort _ _ => allBut [.supply, .ruleSet]
  | .proveTimeout _ => [.islands, .hub, .protection, .network, .doors, .nsp, .firmware, .quilt]
  | .sessionTimeout _ => [.islands, .hub, .protection, .network, .doors, .nsp, .firmware, .quilt]
  | .openBarExpiry _ => [.nsp]
  | .domainSnapshotExpiry _ => [.nsp]
  | .domainWriteTimeout _ => [.islands, .network, .doors, .nsp, .firmware, .quilt]
  | .revertShadow _ => [.configuration]
  | .firmwareImageWrite _ _ _ _ _ => [.islands, .hub, .network, .doors, .nsp, .firmware, .quilt]
  | .stagingCheckDone _ _ _ => [.modes, .seam, .pair, .islands, .network, .doors, .localIo, .nsp, .firmware, .quilt, .alarms]
  | .discardStaged _ => [.firmware]
  | .firmwareConfirm _ => [.seam, .firmware, .quilt, .alarms]
  | .pairUpdateStateTimeout => [.firmware]
  | .operatingSecond => [.quilt]
  | .quiltBufferWrite _ => [.quilt]
  | .quiltFlush => [.quilt]
  | .quiltFlushEnd _ => [.modes, .quilt]
  | .counterRecordWrite => [.quilt]
  | .quiltRead _ => [.protection, .stations, .nsp, .free]
  | .partnerPresentChange _ => [.front, .quilt]
  | .fsAttachment _ => [.front, .nsp]
  | .trimKeyRelease _ => [.front]
  | .grandmasterSyncTimer _ _ => [.network, .time]
  | .frameTransmitted _ _ => [.front, .modes, .solver, .cycle, .seam, .pair, .islands, .hub, .protection, .network, .time,
    .doors, .localIo, .nsp, .storedCopies, .firmware, .quilt, .alarms]
  | .seamBlockTransmitted _ _ => [.cycle, .seam, .pair, .time]
  | .canReceiveError _ => [.doors, .quilt, .alarms]
  | .canIntegration _ => [.doors, .quilt, .alarms]
  | .doorBusWarningClear _ => [.quilt, .alarms]
  | .doorReceiveChecksClear _ => [.doors, .quilt, .alarms]
  | .outputWordLatch => [.localIo]
  | .restartReset _ _ => allBut []
  | .partnerStagingResult _ => [.firmware]

/-! ### Terms of single claims -/

/-- The command carries an NSP request of an operation other than OPEN. -/
def nspRequest (q : NspReq) (t : Nat) (c : Instr) : Prop :=
  c = .nspRead q t ∨ c = .nspWrite q t ∨ c = .groupRead q t ∨ c = .groupWrite q t ∨ c = .describe q t ∨ c = .dataRead q t ∨
    c = .dataWrite q t ∨ c = .dataWriteMasked q t ∨ c = .prove q t ∨ c = .close q t ∨ c = .keepalive q t ∨ c = .abort q t

/-- A frame on a carrier that is up, which no check discards (R428, R429, Table 17-6). -/
def frameTaken (q : NspReq) (s : State) : Prop :=
  carrierUp q.carrier s = true ∧ unanswerable q.carrier s = false ∧ badFrame q = false

/-- A new request of an open session that starts at once: the source and the CMAC are right, SEQ is ahead, and no request of
the session is in progress (R433, R434, R439). -/
def startsAtOnce (q : NspReq) (s : State) : Prop :=
  frameTaken q s ∧ q.session < 16 ∧ (session q.session s).phase = .isOpen ∧
    sameSource (session q.session s).carrier q.carrier = true ∧ q.cmacOk = true ∧ isReply q = false ∧
    (∀ p ∈ (session q.session s).recent, p.1 ≠ q.seq) ∧ seqAhead q.seq (session q.session s).highest = true ∧
    (session q.session s).deferred = [] ∧ ∀ n, (session n s).held = []

/-- `u` has accepted the request and answered it with a status and a body. -/
def answered (op : Nat) (q : NspReq) (status : Nat) (body : List Byte) (u : State) : Prop :=
  u.nsp.replies = [replyTo op q status body] ∧ (session q.session u).highest = q.seq

/-- No symbol is in error in the line that the instruction at place `p` is fetched from nor in those of the data store words that it reads
(R245). -/
abbrev linesIntact (p : Nat) (words : List Nat) (s : State) : Prop :=
  upsetOf 1 (fetchLine (laneAt p s).pc s) s = 0 ∧ ∀ a ∈ words, upsetOf 0 (a / 8) s = 0

/-- The snapshot stream of a tandem has room for a pair (Table 12-3). -/
abbrev streamFree (t : Nat) (s : State) : Prop := streamFull t s = false

/-- Every store of the model is in its canonical form: keys strictly rising, no entry equal to what an unlisted key reads as. -/
def canonical (s : State) : Prop :=
  mapWf 0 s.solver.store = true ∧ mapWf {} s.solver.places = true ∧ Memory.wf s.hub.dram = true ∧ Memory.wf s.hub.sram = true ∧
    Memory.wf s.hub.mram = true ∧ Memory.wf s.hub.flash = true ∧ mapWf {} s.hub.arbiters = true ∧ mapWf {} s.hub.locks = true ∧
    mapWf {} s.islands.islands = true ∧ mapWf {} s.islands.crossings = true ∧ mapWf {} s.stations.stations = true ∧
    mapWf {} s.stations.loom = true ∧ mapWf {} s.doors.channels = true ∧ mapWf {} s.nsp.sessions = true


/-- No symbol of the lines and codewords that an access reads is in error (R245). -/
abbrev accessIntact (a n : Nat) (s : State) : Prop := ∀ p ∈ accessLines a n, upsetOf p.1 p.2 s = 0

/-- No chain waits to start behind a head that has been written (R277). -/
abbrev noChainWaits (s : State) : Prop := ∀ e < 12, (dmaEngine e s).starting = false

/-- The master has a checker, or the address lies on its fixed path (R286, Table 11-1). -/
abbrev reaches (m a : Nat) (s : State) : Prop := (checkerOf m s).isSome = true ∨ fixedPath m a = true

end Sys2Proof.Safety
end

