-- ==== Sys2Proof/Certificates/Slice0/Obligations.lean ====
section
/-!
DEFINITION. The statements for the provers: what the rules of spec/ say of the commands of the SX96, family by family, and what
every step keeps.
-/
open Sys2Proof Sys2Proof.Machine Sys2Proof.Safety

/-- A step takes the command at the front of the queue and runs it on the state with the queue's rest: FIRST IN, FIRST OUT
(the model's queue, assumption log 3). With no command waiting the block idles; only hub accesses and NSP requests that R154
and R439 have held back and that may now start are run (assumption log 3). -/
def Obligations.StepRunsTheFrontCommand : Prop :=
  (∀ (s : State) (c : Instr) (rest : List Instr), s.pending = c :: rest → step s = exec c { s with pending := rest }) ∧
  (∀ s : State, s.pending = [] →
     (heldReady s = false → (slotOwned s = true ∨ s.hub.waiting = []) → step s = .next s) ∧
     (heldReady s = true ∨ (slotOwned s = false ∧ s.hub.waiting ≠ []) → step s = .next (releaseHeld { s with nsp.replies := [] })))

/-- Before power-good (R54) the module is OFF: no phase of a cycle, no session, no alarm, the safe-state latch set, no island
released, the data store at 0 (the store's content before power-good is the model's, assumption log 1). At reset every store
of the model has its canonical form. -/
def Obligations.ResetLeavesTheModuleOff : Prop :=
  (State.reset.modes.mode = .off ∧ State.reset.cycle.phase = .idle ∧ State.reset.front.powerGood = false ∧
     State.reset.front.mated = false ∧ State.reset.alarms = [] ∧ State.reset.pending = [] ∧ State.reset.diag.latch = true ∧
     State.reset.localIo.underProgram = false ∧ (∀ n, (session n State.reset).phase = .free) ∧
     (∀ a, storeAt a State.reset = 0) ∧ ∀ n, (island n State.reset).state = 0) ∧
  (canonical State.reset)

/-- Every command answers a next state: the model stops on none of them. A command leaves the queue as it found it (the
model's queue, assumption log 3). -/
def Obligations.EveryCommandAnswersANextState : Prop :=
  (∀ (c : Instr) (s : State), ∃ t, exec c s = .next t) ∧
  (∀ (c : Instr) (s t : State), exec c s = .next t → t.pending = s.pending)

/-- A command leaves every part of the state as it is that `mayChange` does not list for it. -/
def Obligations.CommandsStayInTheirParts : Prop :=
  ∀ (c : Instr) (s t : State), exec c s = .next t → ∀ p, p ∉ mayChange c → same s t p

/-- Every step keeps the canonical form of every store: the data store, the four memories behind the hub, lanes, islands,
crossings, arbiters, locks, stations, loom, door channels and sessions. -/
def Obligations.StepsKeepCanonicalForm : Prop :=
  ∀ s t : State, canonical s → step s = .next t → canonical t

/-- The safe-state latch is set in FAULT and in OFF (R72, R240), and every step keeps it so. -/
def Obligations.LatchStaysSetInFault : Prop :=
  ∀ s t : State, (s.modes.mode = .fault ∨ s.modes.mode = .off → s.diag.latch = true) → step s = .next t →
    t.modes.mode = .fault ∨ t.modes.mode = .off → t.diag.latch = true

/-- FAULT latches (R46, R67, R72): no command takes the module out of FAULT but the reset that a restart ends with, the
restart after the power-fail sequence, and the loss of power. -/
def Obligations.FaultIsLeftByRestartOnly : Prop :=
  ∀ (c : Instr) (s t : State), s.modes.mode = .fault → exec c s = .next t → t.modes.mode ≠ .fault →
    (∃ ok now, c = .restartReset ok now ∧ s.modes.restartPending = true) ∨
    (c = .powerFailRestart ∧ s.supply.powerFail = true) ∨ (c = .bankExhausted ∧ t.modes.mode = .off)

/-- The minimum security version (R451): it starts at 0; a confirmation in trial raises it to the version of the running image
where that is higher; it never falls. The lifecycle state changes in no command but the start of an island, which performs the
change marked before the restart (R309). -/
def Obligations.MinimumSecurityNeverFalls : Prop :=
  State.reset.firmware.minSecurity = 0 ∧
    (∀ s : State, s.firmware.trial = true → s.modes.mode = .standby ∨ s.modes.mode = .active ∨ s.modes.mode = .solo →
      ∃ t, exec (.firmwareConfirm 1) s = .next t ∧
        t.firmware.minSecurity = max s.firmware.minSecurity s.firmware.main.security) ∧
    ∀ (c : Instr) (s t : State), exec c s = .next t → s.firmware.minSecurity ≤ t.firmware.minSecurity ∧
      ((∀ copy fall failed, c ≠ .islandRelease copy fall failed) → t.protection.lifecycle = s.protection.lifecycle)

/-- Power-good samples the straps (R33, R57): the slot is valid when an even number of straps is one and the number lies in 1
to 62; the supervisor island starts in KICKSTAND with the lamp test. The staged start (R57–R60): KICKSTAND in force opens
SELFTEST and releases the safe-state latch, a failed self-check is FAULT 0x0101; islands leave reset in the order 6, 2, 3, 1,
7, 4, 5; a failed check is FAULT with its cause of Table 3-2; 1,500 ms without a pass is FAULT 0x0210. -/
def Obligations.StartFromPowerGood : Prop :=
  (∀ (straps : BitVec 7) (low : Bool) (t : Nat) (s : State), s.modes.mode = .off → s.front.converters = true →
     ∃ u, exec (.powerGood straps low t) s = .next u ∧ u.front.straps = straps ∧
       (u.front.slotValid = true ↔
         2 ∣ ((List.range 7).filter straps.getLsbD).length ∧ 1 ≤ (straps.setWidth 6).toNat ∧ (straps.setWidth 6).toNat ≤ 62) ∧
       u.modes.mode = .kickstand ∧ u.modes.previous = .off ∧ u.modes.transCause = 0x0001 ∧ u.front.lampTest = true ∧
       u.front.partnerPresent = low ∧ u.front.slotChanges = 0 ∧ u.modes.kickstandInForce = s.modes.kickstandInForce) ∧
  (∀ s : State,
     (s.modes.mode = .kickstand → s.modes.restartPending = false →
       (∃ t, exec (.kickstandInForce true) s = .next t ∧ t.modes.mode = .selftest ∧ t.modes.transCause = 0x0002 ∧
         t.diag.latch = false ∧ t.modes.kickstandInForce = true ∧ t.modes.released = s.modes.released) ∧
       ∃ t, exec (.kickstandInForce false) s = .next t ∧ t.modes.mode = .fault ∧ t.modes.cause = 0x0101 ∧ t.diag.latch = true) ∧
     (∀ copy fall failed, s.modes.mode = .selftest → s.modes.released < 6 →
       ∃ t, exec (.islandRelease copy fall failed) s = .next t ∧ t.modes.released = s.modes.released + 1 ∧
         (island (([6, 2, 3, 1, 7, 4] : List Nat).getD s.modes.released 0) t).state = 1 ∧ t.modes.mode = .selftest ∧
         t.modes.checksPassed = s.modes.checksPassed) ∧
     (∀ check c, s.modes.mode = .selftest → checkNeeds check ≤ s.modes.released →
       (∃ t, exec (.selftestCheckDone check false c) s = .next t ∧ t.modes.mode = .fault ∧ t.modes.cause = checkCause check ∧
         t.supply.capacitance = c) ∧
       (s.modes.checksPassed = [] → (check = .slot → s.front.slotValid = true) →
         ∃ t, exec (.selftestCheckDone check true c) s = .next t ∧ t.modes.checksPassed = [check] ∧ t.modes.mode = .selftest ∧
           t.supply = { s.supply with capacitance := c } ∧
           ((.holdUpCapacitanceLow, 0) ∈ t.alarms ↔ c < setCapacitanceAlarm s.nsp.settings))) ∧
     (s.modes.mode = .selftest →
       ∃ t, exec .selftestTimeout s = .next t ∧ t.modes.mode = .fault ∧ t.modes.cause = 0x0210 ∧ t.diag.latch = true))

/-- LOAD and the partner search (R61–R65, Table 3-3): without a valid configuration LOAD ends in STOP 0x0304, without a
program in STOP 0x0301; the wait for links passes once; LOAD that lasts too long is FAULT 0x0305; the search opens when its
conditions are met; a window in which nothing was heard ends in STOP for start behaviour 1 and the window of a module that
hears an operating partner ends in STANDBY. -/
def Obligations.LoadAndPartnerSearch : Prop :=
  ∀ (s : State) (t : Nat),
    (∀ ok, s.modes.mode = .load → s.modes.loadStepsDone = false → s.modes.linkWaited = false →
      (configValid s = false → ∃ u, exec (.loadStepsDone ok t) s = .next u ∧ u.modes.mode = .stop ∧ u.modes.cause = 0x0304 ∧
        u.solver = s.solver ∧ u.modes.previous = .load) ∧
      (configValid s = true → s.change.slot0 = none → s.change.slot1 = none →
        ∃ u, exec (.loadStepsDone ok t) s = .next u ∧ u.modes.mode = .stop ∧ u.modes.cause = 0x0301 ∧
          u.solver = s.solver ∧ u.modes.loadStepsDone = false)) ∧
    (s.modes.mode = .selftest → s.modes.linkWaited = false →
      exec .linkWaitExpiry s = .next { s with modes.linkWaited := true }) ∧
    (s.modes.mode = .load → ∃ u, exec .loadTimeout s = .next u ∧ u.modes.mode = .fault ∧ u.modes.cause = 0x0305) ∧
    (s.modes.mode = .load → s.modes.loadStepsDone = true → s.modes.search.running = false → searchReady s = true →
      (s.modes.stopAtEndOfLoad = false →
        ∃ u, exec (.partnerSearchStart t) s = .next u ∧ u.modes.search = { running := true, byStart := false } ∧
          u.modes.mode = .load) ∧
      (s.modes.stopAtEndOfLoad = true →
        ∃ u, exec (.partnerSearchStart t) s = .next u ∧ u.modes.mode = .stop ∧ u.modes.transCause = 0x000B)) ∧
    (s.modes.mode = .load → s.modes.search.running = true → s.modes.search.byStart = false →
      (s.modes.search.heard = [] → setStartBehaviour s.nsp.settings = 1 →
        ∃ u, exec (.searchWindowEnd t) s = .next u ∧ u.modes.mode = .stop ∧ u.modes.transCause = 0x0004 ∧
          u.modes.searchResult = 6 ∧ u.modes.search = {} ∧ u.solver = s.solver) ∧
      (∀ m, 5 ≤ m → m ≤ 8 → s.modes.search.heard = [(.network, m)] → s.supply.charged = true →
        ∃ u, exec (.searchWindowEnd t) s = .next u ∧ u.modes.mode = .standby ∧ u.modes.transCause = 0x0004 ∧
          u.modes.searchResult = 1 ∧ u.pair.standby = .unsynchronised ∧ u.modes.search = {}))

/-- Supply inputs and hold-up bank (R43–R48): above 62 V an input counts as overvoltage; the second sample below 8.5 V of the
only good input starts a ride-through when the bank is charged; 100 ms within 9 V to 60 V make an input good; 2 ms without an
input are FAULT 0x1051 with the flush begun; the bank counts as charged at 46.0 V; the exhausted bank leaves the module OFF
with the latch set; a returned input starts it again from KICKSTAND. -/
def Obligations.SupplyAndHoldUpBank : Prop :=
  ∀ s : State,
    (∀ (a b : Int) p, s.modes.mode = .off → s.supply.rideThrough = false → s.supply.powerFail = false → 62000 < a →
      ∃ t, exec (.supplySample a b p) s = .next t ∧ t.supply.a.state = 3 ∧ t.supply.a.millivolts = a ∧
        t.supply.b.millivolts = b ∧ t.supply.loadPower = p ∧ t = { s with supply := t.supply } ∧
        t.supply.charged = s.supply.charged) ∧
    (∀ (a b : Int) p, s.modes.mode ≠ .off → s.supply.rideThrough = false → s.supply.powerFail = false →
      s.supply.charged = true → s.supply.a.state = 1 → s.supply.a.lowSamples = 1 → s.supply.b.state ≠ 1 → a < 8500 →
      ∃ t, exec (.supplySample a b p) s = .next t ∧ t.supply.a.state = 2 ∧ t.supply.rideThrough = true ∧
        t.modes = s.modes ∧ t.solver = s.solver) ∧
    (s.supply.a.qualifying = true → ∃ t, exec (.supplyGoodQualified 0) s = .next t ∧ t.supply.a.state = 1 ∧
      t.supply.b = s.supply.b ∧ t.alarms = s.alarms.filter (· ≠ (.supplyInputLost, 0))) ∧
    (s.supply.b.qualifying = true → ∃ t, exec (.supplyGoodQualified 1) s = .next t ∧ t.supply.b.state = 1 ∧
      t.supply.a = s.supply.a ∧ t.alarms = s.alarms.filter (· ≠ (.supplyInputLost, 1))) ∧
    (s.supply.rideThrough = true → s.modes.mode ≠ .off → s.modes.mode ≠ .fault →
      ∃ t, exec .rideThroughEnd s = .next t ∧ t.modes.mode = .fault ∧ t.modes.cause = 0x1051 ∧ t.supply.powerFail = true ∧
        t.supply.rideThrough = false ∧ t.quilt.flushing = true ∧ t.solver.store = s.solver.store) ∧
    (∀ v, s.modes.mode ≠ .off →
      (46000 ≤ v → ∃ t, exec (.bankCharged v) s = .next t ∧ t.supply.charged = true ∧
        t.supply.recharging = decide (v < 48000) ∧
        t.supply.bankMillivolts = v ∧
        ((.holdUpCapacitanceLow, 0) ∈ t.alarms ↔ s.supply.capacitance < setCapacitanceAlarm s.nsp.settings)) ∧
      (v < 46000 → exec (.bankCharged v) s = .next { s with
        supply.bankMillivolts := v
        supply.charged := false })) ∧
    (s.modes.mode ≠ .off → inputGood s = false →
      ∃ t, exec .bankExhausted s = .next t ∧ t.modes.mode = .off ∧ t.diag.latch = true ∧ t.solver.store = [] ∧
        t.hub.mram = s.hub.mram ∧ t.hub.sram = [] ∧ t.quilt.buffer = [] ∧ (∀ n, (island n t).state = 0) ∧
        t.protection.lifecycle = s.protection.lifecycle ∧ t.protection.keys = s.protection.keys) ∧
    (s.supply.powerFail = true → s.quilt.flushing = false → inputGood s = true →
      ∃ t, exec .powerFailRestart s = .next t ∧ t.modes.mode = .kickstand ∧ t.modes.transCause = 0x000E ∧
        t.supply.powerFail = false ∧ t.supply.charged = false ∧ t.solver.store = [] ∧ t.hub.mram = s.hub.mram ∧
        t.modes.restart = .powerFail)

/-- Mating, straps, partner contact and the levers (R33, R35, R49–R52, Table 2-9). -/
def Obligations.HotSwapAndLevers : Prop :=
  ∀ s : State,
    exec .matedSenseDebounce s = .next { s with
      front.mated := true
      front.converters := true } ∧
    (s.modes.mode ≠ .off → s.modes.mode ≠ .fault → s.front.mated = true → s.front.extraction ≠ .ready →
      s.supply.powerFail = false →
      ∃ t, exec .extractionWithoutRelease s = .next t ∧ t.front.mated = false ∧ t.modes.mode = .fault ∧
        t.modes.cause = 0x1052 ∧ t.supply.powerFail = true ∧ t.quilt.flushing = true) ∧
    (s.front.leverOpen = false → s.firmware.pairState = 0 →
      (s.modes.mode = .stop → exec .extractionLeverOpen s = .next { s with
        front.leverOpen := true
        front.extraction := .preparing }) ∧
      (s.modes.mode = .solo → setExtractionWithoutPartner s.nsp.settings = 0 → exec .extractionLeverOpen s = .next { s with
        front.leverOpen := true
        front.extraction := .refused
        front.refusedShown := true }) ∧
      (s.modes.mode = .solo → setExtractionWithoutPartner s.nsp.settings ≠ 0 → exec .extractionLeverOpen s = .next { s with
        front.leverOpen := true
        front.extraction := .preparing
        modes.triggers := s.modes.triggers ++ [.extractionStop] }) ∧
      (s.modes.mode = .active → s.pair.partner.mode = some 4 → s.pair.partner.sync = true →
        exec .extractionLeverOpen s = .next { s with
          front.leverOpen := true
          front.extraction := .preparing
          modes.triggers := s.modes.triggers ++ [.handover .lever] })) ∧
    exec .extractionLeverClose s = .next { s with
      front.leverOpen := false
      front.extraction := .seated
      front.refusedShown := false
      front.extractionWaiting := false
      modes.triggers := s.modes.triggers.filter fun x => !leverTrigger x } ∧
    (s.front.extraction = .preparing → solving s.modes.mode = false → s.front.extractionWaiting = false →
      ∃ t, exec .extractionReady s = .next t ∧ t.front.extraction = .ready ∧ t.front.modulePresentOut = false ∧
        t.modes = s.modes ∧ (s.modes.mode ≠ .off → s.quilt.queue = [] → s.quilt.lostDue = 0 → t.quilt.buffer = [])) ∧
    exec .extractionRefusedEnd s = .next { s with front.refusedShown := false } ∧
    (s.modes.mode ≠ .off →
      (∃ t, exec .slotStrapChange s = .next t ∧ t.front = { s.front with slotChanges := min 65535 (s.front.slotChanges + 1) } ∧
        t.modes = s.modes ∧ t.alarms = s.alarms) ∧
      ∀ low, ∃ t, exec (.partnerPresentChange low) s = .next t ∧ t.front = { s.front with partnerPresent := low } ∧
        t.modes = s.modes ∧ t.alarms = s.alarms)

/-- Front panel (R41, R42, R411): lamp test and identify pattern; a key pressed while the cover is closed is blocked and does
nothing; with the cover open each step moves the armed correction of an input by one, within ±8,000; closing the cover
disarms. Trimming over NSP (R410–R412): arming a point keeps the present corrections as the ones it started from; the capture
of an input point stores nominal current minus mean, within ±8,000; a correction written replaces the armed channel's zero or
span alone. -/
def Obligations.FrontPanelAndTrim : Prop :=
  (∀ s : State,
     exec .lampTestEnd s = .next { s with front.lampTest := false } ∧
     exec .identifyEnd s = .next { s with front.identifySeconds := 0 } ∧
     (nspUp s = true → exec .lampTest s = .next { s with front.lampTest := true } ∧
       ∀ n, exec (.identify n) s = .next { s with
         front.identifySeconds := n.toNat
         front.identifyAt := s.network.time.now }) ∧
     (s.modes.mode ≠ .off → s.front.coverOpen = false → exec (.trimKeyPress true) s = .next { s with
       front.plusHeld := true
       front.plusBlocked := true }) ∧
     (s.modes.mode ≠ .off → s.front.coverOpen = true → s.front.plusBlocked = false → s.front.minusBlocked = false →
       1 ≤ s.localIo.target → s.localIo.target ≤ 8 →
       (0 ≤ mapVal 0 s.localIo.target s.localIo.zero →
         (∃ t, exec (.trimKeyPress true) s = .next t ∧ t.front = { s.front with plusHeld := true } ∧
           mapVal 0 s.localIo.target t.localIo.zero = min 8000 (mapVal 0 s.localIo.target s.localIo.zero + 1) ∧
           t.localIo.span = s.localIo.span ∧ t.localIo.trimResult = 1) ∧
         (s.front.plusHeld = true → ∃ t, exec (.trimKeyRepeat true) s = .next t ∧ t.front = s.front ∧
           mapVal 0 s.localIo.target t.localIo.zero = min 8000 (mapVal 0 s.localIo.target s.localIo.zero + 1))) ∧
       (mapVal 0 s.localIo.target s.localIo.zero ≤ 0 →
         ∃ t, exec (.trimKeyPress false) s = .next t ∧ t.front = { s.front with minusHeld := true } ∧
           mapVal 0 s.localIo.target t.localIo.zero = max (-8000) (mapVal 0 s.localIo.target s.localIo.zero - 1) ∧
           t.localIo.span = s.localIo.span)) ∧
     (s.front.coverOpen = true → exec (.trimKeyRelease true) s = .next { s with
       front.plusHeld := false
       front.plusBlocked := false }) ∧
     (s.modes.mode ≠ .off →
       (∃ t, exec (.trimCoverChange true) s = .next t ∧ t.localIo = s.localIo ∧ t.front = { s.front with
         coverOpen := true
         plusBlocked := s.front.plusBlocked && s.front.plusHeld
         minusBlocked := s.front.minusBlocked && s.front.minusHeld }) ∧
       ∃ t, exec (.trimCoverChange false) s = .next t ∧ t.localIo = { s.localIo with target := 0 } ∧ t.front = { s.front with
         coverOpen := false
         plusBlocked := s.front.plusBlocked || s.front.plusHeld
         minusBlocked := s.front.minusBlocked || s.front.minusHeld }) ∧
     ∃ t, exec .trimTargetTimeout s = .next t ∧ t.localIo = { s.localIo with target := 0 } ∧ t.front = s.front) ∧
  (∀ s : State, nspUp s = true →
     (∀ v : BitVec 8, v.toNat ≤ 0x20 → s.modes.mode = .provision →
       exec (.trimTarget v) s = .next { s with localIo.trimResult := 2 }) ∧
     (∀ v : BitVec 8, 1 ≤ v.toNat → v.toNat ≤ 0x20 → s.localIo.target = 0 → s.modes.mode ≠ .provision →
       ∃ t, exec (.trimTarget v) s = .next t ∧ t.localIo = { s.localIo with
         target := v.toNat
         armedFrom := (mapVal 0 ((v.toNat - 1) % 16 + 1) s.localIo.zero, mapVal 0 ((v.toNat - 1) % 16 + 1) s.localIo.span)
         trimResult := 1 }) ∧
     (1 ≤ s.localIo.target → s.localIo.target ≤ 8 →
       (∀ k, k = 160000 - meanOf ((analogIn s.localIo.target s).samples.map Int.ofNat) → k ≠ 0 → -8000 ≤ k → k ≤ 8000 →
         ∃ t, exec (.trimAction 1) s = .next t ∧ mapVal 0 s.localIo.target t.localIo.zero = k ∧
           t.localIo.span = s.localIo.span ∧ t.localIo.trimResult = 0 ∧ t.localIo.target = s.localIo.target) ∧
       (∀ v, v ≠ 0 → -8000 ≤ v → v ≤ 8000 →
         (∃ t, exec (.trimCorrectionWrite false v) s = .next t ∧ mapVal 0 s.localIo.target t.localIo.zero = v ∧
           t.localIo.span = s.localIo.span ∧ t.localIo.trimResult = 0) ∧
         ∃ t, exec (.trimCorrectionWrite true v) s = .next t ∧ mapVal 0 s.localIo.target t.localIo.span = v ∧
           t.localIo.zero = s.localIo.zero ∧ t.localIo.trimResult = 0)) ∧
     (s.localIo.target = 0 → exec (.trimAction 2) s = .next { s with localIo.trimResult := 4 }))

/-- Local analogue inputs and outputs (R404–R409, Table 16-4): a sample joins the last three of its input, and the input is
GOOD exactly when its corrected current lies in 3.8 mA to 20.5 mA; past the failure delay the substitute is taken; an output
word latched under program control reaches its channel; a shortfall raises the alarm and clears within 0.1 mA. -/
def Obligations.LocalAnalogueChannels : Prop :=
  ∀ s : State, islandUp 8 s = true →
    (∀ raw : List Nat, ∃ t, exec (.aiSample raw) s = .next t ∧ t.localIo.ao = s.localIo.ao ∧ t.localIo.zero = s.localIo.zero ∧
      ∀ n, 1 ≤ n → n ≤ 8 →
        (analogIn n t).samples = raw.getD (n - 1) 0 :: (analogIn n s).samples.take 3 ∧
        ((analogIn n t).quality = 3 ↔ 152000 ≤ (analogIn n t).current ∧ (analogIn n t).current ≤ 820000)) ∧
    (∀ k : Fin 8, (analogIn (k.val + 1) s).failLow = true → (analogIn (k.val + 1) s).failed = false →
      (analogIn (k.val + 1) s).current < 144000 → cfgAiFaultMode s.nsp.inForce (k.val + 1) = 1 →
      ∃ t, exec (.aiFailureDelay k) s = .next t ∧ (analogIn (k.val + 1) t).quality = 1 ∧
        (analogIn (k.val + 1) t).value = BitVec.ofNat 20 (cfgAiSubstitute s.nsp.inForce (k.val + 1)) ∧
        (analogIn (k.val + 1) t).failed = true ∧ t.localIo.ao = s.localIo.ao) ∧
    (∀ k : Fin 8, (analogOut (k.val + 1) s).shortfall = false →
      Int.ofNat (analogOut (k.val + 1) s).readback + 4000 < (analogOut (k.val + 1) s).applied →
      ∃ t, exec (.aoShortfall k) s = .next t ∧ (analogOut (k.val + 1) t).shortfall = true ∧
        (.analogueOutputShortfall, 0) ∈ t.alarms ∧ t.localIo.ai = s.localIo.ai) ∧
    (∀ k : Fin 8, (analogOut (k.val + 1) s).shortfall = true → (analogOut (k.val + 1) s).shortfalls ≠ 0 →
      (Int.ofNat (analogOut (k.val + 1) s).readback - (analogOut (k.val + 1) s).applied).natAbs ≤ 4000 →
      ∃ t, exec (.shortfallClear k) s = .next t ∧ (analogOut (k.val + 1) t).shortfall = false ∧
        (analogOut (k.val + 1) t).openLoop = false ∧ t.localIo.ai = s.localIo.ai) ∧
    (∀ (k : Fin 8) (v : Word), s.localIo.underProgram = true → s.localIo.posted = [(0x0F040 + k.val, v)] → v ≠ 0 →
      ∃ t, exec .outputWordLatch s = .next t ∧ (analogOut (k.val + 1) t).value = v ∧ t.localIo.posted = [] ∧
        t.localIo.sdo = s.localIo.sdo) ∧
    (∀ (sdo : BitVec 4) (ao : List Nat), solving s.modes.mode = true →
      ∃ t, exec (.supervisorReadback sdo ao) s = .next t ∧ t.diag = s.diag ∧ t.modes = s.modes ∧
        (∀ n, 1 ≤ n → n ≤ 4 → sdo.getLsbD (n - 1) = true → (safetyOut n t).readback = true) ∧
        ∀ n, 1 ≤ n → n ≤ 8 → ao.getD (n - 1) 0 ≠ 0 → (analogOut n t).readback = ao.getD (n - 1) 0)

/-- Local safety inputs and outputs (R404, R413–R416, Table 16-3). -/
def Obligations.LocalSafetyChannels : Prop :=
  ∀ s : State, islandUp 8 s = true →
    (∀ k : Fin 2, ∃ t, exec (.testPulse k) s = .next t ∧ t.localIo.pulse = some k.val ∧ t.localIo.sdo = s.localIo.sdo) ∧
    (∀ (levels : BitVec 8) (n : Nat), 1 ≤ n → n ≤ 8 → levels.getLsbD (n - 1) = true →
      ∃ t, exec (.sdiSample levels none false) s = .next t ∧ (safetyIn n t).level = true ∧
        (safetyIn n t).filtering = ((safetyIn n s).fault == 0 && !(safetyIn n s).state) ∧
        (safetyIn n t).state = (safetyIn n s).state ∧ (safetyIn n t).fault = (safetyIn n s).fault) ∧
    (∀ k : Fin 8, (safetyIn (k.val + 1) s).filtering = true → (safetyIn (k.val + 1) s).fault = 0 →
      (safetyIn (k.val + 1) s).level = true →
      ∃ t, exec (.sdiFilterExpiry k) s = .next t ∧
        safetyIn (k.val + 1) t = { safetyIn (k.val + 1) s with state := true, filtering := false }) ∧
    (∀ p : Fin 4, p.val ∈ s.localIo.discrepant →
      ∃ t, exec (.discrepancyTime p) s = .next t ∧ (safetyIn (2 * p.val + 1) t).fault = 3 ∧
        (safetyIn (2 * p.val + 2) t).fault = 3 ∧ (safetyIn (2 * p.val + 1) t).state = false ∧
        (safetyIn (2 * p.val + 2) t).state = false ∧ (.localInputFault, 2 * p.val + 1) ∈ t.alarms ∧
        (.localInputFault, 2 * p.val + 2) ∈ t.alarms) ∧
    (∀ k : Fin 8, (safetyIn (k.val + 1) s).causeAbsent = true →
      ((safetyIn (k.val + 1) s).fault = 1 ∨ (safetyIn (k.val + 1) s).fault = 2 ∨ (safetyIn (k.val + 1) s).fault = 3) →
      ∃ t, exec (.sdiFaultCauseGone k) s = .next t ∧ safetyIn (k.val + 1) t = { safetyIn (k.val + 1) s with fault := 4 } ∧
        t.alarms = s.alarms) ∧
    (s.localIo.supplyLow = false → ∃ t, exec .sdoSupplyLow s = .next t ∧ t.localIo.supplyLow = true ∧
      t.localIo.supply < 18000 ∧ (.safetyOutputSupplyLow, 0) ∈ t.alarms ∧
      ∀ n, 1 ≤ n → n ≤ 4 → (safetyOut n s).applied = true →
        (safetyOut n t).fault = 2 ∧ (safetyOut n t).applied = false) ∧
    (∀ v, 19000 ≤ v → ∃ t, exec (.sdoSupplyGood v) s = .next t ∧ t.localIo.supplyLow = false ∧ t.localIo.supply = v ∧
      (.safetyOutputSupplyLow, 0) ∉ t.alarms ∧
      ∀ n, 1 ≤ n → n ≤ 4 → (safetyOut n s).fault = 2 → (safetyOut n t).fault = 3) ∧
    (∀ k : Fin 4, cfgDarkTest s.nsp.inForce (k.val + 1) = true → (safetyOut (k.val + 1) s).applied = true →
      s.modes.mode ≠ .off → s.modes.mode ≠ .fault →
      exec (.darkTest k false) s = .next s ∧
      ∃ t, exec (.darkTest k true) s = .next t ∧ t.modes.mode = .fault ∧ t.modes.cause = 0x1401 ∧
        t.diag.detail = k.val + 1) ∧
    (∀ v : Word, s.localIo.underProgram = true → s.diag.latch = false → s.localIo.posted = [(0x0F050, v)] →
      ∃ t, exec .outputWordLatch s = .next t ∧ t.localIo.posted = [] ∧
        ∀ n, 1 ≤ n → n ≤ 4 → v.getLsbD (n - 1) = true → (safetyOut n s).fault = 0 →
          (s.localIo.supplyLow = false → (safetyOut n t).command = true ∧ (safetyOut n t).applied = true) ∧
          (s.localIo.supplyLow = true → (safetyOut n t).fault = 2 ∧ (safetyOut n t).applied = false))

/-- Mode commands (R69–R74, R495, Table 3-7): START from STOP opens a search; STOP in STANDBY acts at once, in ACTIVE and SOLO
it waits for the boundary; HANDOVER needs a synchronised standby; a restart is accepted only where Table 3-7 has it and clears
every alarm; the reset that follows it keeps MRAM and the stored configuration and starts again from KICKSTAND. -/
def Obligations.ModeCommands : Prop :=
  ∀ s : State,
    (s.modes.mode = .stop → s.modes.transCause = 0x000B → s.protection.unlocked = false → s.modes.restartPending = false →
      s.modes.search.running = false → exec .start s = .next { s with
        modes.search := { running := true, byStart := true }
        modes.commandResult := 1 }) ∧
    (s.modes.mode ≠ .stop → exec .start s = .next { s with modes.commandResult := 2 }) ∧
    (s.firmware.pairState = 0 →
      (s.modes.mode = .standby → ∃ t, exec .stop s = .next t ∧ t.modes.mode = .stop ∧ t.modes.transCause = 0x000B ∧
        t.modes.commandResult = 0 ∧ t.pair.standby = .none ∧ t.solver = s.solver) ∧
      (s.modes.mode = .solo → .stop ∉ s.modes.triggers → exec .stop s = .next { s with
        modes.triggers := s.modes.triggers ++ [.stop]
        modes.commandResult := 1 }) ∧
      (s.modes.mode = .load → exec .stop s = .next { s with
        modes.stopAtEndOfLoad := true
        modes.search := {}
        modes.commandResult := 1 })) ∧
    (s.modes.mode = .active →
      (s.pair.partner.mode = some 4 → s.pair.partner.sync = true → .handover .command ∉ s.modes.triggers →
        exec .handover s = .next { s with
          modes.triggers := s.modes.triggers ++ [.handover .command]
          modes.commandResult := 1 }) ∧
      (s.pair.partner.sync = false → exec .handover s = .next { s with modes.commandResult := 3 }) ∧
      exec .warmRestart s = .next { s with modes.commandResult := 2 }) ∧
    (s.modes.mode = .standby ∨ s.modes.mode = .stop ∨ s.modes.mode = .fault ∨ s.modes.mode = .provision →
      s.supply.powerFail = false → s.modes.restartPending = false →
      ∃ t, exec .warmRestart s = .next t ∧ t.modes.restartPending = true ∧ t.modes.restart = .warmCommand ∧
        t.modes.commandResult = 1 ∧ t.alarms = [] ∧ t.modes.mode = s.modes.mode ∧ t.solver = s.solver) ∧
    (s.modes.mode = .fault → s.modes.autoRestartArmed = true → s.modes.restartPending = false → s.modes.autoRestarts = [] →
      0 < setAutoRestartLimit s.nsp.settings →
      ∃ t, exec .automaticRestart s = .next t ∧ t.modes.restartPending = true ∧ t.modes.restart = .automatic ∧
        t.modes.autoRestarts = [s.quilt.seconds] ∧ t.alarms = [] ∧ t.modes.mode = .fault) ∧
    (∀ t, s.modes.restartPending = true → s.modes.mode ≠ .off → s.supply.powerFail = false →
      ∃ u, exec (.restartReset true t) s = .next u ∧ u.modes.mode = .kickstand ∧ u.modes.transCause = 0x000E ∧
        u.modes.restartPending = false ∧ u.solver.store = [] ∧ u.hub.mram = s.hub.mram ∧ u.nsp.stored0 = s.nsp.stored0 ∧
        u.nsp.stored1 = s.nsp.stored1 ∧ u.protection.lifecycle = s.protection.lifecycle ∧ u.localIo.underProgram = false)

/-- The phases of a cycle (R15, R79, R93, R151–R153, R239): the minimum cycle time ends with the next cycle's start, and no
cycle starts before it; the end of the XCH phase clears the before-image store; the end of the solve phase queues the output;
the release frees frames of the solved cycle; at the boundary, once no rejoin test runs (R99), the counter rises by one and
the cycle's length is kept, and past the bound of the cycle there is none (R175); the handover cycle has no successor on this
module. What breaks a cycle (R86, R89, R104, R148, R175, R238, Table 9-8): the cycle watchdog is FAULT 0x1201; a path longer
than admitted or an illegal encoding is FAULT 0x1102 on a joined tandem and a solo fault elsewhere; a window of 1,024 solver
cycles compares the signatures; a pair of snapshots is compared by the backstop; a stream that stops is FAULT 0x1106. -/
def Obligations.CycleRunsAndFails : Prop :=
  (∀ (s : State) (t : Nat),
     (s.cycle.phase = .waiting → solving s.modes.mode = true →
       max s.network.time.now t < s.cycle.startAt + 1000 * cfgMinimumCycle s.nsp.inForce →
       exec (.minimumCycleWaitEnd t) s = .next s) ∧
     (s.cycle.phase = .waiting → solving s.modes.mode = true →
       s.cycle.startAt + 1000 * cfgMinimumCycle s.nsp.inForce ≤ max s.network.time.now t →
       ∃ u, exec (.minimumCycleWaitEnd t) s = .next u ∧ u.cycle.startAt = max s.network.time.now t ∧
         u.cycle.counter = s.cycle.counter ∧ u.modes.solvedSinceStart = true ∧
         (u.cycle.phase = .xch ∨ u.modes.mode = .fault)) ∧
     (s.cycle.phase = .xch → s.hub.waiting = [] → (∀ n, (session n s).held = []) → ∃ u, exec .xchPhaseEnd s = .next u ∧
       u.cycle.phase = .solve ∧ u.solver.before = [] ∧
       u.solver.store = s.solver.store ∧ u.diag.disagreed = false ∧ u.cycle.counter = s.cycle.counter ∧ u.modes = s.modes) ∧
     (s.cycle.phase = .solve → (∀ p ∈ s.solver.places, p.2.running = none) →
       ∃ u, exec (.solvePhaseEnd t) s = .next u ∧ u.cycle.phase = .output ∧ u.cycle.outputQueued = true ∧
         u.cycle.released = false ∧ u.cycle.counter = s.cycle.counter ∧
         u.solver.writtenLast = s.solver.written.length ∧ u.modes = s.modes) ∧
     (s.modes.solvedSinceStart = true → s.modes.mode = .solo → s.cycle.released = false → s.diag.disagreed = false →
       s.cycle.phase = .output → s.diag.streams = [] → s.pair.boundaryDue = false →
       ∃ u, exec (.cycleRelease t) s = .next u ∧ u.cycle.released = true ∧
         u.cycle.releasedCycle = some s.cycle.counter ∧ u.solver = s.solver ∧ u.modes = s.modes) ∧
     (s.cycle.phase = .output → s.cycle.outputQueued = true → s.pair.weftOpen = false → s.solver.rejoinTests = [] →
       (cycleLimit s < max s.network.time.now t → exec (.cycleBoundary t []) s = .next s) ∧
       (max s.network.time.now t ≤ cycleLimit s → s.modes.mode = .solo → s.modes.triggers = [] →
         ∃ u, exec (.cycleBoundary t []) s = .next u ∧ u.cycle.counter = s.cycle.counter + 1 ∧
           u.cycle.last = min 1048575 ((max s.network.time.now t - s.cycle.startAt) / 1000) ∧ u.solver.places = [] ∧
           u.modes.firstFlags = 0 ∧ u.modes.edgeFirst = false) ∧
       (max s.network.time.now t ≤ cycleLimit s → s.modes.mode = .handover →
         ∃ u, exec (.cycleBoundary t []) s = .next u ∧ u.cycle.counter = s.cycle.counter ∧ u.cycle.phase = .idle ∧
           u.solver.places = [] ∧ u.modes.mode = .handover))) ∧
  (∀ s : State,
     (s.cycle.phase = .xch ∨ s.cycle.phase = .solve → s.modes.mode ≠ .off → s.modes.mode ≠ .fault →
       ∃ t, exec .cycleWatchdogExpiry s = .next t ∧ t.modes.mode = .fault ∧ t.modes.cause = 0x1201 ∧
         t.diag.detail = s.solver.plan ∧ t.solver.places = [] ∧ t.cycle.phase = .idle) ∧
     (∀ p : Place, laneRuns p.val s = true → linesIntact p.val [] s → s.modes.mode ≠ .off → s.modes.mode ≠ .fault → p.val < 16 →
       (∃ t, exec (.illegalEncodingFetch p) s = .next t ∧ t.modes.mode = .fault ∧ t.modes.cause = 0x1102 ∧
         t.diag.detail = p.val * 2 ^ 24 + (laneAt p.val s).pc.toNat) ∧
       ((laneAt p.val s).path ≤ mapVal 0 ((laneAt p.val s).running.getD 0) (admitted s).paths →
         exec (.pathWatchdogExpiry p) s = .next s) ∧
       (mapVal 0 ((laneAt p.val s).running.getD 0) (admitted s).paths < (laneAt p.val s).path →
         ∃ t, exec (.pathWatchdogExpiry p) s = .next t ∧ t.modes.mode = .fault ∧ t.modes.cause = 0x1102)) ∧
     (∀ p : Place, laneRuns p.val s = true → linesIntact p.val [] s → 16 ≤ p.val → mapVal 0 ((laneAt p.val s).running.getD 0) (admitted s).paths <
         (laneAt p.val s).path →
       (∃ t, exec (.pathWatchdogExpiry p) s = .next t ∧ t.modes = s.modes ∧ t.solver.store = s.solver.store ∧
         t.solver.failedLanes = s.solver.failedLanes ||| (1#32 <<< (p.val - 16))) ∧
       ∃ t, exec (.illegalEncodingFetch p) s = .next t ∧ t.modes = s.modes ∧ t.solver.store = s.solver.store ∧
         t.solver.failedLanes = s.solver.failedLanes ||| (1#32 <<< (p.val - 16))) ∧
     (∀ (k : Fin 16) (d : BitVec 32), s.cycle.phase = .solve → planStateOf k.val s = .joined → laneRuns k.val s = true →
       streamFree k.val s → 1024 ≤ (laneAt k.val s).window → (laneAt k.val s).sigLead = (laneAt k.val s).sigTrail →
       (∃ t, exec (.signatureWindowEnd k 0) s = .next t ∧ t.modes = s.modes ∧
         (laneAt k.val t).window = (laneAt k.val s).window - 1024 ∧ t.solver.store = s.solver.store) ∧
       (d ≠ 0 → s.modes.mode ≠ .off → s.modes.mode ≠ .fault →
         ∃ t, exec (.signatureWindowEnd k d) s = .next t ∧ t.modes.mode = .fault ∧ t.modes.cause = 0x1101 ∧
           t.diag.detail = k.val)) ∧
     (∀ (k : Fin 16) q r lag, mapVal [] k.val s.diag.streams = q :: r → mapVal [] k.val s.diag.verdicts = [] →
       (q.lead = q.trail → ∃ t, exec (.snapshotPairCompare k false lag) s = .next t ∧ t.diag.windows = s.diag.windows + 1 ∧
         t.diag.lagPeak = max s.diag.lagPeak lag ∧ t.modes = s.modes ∧ t.solver = s.solver) ∧
       (q.lead ≠ q.trail → s.modes.mode ≠ .off → s.modes.mode ≠ .fault →
         ∃ t, exec (.snapshotPairCompare k false lag) s = .next t ∧ t.modes.mode = .fault ∧ t.modes.cause = 0x1105 ∧
           t.diag.disagreed = true)) ∧
     (∀ k : Fin 16, s.cycle.phase = .solve → planStateOf k.val s = .joined → laneRuns k.val s = true →
       s.modes.mode ≠ .off → s.modes.mode ≠ .fault →
       ∃ t, exec (.snapshotStreamLost k) s = .next t ∧ t.modes.mode = .fault ∧ t.modes.cause = 0x1106 ∧
         t.diag.detail = k.val))

/-- Plan requests and rejoin tests (R97, R99): a plan the image does not have is refused with 5, the plan in force is done,
another one is pending until a boundary; the signatures of a rejoin test go to the backstop, the test leaves the list of those
running, and a failed one is kept for the boundary. -/
def Obligations.PlanRequests : Prop :=
  ∀ (s : State) (i : Image), activeImage s = some i → s.modes.mode = .solo → s.modes.triggers = [] → s.solver.failedLanes = 0 →
    (∀ p : BitVec 8, i.plans.length ≤ p.toNat →
      exec (.planRequest p) s = .next { s with solver.planResult := 5 }) ∧
    (∀ p : BitVec 8, p.toNat < i.plans.length → p.toNat = s.solver.plan →
      exec (.planRequest p) s = .next { s with solver.planResult := 0 }) ∧
    (∀ p : BitVec 8, p.toNat < i.plans.length → p.toNat ≠ s.solver.plan →
      exec (.planRequest p) s = .next { s with
        solver.planResult := 1
        solver.planPending := some (p.toNat, false) }) ∧
    ∀ (k : Fin 16) (pass : Bool), k ∈ s.solver.rejoinTests → streamFree k.val s →
      (s.solver.rejoinTests.erase k ≠ [] ∨ s.cycle.outputQueued = false →
        exec (.rejoinTestDone k pass) s = .next { pushTest k.val (if pass then 0 else 1) s with
          solver.rejoinTests := s.solver.rejoinTests.erase k
          solver.rejoinFailed := if pass then s.solver.rejoinFailed else s.solver.rejoinFailed ++ [k] }) ∧
      (s.solver.rejoinTests = [k] → s.cycle.outputQueued = true →
        ∃ t, exec (.rejoinTestDone k pass) s = .next t ∧ t.solver.rejoinTests = [] ∧
          t.solver.rejoinFailed = (if pass then s.solver.rejoinFailed else s.solver.rejoinFailed ++ [k]) ∧
          t.solver.plan = s.solver.plan ∧ t.modes = s.modes)

/-- Instructions on the lane's own registers (R87, R91, R129–R131, R136, R138): each has the effect of its row on ACC, WA and
WB, costs what its row says, and touches nothing but its lane. Compare, scale and quality test (R137, R138, Table 5-7): ACC
tells whether the relation holds in the format of U; SCL maps WA from its input range to its output range, limits it there on
request and tells in ACC that WA lay outside; QTS asks for the quality of the operand's point. -/
def Obligations.RegisterInstructions : Prop :=
  (∀ (p : Place) (s : State) (l : Lane), laneRuns p.val s = true → linesIntact p.val [] s → laneAt p.val s = l →
     exec (.nop p) s = .next (withLane p.val (spent 1 l) s) ∧
     exec (.notA p) s = .next (withLane p.val (spent 1 { l with acc := !l.acc }) s) ∧
     exec (.seta p) s = .next (withLane p.val (spent 1 { l with acc := true }) s) ∧
     exec (.clra p) s = .next (withLane p.val (spent 1 { l with acc := false }) s) ∧
     exec (.lsat p) s = .next (withLane p.val (spent 1 { l with acc := l.sat }) s) ∧
     (∀ v, exec (.lia p v) s = .next (withLane p.val (spent 1 { l with wa := v }) s)) ∧
     (∀ v, exec (.lib p v) s = .next (withLane p.val (spent 1 { l with wb := v }) s)) ∧
     exec (.xab p) s = .next (withLane p.val (spent 1 { l with wa := l.wb, wb := l.wa }) s) ∧
     exec (.lix p) s = .next (withLane p.val (spent 1 { l with wa := BitVec.ofNat 20 (indexOf l) }) s) ∧
     exec (.wand p) s = .next (withLane p.val (spent 1 { l with wa := l.wa &&& l.wb }) s) ∧
     exec (.wor p) s = .next (withLane p.val (spent 1 { l with wa := l.wa ||| l.wb }) s) ∧
     exec (.wxor p) s = .next (withLane p.val (spent 1 { l with wa := l.wa ^^^ l.wb }) s) ∧
     ∀ (n : Fin 20) (u : Bool), (∃ w : Word, exec (.shl p n) s = .next (withLane p.val (spent 1 { l with wa := w }) s) ∧
         ∀ i < 20, w.getLsbD i = (decide (n.val ≤ i) && l.wa.getLsbD (i - n.val))) ∧
       ∃ w : Word, exec (.shr p u n) s = .next (withLane p.val (spent 1 { l with wa := w }) s) ∧
         ∀ i < 20, w.getLsbD i = if i + n.val < 20 then l.wa.getLsbD (i + n.val) else !u && l.wa.getLsbD 19) ∧
  (∀ (p : Place) (u : Bool) (s : State) (l : Lane) (a b : Int), laneRuns p.val s = true → linesIntact p.val [] s →
     laneAt p.val s = l → a = wordVal u l.wa → b = wordVal u l.wb →
     (exec (.ceq p u) s = .next (withLane p.val (spent 1 { l with acc := decide (a = b) }) s) ∧
       exec (.cne p u) s = .next (withLane p.val (spent 1 { l with acc := decide (a ≠ b) }) s) ∧
       exec (.clt p u) s = .next (withLane p.val (spent 1 { l with acc := decide (a < b) }) s) ∧
       exec (.cle p u) s = .next (withLane p.val (spent 1 { l with acc := decide (a ≤ b) }) s) ∧
       exec (.cgt p u) s = .next (withLane p.val (spent 1 { l with acc := decide (a > b) }) s) ∧
       exec (.cge p u) s = .next (withLane p.val (spent 1 { l with acc := decide (a ≥ b) }) s)) ∧
     (∀ (o : WordOperand) (inLo inHi outLo outHi v : Int), o.stride = none →
       linesIntact p.val ((List.range 4).map fun k => (o.word + BitVec.ofNat 20 k).toNat) s →
       inLo = wordVal u (readWord p.val o.word s) → inHi = wordVal u (readWord p.val (o.word + 1) s) →
       outLo = wordVal u (readWord p.val (o.word + 2) s) → outHi = wordVal u (readWord p.val (o.word + 3) s) →
       inLo ≠ inHi → v = outLo + ((a - inLo) * (outHi - outLo)).tdiv (inHi - inLo) →
       exec (.scl p u false o) s = .next (withLane p.val (spent 30 { resulting u v l with
         acc := decide (a < min inLo inHi ∨ max inLo inHi < a) }) s) ∧
       exec (.scl p u true o) s = .next (withLane p.val (spent 30 { resulting u v l with
         wa := BitVec.ofInt 20 (max (min outLo outHi) (min (clamped u v) (max outLo outHi)))
         acc := decide (a < min inLo inHi ∨ max inLo inHi < a) }) s)) ∧
     ∀ (o : BitOperand) (q : BitVec 2), o.stride = none →
       linesIntact p.val [(BitVec.ofNat 20 (qualityWord (pointAt o.word.toNat o.bit.val)) : Word).toNat] s →
       q = qualityOf (pointAt o.word.toNat o.bit.val)
         (readWord p.val (BitVec.ofNat 20 (qualityWord (pointAt o.word.toNat o.bit.val))) s) →
       exec (.qts p 0 o) s = .next (withLane p.val (spent 3 { l with acc := q == 3 }) s) ∧
       exec (.qts p 1 o) s = .next (withLane p.val (spent 3 { l with acc := q == 3 || q == 2 }) s) ∧
       exec (.qts p 2 o) s = .next (withLane p.val (spent 3 { l with acc := q != 0 }) s) ∧
       exec (.qts p 3 o) s = .next (withLane p.val (spent 3 { l with wa := q.setWidth 20 }) s))

/-- Arithmetic (R90, Table 4-2, Table 5-6): the exact result is brought into the format by its nearer bound, and SAT is set
when it lay outside; a division by zero gives a bound by the dividend's sign and sets SAT; a remainder has the dividend's
sign. -/
def Obligations.ArithmeticSaturates : Prop :=
  ∀ (p : Place) (u : Bool) (s : State) (l : Lane) (a b : Int), laneRuns p.val s = true → linesIntact p.val [] s → laneAt p.val s = l →
    a = wordVal u l.wa → b = wordVal u l.wb →
    exec (.add p u) s = .next (withLane p.val (spent 1 (resulting u (a + b) l)) s) ∧
    exec (.sub p u) s = .next (withLane p.val (spent 1 (resulting u (a - b) l)) s) ∧
    exec (.mul p u) s = .next (withLane p.val (spent 3 (resulting u (a * b) l)) s) ∧
    exec (.neg p u) s = .next (withLane p.val (spent 1 (resulting u (-a) l)) s) ∧
    exec (.abs p u) s = .next (withLane p.val (spent 1 (resulting u (a.natAbs : Int) l)) s) ∧
    exec (.min p u) s = .next (withLane p.val (spent 1 (resulting u (min a b) l)) s) ∧
    exec (.max p u) s = .next (withLane p.val (spent 1 (resulting u (max a b) l)) s) ∧
    (b ≠ 0 → exec (.div p u) s = .next (withLane p.val (spent 22 (resulting u (a.tdiv b) l)) s) ∧
      exec (.mod p u) s = .next (withLane p.val (spent 22 { l with wa := BitVec.ofInt 20 (a.tmod b) }) s)) ∧
    (b = 0 → exec (.div p u) s = .next (withLane p.val (spent 22 { l with
        wa := BitVec.ofInt 20 (if 0 < a then highest u else if a < 0 then lowest u else 0)
        sat := true }) s) ∧
      exec (.mod p u) s = .next (withLane p.val (spent 22 { l with wa := 0, sat := true }) s))

/-- Loads and bit logic (R95, R107, R128, R131, R143, R245): the operand's address is its word plus the stride of the
innermost LOOP's index, a bit walk counts bits; a word shared between places and already written reads as at the start of the
solve phase outside its owner; N inverts; a line with one or two wrong symbols is corrected and counted, one with three or
more is FAULT 0x1103, and FAULT 0x1104 in the program store line that the instruction is fetched from (R123). -/
def Obligations.LoadsAndBitLogic : Prop :=
  (∀ (p : Place) (s : State) (l : Lane) (o : BitOperand) (w : WordOperand), laneRuns p.val s = true → laneAt p.val s = l →
     (3 ≤ upsetOf 1 (fetchLine l.pc s) s → s.modes.mode ≠ .off → s.modes.mode ≠ .fault →
       ∀ c ∈ [Instr.nop p, .ld p false o, .st p false o, .lwa p w 0, .swa p w, .add p false, .br p, .ton p w, .fence p],
         ∃ t, exec c s = .next t ∧ t.modes.mode = .fault ∧ t.modes.cause = 0x1104 ∧
           t.diag.detail = s.solver.activeBank.val * 2 ^ 24 + l.pc.toNat / 4 ∧ t.solver.store = s.solver.store) ∧
     (1 ≤ upsetOf 1 (fetchLine l.pc s) s → upsetOf 1 (fetchLine l.pc s) s ≤ 2 →
       ∃ t, exec (.nop p) s = .next t ∧ laneAt p.val t = spent 1 l ∧
         t.diag.programCorrections = min 0xFFFFFFFF (s.diag.programCorrections + 1) ∧ t.solver.store = s.solver.store)) ∧
  ∀ (p : Place) (s : State) (l : Lane), laneRuns p.val s = true → linesIntact p.val [] s → laneAt p.val s = l →
    (∀ (n b : Bool) (o : BitOperand), o.stride = none → linesIntact p.val [o.word.toNat] s →
      b = ((readWord p.val o.word s).getLsbD o.bit.val != n) →
      exec (.ld p n o) s = .next (withLane p.val (spent 2 { l with acc := b }) s) ∧
      exec (.andB p n o) s = .next (withLane p.val (spent 2 { l with acc := l.acc && b }) s) ∧
      exec (.orB p n o) s = .next (withLane p.val (spent 2 { l with acc := l.acc || b }) s) ∧
      exec (.xorB p n o) s = .next (withLane p.val (spent 2 { l with acc := l.acc != b }) s)) ∧
    (∀ (o : BitOperand) (q : Nat), o.stride = some 7 → q = o.bit.val + indexOf l →
      linesIntact p.val [(o.word + BitVec.ofNat 20 (q / 20)).toNat] s →
      exec (.ld p false o) s = .next (withLane p.val (spent 3 { l with
        acc := (readWord p.val (o.word + BitVec.ofNat 20 (q / 20)) s).getLsbD (q % 20) }) s)) ∧
    (∀ (w : Word) (k : Fin 7), linesIntact p.val [w.toNat, (w + BitVec.ofNat 20 (indexOf l * 2 ^ k.val)).toNat] s →
      exec (.lwb p { word := w, stride := some k }) s = .next (withLane p.val (spent 3 { l with
        wb := readWord p.val (w + BitVec.ofNat 20 (indexOf l * 2 ^ k.val)) s }) s) ∧
      exec (.lwb p { word := w }) s = .next (withLane p.val (spent 2 { l with wb := readWord p.val w s }) s) ∧
      exec (.lwa p { word := w } 0) s = .next (withLane p.val (spent 2 { l with wa := readWord p.val w s }) s) ∧
      ∃ t, exec (.lwa p { word := w } 2) s = .next t ∧
        laneAt p.val t = spent 2 { l with wa := readWord p.val w s } ∧
        t.diag.dataCorrections = min 0xFFFFFFFF (s.diag.dataCorrections + 1) ∧ t.solver.store = s.solver.store) ∧
    (∀ (n : Bool) (o : BitOperand) (w : Word) (k : Nat), o.stride = none → s.modes.mode ≠ .off → s.modes.mode ≠ .fault →
      upsetOf 0 (o.word.toNat / 8) s = k → upsetOf 0 (w.toNat / 8) s = k → 3 ≤ k →
      ∀ c ∈ [Instr.ld p n o, .andB p n o, .orB p n o, .xorB p n o, .lwa p { word := w } 0, .lwb p { word := w }],
        ∃ t, exec c s = .next t ∧ t.modes.mode = .fault ∧ t.modes.cause = 0x1103 ∧ t.solver.store = s.solver.store) ∧
    (∀ w : Word, (mapVal none w.toNat s.solver.before = none → readWord p.val w s = storeAt w.toNat s) ∧
      ∀ v, mapVal none w.toNat s.solver.before = some v →
        readWord p.val w s = if inWindow p.val w.toNat s then storeAt w.toNat s else v) ∧
    ∀ w : Word, exec (.xchInput p { word := w } true) s = .next (withLane p.val (spent 64 { l with
        wa := localWord w.toNat s
        acc := localValid w.toNat s }) s) ∧
      exec (.xchInput p { word := w } false) s = .next (withLane p.val (spent 64 { l with wa := 0, acc := false }) s)

/-- Stores inside the place's window (R18, R105, R131, R144, R236, R288): the word at the operand's address takes the new
value, every other word reads as before, the word is logged as written, and beside its signatures the lane only goes on. A
store outside the place's window is not performed (R104, R288, R297): a notice tells of it; a joined tandem goes to FAULT
0x1601 with place and address as detail, a solo stops alone, its lane failed. -/
def Obligations.StoresStayInTheWindow : Prop :=
  (∀ (p : Place) (s : State) (l : Lane) (o : BitOperand) (a : Word), laneRuns p.val s = true → laneAt p.val s = l →
     linesIntact p.val [a.toNat] s → o.word = a → o.stride = none → inWindow p.val a.toNat s = true →
     ∀ (c : Instr) (w : Word) (cost : Nat),
       (c, w, cost) ∈ [(Instr.st p false o, withBit (storeAt a.toNat s) o.bit.val l.acc, 2),
         (.st p true o, withBit (storeAt a.toNat s) o.bit.val (!l.acc), 2),
         (.setB p o, withBit (storeAt a.toNat s) o.bit.val (l.acc || (storeAt a.toNat s).getLsbD o.bit.val), 2),
         (.rstB p o, withBit (storeAt a.toNat s) o.bit.val (!l.acc && (storeAt a.toNat s).getLsbD o.bit.val), 2),
         (.swa p { word := a }, l.wa, 2), (.swb p { word := a }, l.wb, 2), (.xchOutput p { word := a }, l.wa, 8),
         (.cld p { word := a }, (if l.acc then l.wb else storeAt a.toNat s), 4),
         (.crs p { word := a }, (if l.acc then 0 else storeAt a.toNat s), 4)] →
       ∃ t, exec c s = .next t ∧ t.solver.store = mapPut 0 a.toNat w s.solver.store ∧ a.toNat ∈ t.solver.written ∧
         (∀ b, b ≠ a.toNat → storeAt b t = storeAt b s) ∧
         (mapWf 0 s.solver.store = true → storeAt a.toNat t = w) ∧
         t.hub = s.hub ∧ t.modes = s.modes ∧
         laneAt p.val t = spent cost { l with
           sigLead := (laneAt p.val t).sigLead
           sigTrail := (laneAt p.val t).sigTrail
           posts := if cost = 8 then l.posts ++ [{ address := a, value := l.wa, passed := !decide (p.val < 16) }] else l.posts }) ∧
  (∀ (p : Place) (s : State) (o : BitOperand), laneRuns p.val s = true → o.stride = none →
     linesIntact p.val ((List.range 4).map fun k => (o.word + BitVec.ofNat 20 k).toNat) s →
       inWindow p.val o.word.toNat s = false → s.modes.mode ≠ .off → s.modes.mode ≠ .fault → mapWf {} s.solver.places = true →
     ∀ c ∈ [Instr.st p false o, .setB p o, .rstB p o, .re p o, .fe p o, .swa p { word := o.word }, .swb p { word := o.word },
         .xchOutput p { word := o.word }, .cld p { word := o.word }, .crs p { word := o.word }, .ctu p { word := o.word },
         .ctd p { word := o.word }, .ton p { word := o.word }, .tof p { word := o.word }, .tp p { word := o.word }],
       ∃ t, exec c s = .next t ∧ t.solver.store = s.solver.store ∧ t.solver.written = s.solver.written ∧
         t.protection.notices = min 0xFFFFFFFF (s.protection.notices + 1) ∧
         (p.val < 16 → t.modes.mode = .fault ∧ t.modes.cause = 0x1601 ∧ t.diag.detail = p.val * 2 ^ 24 + o.word.toNat) ∧
         (16 ≤ p.val → t.modes = s.modes ∧ laneAt p.val t = {} ∧
           t.solver.failedLanes = s.solver.failedLanes ||| (1#32 <<< (p.val - 16))))

/-- Edges (R77, R133, R188): RE reports 0 to 1 and FE 1 to 0 of ACC since the last execution, not in the first cycle after a
start nor for a new cell after a change; the cell takes ACC in every case. -/
def Obligations.EdgesReportChanges : Prop :=
  ∀ (p : Place) (s : State) (l : Lane) (o : BitOperand) (prev masked : Bool), laneRuns p.val s = true → laneAt p.val s = l →
    linesIntact p.val [o.word.toNat] s → o.stride = none → inWindow p.val o.word.toNat s = true → prev = (storeAt o.word.toNat s).getLsbD o.bit.val →
    masked = (s.modes.edgeFirst || decide (edgeNumber o.word o.bit.val ∈ s.change.maskEdges)) →
    (∃ t, exec (.re p o) s = .next t ∧ (laneAt p.val t).acc = (l.acc && !prev && !masked) ∧
      t.solver.store = mapPut 0 o.word.toNat (withBit (storeAt o.word.toNat s) o.bit.val l.acc) s.solver.store ∧
      (laneAt p.val t).pc = l.pc + 1 ∧ (laneAt p.val t).path = l.path + 3 ∧ t.modes = s.modes) ∧
    ∃ t, exec (.fe p o) s = .next t ∧ (laneAt p.val t).acc = (prev && !l.acc && !masked) ∧
      t.solver.store = mapPut 0 o.word.toNat (withBit (storeAt o.word.toNat s) o.bit.val l.acc) s.solver.store ∧
      (laneAt p.val t).pc = l.pc + 1 ∧ (laneAt p.val t).path = l.path + 3 ∧ t.modes = s.modes

/-- Timers (R114, R134, Table 4-8): a running timer of base 1 ms advances by CYCLE_DELTA, truncated, the rest kept; TON and
TOF switch at PRESET, TP ends its pulse there; without a run TON with ACC 0 clears, a rising ACC starts TON and TP, a falling
one TOF. -/
def Obligations.TimersAdvanceAndSwitch : Prop :=
  ∀ (p : Place) (s : State) (l : Lane) (w : Word) (preset elapsed residual : Nat) (run q prev : Bool),
    laneRuns p.val s = true → linesIntact p.val ((List.range 4).map fun k => w.toNat + k) s → laneAt p.val s = l →
      w.toNat % 4 = 0 → w.toNat < 0xFFFFC → mapWf 0 s.solver.store = true →
    (∀ k < 4, inWindow p.val (w.toNat + k) s = true) →
    (storeAt w.toNat s).getLsbD 19 = run → (storeAt w.toNat s).getLsbD 18 = q → (storeAt w.toNat s).getLsbD 17 = prev →
    (storeAt w.toNat s).getLsbD 14 = false → (storeAt w.toNat s).getLsbD 13 = false →
    (storeAt (w.toNat + 1) s).toNat = preset → (storeAt (w.toNat + 2) s).toNat = elapsed →
    (storeAt (w.toNat + 3) s).toNat = residual →
    ∀ n r, n = min (elapsed + (residual + cycleDelta s) / 1000) 1048575 → r = (residual + cycleDelta s) % 1000 →
    ∀ (c : Instr) (q' run' : Bool) (elapsed' residual' : Nat),
      ((c = .ton p { word := w } ∧ l.acc = false ∧ q' = false ∧ run' = false ∧ elapsed' = 0 ∧ residual' = 0) ∨
       (c = .ton p { word := w } ∧ l.acc = true ∧ prev = false ∧ q' = decide (preset = 0) ∧ run' = decide (preset ≠ 0) ∧
          elapsed' = 0 ∧ residual' = 0) ∨
       (c = .ton p { word := w } ∧ l.acc = true ∧ prev = true ∧ run = true ∧ q = false ∧ q' = decide (preset ≤ n) ∧
          run' = decide (n < preset) ∧ elapsed' = n ∧ residual' = r) ∨
       (c = .tof p { word := w } ∧ l.acc = true ∧ q' = true ∧ run' = false ∧ elapsed' = 0 ∧ residual' = 0) ∨
       (c = .tof p { word := w } ∧ l.acc = false ∧ prev = true ∧ q' = decide (0 < preset) ∧ run' = decide (0 < preset) ∧
          elapsed' = 0 ∧ residual' = 0) ∨
       (c = .tof p { word := w } ∧ l.acc = false ∧ prev = false ∧ run = true ∧ q = true ∧ q' = decide (n < preset) ∧
          run' = decide (n < preset) ∧ elapsed' = n ∧ residual' = r) ∨
       (c = .tp p { word := w } ∧ run = false ∧ l.acc = true ∧ prev = false ∧ q' = decide (0 < preset) ∧
          run' = decide (0 < preset) ∧ elapsed' = 0 ∧ residual' = 0) ∨
       (c = .tp p { word := w } ∧ run = true ∧ q = true ∧ q' = decide (n < preset) ∧ run' = decide (n < preset) ∧
          elapsed' = n ∧ residual' = r)) →
      ∃ t, exec c s = .next t ∧ (laneAt p.val t).acc = q' ∧ (storeAt w.toNat t).getLsbD 18 = q' ∧
        (storeAt w.toNat t).getLsbD 19 = run' ∧ (storeAt w.toNat t).getLsbD 17 = l.acc ∧
        (storeAt (w.toNat + 2) t).toNat = elapsed' ∧ (storeAt (w.toNat + 3) t).toNat = residual' ∧
        (∀ a, a ≠ w.toNat → a ≠ w.toNat + 2 → a ≠ w.toNat + 3 → storeAt a t = storeAt a s) ∧
        (laneAt p.val t).pc = l.pc + 1 ∧ (laneAt p.val t).path = l.path + 12 ∧ t.modes = s.modes

/-- Counters (R115, R135, Table 4-9): CTU and CTD count a rising ACC by one, saturating with SAT, except a new cell in the
first cycle after a change; ACC becomes QU, the value has reached WB, or QD, the value is at or below 0. -/
def Obligations.CountersCountRisingEdges : Prop :=
  ∀ (p : Place) (s : State) (l : Lane) (w : Word) (v : Int), laneRuns p.val s = true → laneAt p.val s = l →
    linesIntact p.val [w.toNat, w.toNat + 1] s → w.toNat < 0xFFFFF → mapWf 0 s.solver.store = true → inWindow p.val w.toNat s = true →
    inWindow p.val (w.toNat + 1) s = true → v = (storeAt w.toNat s).toInt →
    ∀ (up counts : Bool) (c : Instr) (x : Int),
      c = (if up then .ctu p { word := w } else .ctd p { word := w }) →
      counts = (l.acc && !(storeAt (w.toNat + 1) s).getLsbD (if up then 19 else 18) && !decide (w.toNat ∈ s.change.maskCounters)) →
      x = (if counts then clamped false (v + if up then 1 else -1) else v) →
      ∃ t, exec c s = .next t ∧ (storeAt w.toNat t).toInt = x ∧
        (laneAt p.val t).acc = (if up then decide (l.wb.toInt ≤ x) else decide (x ≤ 0)) ∧
        (storeAt (w.toNat + 1) t).getLsbD (if up then 19 else 18) = l.acc ∧
        (storeAt (w.toNat + 1) t).getLsbD (if up then 18 else 19) = (storeAt (w.toNat + 1) s).getLsbD (if up then 18 else 19) ∧
        (storeAt (w.toNat + 1) t).getLsbD 17 = decide (l.wb.toInt ≤ x) ∧ (storeAt (w.toNat + 1) t).getLsbD 16 = decide (x ≤ 0) ∧
        (∀ a, a ≠ w.toNat → a ≠ w.toNat + 1 → storeAt a t = storeAt a s) ∧
        (laneAt p.val t).sat = (l.sat || (counts && decide (v = if up then 524287 else -524288))) ∧
        (laneAt p.val t).path = l.path + 6 ∧ t.modes = s.modes

/-- Branch stack (R88, R132, Table 5-4): BR saves ACC; BCA, BCO and BCX combine the saved result with ACC, inverted by N, and
drop it; BRT restores it and keeps it. A push onto 16 entries and a pop from none are a break: FAULT 0x1102 on a tandem, a
solo fault elsewhere. -/
def Obligations.BranchStack : Prop :=
  ∀ (p : Place) (s : State) (l : Lane), laneRuns p.val s = true → linesIntact p.val [] s → laneAt p.val s = l →
    (l.branch.length < 16 → exec (.br p) s = .next (withLane p.val (spent 1 { l with branch := l.acc :: l.branch }) s)) ∧
    (∀ b r, l.branch = b :: r → ∀ n,
      exec (.bca p n) s = .next (withLane p.val (spent 1 { l with branch := r, acc := b && (l.acc != n) }) s) ∧
      exec (.bco p n) s = .next (withLane p.val (spent 1 { l with branch := r, acc := b || (l.acc != n) }) s) ∧
      exec (.bcx p n) s = .next (withLane p.val (spent 1 { l with branch := r, acc := b != (l.acc != n) }) s) ∧
      exec (.brt p) s = .next (withLane p.val (spent 1 { l with acc := b }) s)) ∧
    (s.modes.mode ≠ .off → s.modes.mode ≠ .fault → mapWf {} s.solver.places = true →
      ∀ c, (c = .br p ∧ 16 ≤ l.branch.length) ∨ (l.branch = [] ∧ c ∈ [Instr.bca p false, .bco p false, .bcx p false, .brt p]) →
        ∃ t, exec c s = .next t ∧ t.solver.store = s.solver.store ∧
          (p.val < 16 → t.modes.mode = .fault ∧ t.modes.cause = 0x1102 ∧ t.diag.detail = p.val * 2 ^ 24 + l.pc.toNat) ∧
          (16 ≤ p.val → t.modes = s.modes ∧ laneAt p.val t = {} ∧
            t.solver.failedLanes = s.solver.failedLanes ||| (1#32 <<< (p.val - 16))))

/-- Control flow (R85, R88, R93, R139): jumps set PC to their target when taken; CALL and RET keep return address and branch
depth, up to four deep; LOOP and ENDL repeat the body; END counts the path and hands the place to its next partition. -/
def Obligations.ControlFlow : Prop :=
  ∀ (p : Place) (s : State) (l : Lane), laneRuns p.val s = true → linesIntact p.val [] s → laneAt p.val s = l →
    let moved (t : State) (k : Lane) (cost : Nat) : Prop := laneAt p.val t = { k with
      window := l.window + cost
      path := l.path + cost
      sigLead := (laneAt p.val t).sigLead
      sigTrail := (laneAt p.val t).sigTrail } ∧ t.solver.store = s.solver.store ∧ t.modes = s.modes
    (∀ a : Word,
      (∃ t, exec (.jmp p a) s = .next t ∧ moved t { l with pc := a } 2) ∧
      (∃ t, exec (.jc p a) s = .next t ∧ moved t { l with pc := if l.acc then a else l.pc + 1 } 2) ∧
      (∃ t, exec (.jnc p a) s = .next t ∧ moved t { l with pc := if l.acc then l.pc + 1 else a } 2) ∧
      (l.calls.length < 4 → ∃ t, exec (.call p a) s = .next t ∧
        moved t { l with pc := a, calls := (l.pc + 1, l.branch.length) :: l.calls } 3) ∧
      (l.loops.length < 4 → ∃ t, exec (.loop p a) s = .next t ∧
        moved t { l with pc := l.pc + 1, loops := { remaining := a.toNat, index := 0, body := l.pc + 1 } :: l.loops } 2)) ∧
    (∀ a d r, l.calls = (a, d) :: r → l.branch.length = d →
      ∃ t, exec (.ret p) s = .next t ∧ moved t { l with pc := a, calls := r } 3) ∧
    (∀ e r, l.loops = e :: r →
      (1 < e.remaining → ∃ t, exec (.endl p) s = .next t ∧ moved t { l with
        pc := e.body
        loops := { e with remaining := e.remaining - 1, index := e.index + 1 } :: r } 2) ∧
      (e.remaining = 1 → ∃ t, exec (.endl p) s = .next t ∧ moved t { l with pc := l.pc + 1, loops := r } 2)) ∧
    (16 ≤ p.val → l.branch = [] → l.calls = [] → l.loops = [] → l.waiting = [] → s.modes.mode ≠ .fault →
      mapWf {} s.solver.places = true → ∀ n, l.running = some n → l.sat = false →
      ∃ t, exec (.endP p) s = .next t ∧ t.solver.lastPath = mapPut 0 n (l.path + 7) s.solver.lastPath ∧
        laneAt p.val t = { posts := l.posts } ∧ t.solver.store = s.solver.store ∧ t.solver.saturations = s.solver.saturations) ∧
    (p.val < 16 → s.modes.mode ≠ .off → s.modes.mode ≠ .fault → l.branch ≠ [] →
      ∃ t, exec (.endP p) s = .next t ∧ t.modes.mode = .fault ∧ t.modes.cause = 0x1102)

/-- Posting of local outputs (R144, R145, R404): FENCE costs 128 solver cycles and latches what has been posted, on a tandem
after its signatures have agreed; the oldest post whose window has passed reaches its channel, and no other post moves. -/
def Obligations.PostsReachTheOutputs : Prop :=
  (∀ (p : Place) (s : State), laneRuns p.val s = true → linesIntact p.val [] s →
     (p.val < 16 → streamFree p.val s ∧ (laneAt p.val s).sigLead = (laneAt p.val s).sigTrail) →
     ∃ t, exec (.fence p) s = .next t ∧ (laneAt p.val t).pc = (laneAt p.val s).pc + 1 ∧
       (laneAt p.val t).path = (laneAt p.val s).path + 128 ∧
       (laneAt p.val t).posts = (if p.val < 16 then [] else (laneAt p.val s).posts.filter fun q => !q.passed) ∧
       (p.val < 16 → (laneAt p.val t).window = 0) ∧ t.solver.store = s.solver.store ∧ t.modes = s.modes) ∧
  (∀ (p : Place) (s : State) q r, (laneAt p.val s).posts = q :: r → mapWf {} s.solver.places = true →
     (q.passed = true → ∃ t, exec (.xchPostLatch p) s = .next t ∧ laneAt p.val t = { laneAt p.val s with posts := r } ∧
       t.localIo = (latchWord q.address.toNat q.value s).localIo ∧ t.solver.store = s.solver.store ∧ t.modes = s.modes) ∧
     (q.passed = false → exec (.xchPostLatch p) s = .next s)) ∧
  ∀ (p : Place) (s : State), laneRuns p.val s = true → linesIntact p.val [] s → (p.val < 16 → streamFree p.val s) →
    s.localIo.underProgram = true → ∀ (k : Fin 8) (v : Word), v ≠ 0 →
    (16 ≤ p.val → (laneAt p.val s).posts = [{ address := BitVec.ofNat 20 (0x0F040 + k.val), value := v, passed := true }] →
      (∃ t, exec (.fence p) s = .next t ∧ (analogOut (k.val + 1) t).value = v ∧ (laneAt p.val t).posts = [] ∧
        (laneAt p.val t).path = (laneAt p.val s).path + 128 ∧ t.solver.store = s.solver.store) ∧
      ∃ t, exec (.xchPostLatch p) s = .next t ∧ (analogOut (k.val + 1) t).value = v ∧ (laneAt p.val t).posts = [] ∧
        (laneAt p.val t).pc = (laneAt p.val s).pc ∧ t.solver.store = s.solver.store) ∧
    (p.val < 16 → (laneAt p.val s).posts = [{ address := BitVec.ofNat 20 (0x0F040 + k.val), value := v, passed := false }] →
      ((laneAt p.val s).sigLead = (laneAt p.val s).sigTrail →
        ∃ t, exec (.fence p) s = .next t ∧ (analogOut (k.val + 1) t).value = v ∧ (laneAt p.val t).posts = [] ∧
          (laneAt p.val t).window = 0 ∧ t.modes = s.modes) ∧
      ((laneAt p.val s).sigLead ≠ (laneAt p.val s).sigTrail → s.modes.mode ≠ .off → s.modes.mode ≠ .fault →
        ∃ t, exec (.fence p) s = .next t ∧ t.modes.mode = .fault ∧ t.modes.cause = 0x1101))

/-- The MRAM mirror (R117, R194, R230): a journal record is committed whole and the pending one follows it, the records that a
fall-back took before its switch boundary first; a new base takes the place of the old one; a fall-back that no change holds
any more is released; a standby whose base follows a resynchronisation is synchronised. -/
def Obligations.MirrorEngine : Prop :=
  ∀ s : State,
    (fallbackWrites s = none → s.solver.mirror.writing = none → exec .mirrorRecordCommitted s = .next s) ∧
    (∀ m r, s.change.fallback = some m → m.writing = some r → ∃ t n, exec .mirrorRecordCommitted s = .next t ∧
      t.change.fallback = some n ∧ n.journal = m.journal ++ [r] ∧ n.writing = m.pendingRecord ∧ n.base = m.base ∧
      t.solver = s.solver) ∧
    (∀ r, fallbackWrites s = none → s.solver.mirror.writing = some r →
      (((s.solver.mirror.journal ++ [r]).map mirrorBytes).sum ≤ journalRoom →
        exec .mirrorRecordCommitted s = .next { s with
          solver.mirror.journal := s.solver.mirror.journal ++ [r]
          solver.mirror.writing := s.solver.mirror.pendingRecord
          solver.mirror.pendingRecord := none }) ∧
      (journalRoom < ((s.solver.mirror.journal ++ [r]).map mirrorBytes).sum → s.solver.mirror.newBase = none →
        ∃ t, exec .mirrorRecordCommitted s = .next t ∧ t.solver.mirror.journal = s.solver.mirror.journal ++ [r] ∧
          t.solver.mirror.newBase = some (s.solver.mirror.image,
            { cycle := r.cycle, time := r.time
              words := mirrorState { s.solver.mirror with journal := s.solver.mirror.journal ++ [r] } }))) ∧
    (s.solver.mirror.newBase = none → exec .mirrorBaseComplete s = .next s) ∧
    (∀ i r, s.solver.mirror.newBase = some (i, r) →
      ∃ t, exec .mirrorBaseComplete s = .next t ∧ t.solver.mirror.image = i ∧ t.solver.mirror.valid = true ∧
        t.solver.mirror.base = r.words ∧ t.solver.mirror.baseCycle = r.cycle ∧ t.solver.mirror.baseAt = r.time ∧
        t.solver.mirror.newBase = none ∧
        t.solver.mirror.writing = s.solver.mirror.writing ∧ t.solver.store = s.solver.store ∧
        (s.change.state = .ready ∨ s.change.state = .empty → t.change.fallback = none) ∧
        (s.change.state = .switched → t.change.fallback = s.change.fallback) ∧
        (s.pair.resyncBase = true → t.pair.standby = .synchronised) ∧
        (s.pair.resyncBase = false → t.pair = s.pair))

/-- Loading and discarding a change (R178–R181): an image is taken in ACTIVE and SOLO in four change states and goes to the
slot that does not hold the stored program, and into the shadow bank; in every other state the write is refused with result 2;
the load ends in REFUSED with shadow bank and slot cleared, in LOADED while a partner is in STANDBY, in READY in SOLO; the
standby's report makes it READY or raises the alarm; a discard empties it. Confirming and undoing a change (R190, R193): the
first command in SWITCHED waits for its boundary, an expired deadline counts as an undo unless 0x2040:08 is 0, and in any
other state the command is refused with result 2. -/
def Obligations.OnlineChange : Prop :=
  (∀ (s : State) (i : Image),
     (s.modes.mode = .active ∨ s.modes.mode = .solo →
       s.change.state = .empty ∨ s.change.state = .refused ∨ s.change.state = .loaded ∨ s.change.state = .ready →
       ∃ t, exec (.changeImageWrite i) s = .next t ∧ t.change.state = .loading ∧ t.change.loadingImage = some i ∧
         flashSlot (otherSlot s) t = some i ∧ flashSlot s.change.storedSlot t = flashSlot s.change.storedSlot s ∧
         activeImage t = activeImage s ∧ shadowImage t = some i ∧ t.solver.store = s.solver.store ∧ t.modes = s.modes) ∧
     (s.change.state = .switchPending ∨ s.change.state = .switched ∨ s.change.state = .confirmPending ∨
         s.change.state = .undoPending →
       exec (.changeImageWrite i) s = .next { s with change.result := 2 } ∧
         exec (.changeDiscard 1) s = .next { s with change.result := 2 }) ∧
     (s.change.state = .loading → s.change.loadingImage = some i →
       ((admitChange i s).1.refused = true ∨ imageLost s = true →
         ∃ t, exec .changeLoadDone s = .next t ∧ t.change.state = .refused ∧ shadowImage t = none ∧
           flashSlot (otherSlot s) t = none ∧ activeImage t = activeImage s ∧ t.cycle.report = (admitChange i s).1) ∧
       ((admitChange i s).1.refused = false → imageLost s = false →
         (s.pair.partner.mode = some 4 →
           ∃ t, exec .changeLoadDone s = .next t ∧ t.change.state = .loaded ∧ shadowImage t = some i ∧
             t.change.standby = 1 ∧ activeImage t = activeImage s) ∧
         (s.pair.partner.mode ≠ some 4 → s.modes.mode = .solo →
           ∃ t, exec .changeLoadDone s = .next t ∧ t.change.state = .ready ∧ shadowImage t = some i ∧
             activeImage t = activeImage s))) ∧
     (s.change.state = .loaded → s.modes.mode = .active →
       (∃ t, exec (.standbyChangeResult (shadowId s) true) s = .next t ∧ t.change.state = .ready ∧ t.change.standby = 2 ∧
         (.standbyChangeRefused, 0) ∉ t.alarms) ∧
       (∃ t, exec (.standbyChangeResult (shadowId s) false) s = .next t ∧ t.change.state = .loaded ∧ t.change.standby = 3 ∧
         (.standbyChangeRefused, 0) ∈ t.alarms) ∧
       ∀ (n : BitVec 32) (b : Bool), n ≠ shadowId s → exec (.standbyChangeResult n b) s = .next s) ∧
     (s.change.state = .loaded ∨ s.change.state = .ready →
       ∃ t, exec (.changeDiscard 1) s = .next t ∧ t.change.state = .empty ∧ t.change.result = 0 ∧ shadowImage t = none ∧
         flashSlot (otherSlot s) t = none ∧ flashSlot s.change.storedSlot t = flashSlot s.change.storedSlot s ∧
         activeImage t = activeImage s ∧ t.solver.store = s.solver.store)) ∧
  (∀ s : State,
     (s.change.state = .switched →
       (∃ t, exec .confirmCommand s = .next t ∧ t.change.state = .confirmPending ∧ t.change.result = 1 ∧
         t.change.ripe = false ∧ .changeConfirm ∈ t.modes.triggers ∧ t.solver = s.solver ∧ t.modes.mode = s.modes.mode) ∧
       (∃ t, exec .undoCommand s = .next t ∧ t.change.state = .undoPending ∧ t.change.result = 1 ∧
         t.change.ripe = false ∧ .changeUndo ∈ t.modes.triggers ∧ t.solver = s.solver ∧ t.modes.mode = s.modes.mode) ∧
       (setConfirmationDeadline s.nsp.settings ≠ 0 → exec .confirmationDeadline s = exec .undoCommand s) ∧
       (setConfirmationDeadline s.nsp.settings = 0 → exec .confirmationDeadline s = .next s)) ∧
     (s.change.state ≠ .switched →
       exec .confirmCommand s = .next { s with change.result := 2 } ∧
         exec .undoCommand s = .next { s with change.result := 2 } ∧ exec .confirmationDeadline s = .next s))

/-- Precedence on a seam lane (R202, R203): control blocks, then retransmissions, then weft blocks, then service blocks; a
block that has started is never interrupted; a full buffer of 256 unacknowledged blocks holds new blocks back; a service
transfer goes out 1,024 bytes a block, behind the blocks that a failed lane left (R201, R204). The end of a block on the line
(R202, R213): the lane is free, and after the last weft block the BOUNDARY goes out at once where the supervisor island has
released the cycle, else it waits for the release. -/
def Obligations.SeamSending : Prop :=
  (∀ (l : Fin 2) (s : State),
     ((seamLane l s).sending.isSome = true → pumpLane l s = s) ∧
     ((seamLane l s).sending = none → (seamLane l s).lock = true → islandUp 7 s = true →
       (∀ m r, (seamLane l s).control = m :: r → (seamLane l s).unacked.length < 256 →
         (seamLane l (pumpLane l s)).sending = some { controlBlock m with laneSeq := (seamLane l s).txSeq } ∧
           (seamLane l (pumpLane l s)).control = r ∧ (seamLane l (pumpLane l s)).txSeq = (seamLane l s).txSeq + 1 ∧
           (pumpLane l s).seam.weftTx = s.seam.weftTx) ∧
       (∀ q r u, (seamLane l s).control = [] → (seamLane l s).resend = q :: r →
         (seamLane l s).unacked.find? (fun u => u.block.laneSeq == q) = some u →
         (seamLane l (pumpLane l s)).sending = some u.block ∧ (seamLane l (pumpLane l s)).txSeq = (seamLane l s).txSeq ∧
           (seamLane l (pumpLane l s)).retransmissions = satU32 ((seamLane l s).retransmissions + 1) ∧
           (pumpLane l s).seam.weftTx = s.seam.weftTx) ∧
       ((seamLane l s).control = [] → (seamLane l s).resend = [] → (seamLane l s).inService = true →
         (seamLane l s).unacked.length < 256 →
         (∀ b r, s.seam.weftTx = b :: r → (seamLane l s).weftReady = true →
           (seamLane l (pumpLane l s)).sending = some { b with laneSeq := (seamLane l s).txSeq } ∧
             (pumpLane l s).seam.weftTx = r ∧ (pumpLane l s).seam.serviceTx = s.seam.serviceTx) ∧
         (∀ b r, s.seam.weftTx = [] → s.seam.serviceBlocks = b :: r →
           (seamLane l (pumpLane l s)).sending = some { b with laneSeq := (seamLane l s).txSeq } ∧
             (pumpLane l s).seam.serviceBlocks = r ∧ (pumpLane l s).seam.serviceTx = s.seam.serviceTx) ∧
         (∀ x r, s.seam.weftTx = [] → s.seam.serviceBlocks = [] → s.seam.serviceTx = x :: r →
           (seamLane l (pumpLane l s)).sending = some { serviceBlock x s with laneSeq := (seamLane l s).txSeq } ∧
             ((serviceBlock x s).last = true → (pumpLane l s).seam.serviceTx = r ∧ (pumpLane l s).seam.serviceOffset = 0) ∧
             ((serviceBlock x s).last = false → (pumpLane l s).seam.serviceTx = x :: r ∧
               (pumpLane l s).seam.serviceOffset = s.seam.serviceOffset + 1024))) ∧
       ((seamLane l s).resend = [] → 256 ≤ (seamLane l s).unacked.length → pumpLane l s = s))) ∧
  (∀ (s : State) (l : Fin 2) (t : Nat),
     ((seamLane l s).sending = none → exec (.seamBlockTransmitted l t) s = .next s) ∧
     ((seamLane l s).sending.isSome = true → (seamLane (otherLane l) s).sending = none → s.seam.weftTx = [] →
       s.seam.serviceTx = [] → s.seam.serviceBlocks = [] → s.seam.lane0.control = [] → s.seam.lane1.control = [] → s.seam.lane0.resend = [] →
       s.seam.lane1.resend = [] →
       (s.pair.weftOpen = false →
         exec (.seamBlockTransmitted l t) s = .next (modSeamLane l (fun x => { x with sending := none }) (atTime t s))) ∧
       (∀ f, s.pair.weftOpen = true → s.pair.lastWeft = some f →
         (cycleReleased f.cycle s = false →
           ∃ u, exec (.seamBlockTransmitted l t) s = .next u ∧ u.pair.weftOpen = false ∧ u.pair.boundaryDue = true ∧
             (seamLane l u).sending = none ∧ u.pair.history = s.pair.history) ∧
         (cycleReleased f.cycle s = true →
           ∃ u, exec (.seamBlockTransmitted l t) s = .next u ∧ u.pair.weftOpen = false ∧ u.pair.boundaryDue = false ∧
             u.pair.history.head?.map (·.result) =
               some (if dramLost (Config.historyPlace (s.pair.historyCount % 1048576)) 64 s then 7 else 0) ∧
             u.pair.seamPath.txSeq = s.pair.seamPath.txSeq + 1))))

/-- Reception on a seam lane (R201, R203, R204): a lane without block lock hears nothing, and over a closed crossing a block
is lost and counted (R319); a block that fails its CRC, or has another type, is counted and answered at once, and the 65th
within 1 ms fails the lane; a block received before is acknowledged and not handed on again; a control block in order is
handed on and raises the number expected next; a whole weft frame is kept by a synchronised standby. Acknowledgement (R203,
R204): an ACK frees the blocks up to its number; an owed ACK goes out with the timer; a block without acknowledgement is
resent, and fails its lane once it has been sent four times. -/
def Obligations.SeamReception : Prop :=
  (∀ (s : State) (l : Fin 2) (b : SeamBlock) (t : Nat),
     (∀ ok, (seamLane l s).lock = false → exec (.seamBlockReceived l b ok t) s = .next (atTime t s)) ∧
     (∀ ok, (seamLane l s).lock = true → islandUp 7 s = true → crossingOpen 10 s = false →
       exec (.seamBlockReceived l b ok t) s = .next (closedWrite 10 (atTime t s))) ∧
     ((seamLane l s).lock = true → islandUp 7 s = true → crossingOpen 10 s = true →
       (∀ ok, ok = false ∨ b.type = 0 ∨ 3 < b.type →
         ((recentErrors (seamLane l s).crcTimes (max s.network.time.now t)).length < 64 →
           ∃ u, exec (.seamBlockReceived l b ok t) s = .next u ∧
             (seamLane l u).crcErrors = satU32 ((seamLane l s).crcErrors + 1) ∧ (seamLane l u).ackOwed = 0 ∧
             (seamLane l u).failed = (seamLane l s).failed ∧ (seamLane l u).rxNext = (seamLane l s).rxNext ∧
             u.seam.handed = s.seam.handed ∧ u.pair.frames = s.pair.frames) ∧
         (64 ≤ (recentErrors (seamLane l s).crcTimes (max s.network.time.now t)).length → (seamLane l s).failed = false →
           ∃ u, exec (.seamBlockReceived l b ok t) s = .next u ∧ (seamLane l u).failed = true ∧
             (seamLane l u).inService = false ∧ (.seamLaneFailed, l.val) ∈ u.alarms ∧
             u.seam.laneFailures = satU32 (s.seam.laneFailures + 1))) ∧
       (1 ≤ b.type → b.type ≤ 3 →
         (isDuplicate b.laneSeq (seamLane l s) = true →
           exec (.seamBlockReceived l b true t) s =
             .next (ackIfOwed l (modSeamLane l (fun x => { x with ackOwed := x.ackOwed + 1 })
               (noteResent b (seamLane l s) (atTime t s))))) ∧
         (b.laneSeq = (seamLane l s).rxNext → (seamLane l s).rxAhead = [] → (seamLane l s).ackOwed < 7 →
           (b.type = 2 → (parsePair b.payload).kind ≠ 8 →
             ∃ u, exec (.seamBlockReceived l b true t) s = .next u ∧
               u.seam.handed = s.seam.handed ++ [parsePair b.payload] ∧
               (seamLane l u).rxNext = (seamLane l s).rxNext + 1 ∧
               (seamLane l u).ackOwed = (seamLane l s).ackOwed + 1 ∧ u.modes = s.modes) ∧
           (∀ f, b.type = 1 → b.last = true → b.offset = 0 → b.payload ≠ [] → parseWeft b.payload = some f →
             f.flags.getLsbD 3 = false → s.modes.mode = .standby → s.pair.standby = .synchronised →
             s.pair.frames = [] → s.pair.boundaries = [] → s.seam.rxFrames = [] →
             ∃ u, exec (.seamBlockReceived l b true t) s = .next u ∧ u.pair.frames = [f] ∧
               u.pair.committing = s.pair.committing ∧ u.solver.store = s.solver.store ∧ u.modes = s.modes))))) ∧
  (∀ (s : State) (l : Fin 2) (n q : BitVec 16),
     (exec (.ackReceived l n 0xFFFF) s = .next (pumpSeam (modSeamLane l (fun x => { x with
         unacked := x.unacked.filter fun u => decide (32768 ≤ (n - u.block.laneSeq).toNat)
         resend := x.resend.filter fun q => decide (32768 ≤ (n - q).toNat) }) s))) ∧
     ((seamLane l s).ackOwed = 0 → exec (.ackTimer l) s = .next s) ∧
     ((seamLane l s).ackOwed ≠ 0 → ∃ t, exec (.ackTimer l) s = .next t ∧ (seamLane l t).ackOwed = 0 ∧
       t.pair.seamPath.txSeq = s.pair.seamPath.txSeq + 1 ∧ (seamLane l t).rxNext = (seamLane l s).rxNext) ∧
     ((seamLane l s).unacked.find? (fun u => u.block.laneSeq == q) = none → exec (.retransmitTimeout l q) s = .next s) ∧
     (∀ u, (seamLane l s).unacked.find? (fun u => u.block.laneSeq == q) = some u →
       (u.sends < 4 → ∃ t, exec (.retransmitTimeout l q) s = .next t ∧
         (q ∈ (seamLane l t).resend ∨ (seamLane l t).sending = some u.block) ∧
         (seamLane l t).failed = (seamLane l s).failed) ∧
       (4 ≤ u.sends → (seamLane l s).failed = false →
         ∃ t, exec (.retransmitTimeout l q) s = .next t ∧ (seamLane l t).failed = true ∧
           (seamLane l t).inService = false ∧ (.seamLaneFailed, l.val) ∈ t.alarms)))

/-- Block lock, HELLO and the return of a lane (R204, R205): a lane that loses its block lock fails; one that achieves it
starts its numbers anew and sends HELLO; a HELLO of another slot raises the pair mismatch and is counted as dropped, one
without a common format the format mismatch, with no format in use at a new link, and one that passes puts the lane in service
unless it still retrains; what it announces is heard, and a higher jersey supersedes (R222, R225); a retrained lane is in
service again. -/
def Obligations.SeamLaneService : Prop :=
  ∀ (s : State) (l : Fin 2),
    ((seamLane l s).lock = false → exec (.blockLockLoss l) s = .next s) ∧
    ((seamLane l s).lock = true → (seamLane l s).failed = false →
      ∃ t, exec (.blockLockLoss l) s = .next t ∧ (seamLane l t).failed = true ∧ (seamLane l t).lock = false ∧
        (seamLane l t).inService = false ∧ (.seamLaneFailed, l.val) ∈ t.alarms) ∧
    ((seamLane l s).lock = true → (seamLane l s).failed = true →
      ∃ t, exec (.blockLockLoss l) s = .next t ∧ (seamLane l t).failed = true ∧ (seamLane l t).lock = false ∧
        (seamLane l t).helloAccepted = false ∧ t.alarms = s.alarms) ∧
    (∀ n, (seamLane l s).lock = false → islandUp 7 s = true →
      ∃ t, exec (.blockLockAchieved l n) s = .next t ∧ (seamLane l t).lock = true ∧ (seamLane l t).helloAccepted = false ∧
        (seamLane l t).rxNext = 0 ∧ (seamLane l t).failed = (seamLane l s).failed ∧ t.seam.roundTrip = n ∧
        t.pair.seamPath.txSeq = s.pair.seamPath.txSeq + 1) ∧
    ((seamLane l s).failed = true → (seamLane l s).lock = true → (seamLane l s).helloAccepted = true →
      ∃ t, exec (.laneRetrainDone l) s = .next t ∧ (seamLane l t).failed = false ∧ (seamLane l t).inService = true ∧
        ((seamLane l t).weftReady = true ↔ weftMode s = false) ∧ (.seamLaneFailed, l.val) ∉ t.alarms) ∧
    ((seamLane l s).failed = false → exec (.laneRetrainDone l) s = .next s) ∧
    (∀ m : PairMsg, (seamLane l s).lock = true → (seamLane l s).helloAccepted = false →
      (some m.slot ≠ partnerSlotOf s →
        ∃ t, exec (.hello l m) s = .next t ∧ t.seam.pairMismatch = true ∧ (.pairMismatch, 0) ∈ t.alarms ∧
          (seamLane l t).inService = (seamLane l s).inService ∧ (seamLane l t).helloAccepted = false ∧
          t.pair.seamPath.dropped = satU32 (s.pair.seamPath.dropped + 1)) ∧
      (∀ lo hi f, some m.slot = partnerSlotOf s → m.pairId = pairIdentity s → m.pairId ≠ 0 → m.arg = .formats lo hi f →
        newLink s = true ∨ messageAccepted .seam m true s = true → s.firmware.pairState = 0 → s.pair.handover = none →
        (nspUp s = true → solving s.modes.mode = true → 5 ≤ m.mode → m.mode ≤ 8 → s.pair.jersey < m.jersey →
          ∃ t, exec (.hello l m) s = .next t ∧ t.modes.mode = .fault ∧ t.modes.cause = 0x1301) ∧
        (nspUp s = true → solving s.modes.mode = false ∨ m.jersey ≤ s.pair.jersey →
          ∃ t, exec (.hello l m) s = .next t ∧ t.pair.partner.jersey = m.jersey ∧ m.jersey ≤ t.pair.heard ∧
            t.pair.seamPath.up = true ∧ t.modes.mode = s.modes.mode) ∧
        (solving s.modes.mode = false ∨ m.jersey ≤ s.pair.jersey → commonFormat lo.toNat hi.toNat s = 0 →
          ∃ t, exec (.hello l m) s = .next t ∧ t.seam.formatMismatch = true ∧ (.weftFormatMismatch, 0) ∈ t.alarms ∧
            (seamLane l t).inService = (seamLane l s).inService ∧
            t.seam.format = (if newLink s then 0 else s.seam.format)) ∧
        (solving s.modes.mode = false ∨ m.jersey ≤ s.pair.jersey → commonFormat lo.toNat hi.toNat s ≠ 0 →
          ∃ t, exec (.hello l m) s = .next t ∧ (seamLane l t).helloAccepted = true ∧
            (seamLane l t).inService = !(seamLane l s).failed ∧ t.seam.format = commonFormat lo.toNat hi.toNat s ∧
            t.seam.formatMismatch = false ∧ t.front.partnerSlot = some m.slot)))

/-- Sending on the pair paths (R208): heartbeats go out in the modes of Table 3-1 and take the next SEQ of their path; a fault
declaration is repeated until none is left; no other mode sends any. A pair message of another pair, another slot, or on the
network without a valid CMAC is dropped and counted on its path (R209). -/
def Obligations.PairMessagesSentAndDropped : Prop :=
  (∀ (s : State) (t : Nat),
     (sendsHeartbeats s = true → seamUp s = true →
       ∃ u, exec (.seamHeartbeatTimer t) s = .next u ∧ u.pair.seamPath.txSeq = s.pair.seamPath.txSeq + 1 ∧
         u.pair.netPath = s.pair.netPath ∧ u.modes = s.modes ∧ u.network.ports = s.network.ports) ∧
     (sendsHeartbeats s = false ∨ seamUp s = false → exec (.seamHeartbeatTimer t) s = .next (atTime t s)) ∧
     (sendsHeartbeats s = true →
       ∃ u, exec (.networkHeartbeatTimer t) s = .next u ∧ u.pair.netPath.txSeq = s.pair.netPath.txSeq + 1 ∧
         u.pair.seamPath = s.pair.seamPath ∧ u.modes = s.modes ∧ u.seam = s.seam) ∧
     (sendsHeartbeats s = false → exec (.networkHeartbeatTimer t) s = .next (atTime t s)) ∧
     (s.modes.mode = .fault → 0 < s.pair.faultRepeats →
       ∃ u, exec (.faultDeclarationRepeat t) s = .next u ∧ u.pair.faultRepeats = s.pair.faultRepeats - 1 ∧
         u.pair.netPath.txSeq = s.pair.netPath.txSeq + 1 ∧ u.pair.seamPath.txSeq = s.pair.seamPath.txSeq + 1) ∧
     (s.pair.faultRepeats = 0 → exec (.faultDeclarationRepeat t) s = .next (atTime t s))) ∧
  (∀ (s : State) (p : PairPath) (m : PairMsg) (ok : Bool) (t : Nat), nspUp s = true →
     m.pairId ≠ pairIdentity s ∨ some m.slot ≠ partnerSlotOf s ∨ (p = .network ∧ ok = false) →
     ∀ c ∈ [Instr.heartbeat p m ok t, .fault p m ok t, .leaving p m ok t, .handoverConfirm p m ok t],
       ∃ u, exec c s = .next u ∧ (pathOf p u).dropped = satU32 ((pathOf p s).dropped + 1) ∧
         (pathOf p u).up = (pathOf p s).up ∧ (pathOf p u).last = (pathOf p s).last ∧ u.modes = s.modes ∧
         u.pair.partner = s.pair.partner ∧ u.solver = s.solver ∧ u.cycle = s.cycle)

/-- An accepted pair message (R209, R217, R225): its path is up, what it announces is noted; on an active module a higher
jersey that announces an active mode is FAULT 0x1301, and FAULT or LEAVING of the partner brings SOLO at the next boundary; a
declaration makes a standby that is still synchronised by what it reports take over with the checkpoint's jersey plus one; one
that shows a missing frame ends its synchronisation (R215), and an unsynchronised standby remembers the declaration. Loss of a
path (R209, R217, Table 8-6): with the other path up an alarm and a count, on the seam after a declaration the alarm of a
takeover that is not possible; with both lost a synchronised standby takes over, an unsynchronised one stays in STANDBY with
an alarm, and an active module goes on in SOLO. -/
def Obligations.PairMessagesActed : Prop :=
  (∀ (s : State) (p : PairPath) (m : PairMsg) (t : Nat), nspUp s = true → messageAccepted p m true s = true →
     (s.modes.mode = .standby ∨ s.modes.mode = .stop →
       ∃ u, exec (.heartbeat p m true t) s = .next u ∧ (pathOf p u).up = true ∧ (pathOf p u).last = some (m.send, m.seq) ∧
         u.pair.partner.jersey = m.jersey ∧ u.pair.partner.sync = m.sync ∧ s.pair.heard ≤ u.pair.heard ∧
         m.jersey ≤ u.pair.heard) ∧
     (s.modes.mode = .active → 5 ≤ m.mode → m.mode ≤ 8 → s.pair.jersey < m.jersey →
       ∃ u, exec (.heartbeat p m true t) s = .next u ∧ u.modes.mode = .fault ∧ u.modes.cause = 0x1301 ∧
         u.diag.detail = m.jersey.toNat ∧ u.diag.latch = true) ∧
     (s.modes.mode = .active → m.mode = 9 ∨ m.mode = 10 →
       ∃ u, exec (.heartbeat p m true t) s = .next u ∧ .partnerGone ∈ u.modes.triggers ∧ u.modes.mode = .active) ∧
     (s.modes.mode = .active → m.mode = 10 →
       ∃ u, exec (.fault p m true t) s = .next u ∧ .partnerGone ∈ u.modes.triggers ∧ u.modes.mode = .active) ∧
     (s.modes.mode = .active → m.mode = 4 →
       ∃ u, exec (.leaving p m true t) s = .next u ∧ .partnerGone ∈ u.modes.triggers ∧ u.modes.mode = .active ∧
         u.pair.partner.left = true ∧ u.pair.partner.mode = none) ∧
     (∀ h, s.modes.mode = .handover → s.pair.handover = some h → h.endedAt = none → m.kind = 4 → m.jersey = h.nextJersey →
       ∃ u, exec (.handoverConfirm p m true t) s = .next u ∧ u.pair.handover = some { h with confirmed := true } ∧
         u.modes.mode = .handover) ∧
     (∀ c, s.modes.mode = .standby → s.pair.checkpoint = some c →
       (∀ x, s.pair.standby = .synchronised → s.pair.committing = none → m.kind = 2 → m.arg = .fault x →
           c.jersey = m.jersey → holdsCycle (m.cycle - 1) s = true →
         ∃ u, exec (.fault p m true t) s = .next u ∧ (u.modes.mode = .solo ∨ u.modes.mode = .fault) ∧
           u.pair.jersey = c.jersey + 1 ∧ u.pair.takeovers = s.pair.takeovers + 1 ∧ u.cycle.counter = c.cycle + 1 ∧
           u.solver.plan = c.plan ∧ u.pair.standby = .none) ∧
       (∀ x, s.pair.standby = .synchronised → m.kind = 2 → m.arg = .fault x → c.jersey = m.jersey →
           holdsCycle (m.cycle - 1) s = false →
         ∃ u, exec (.fault p m true t) s = .next u ∧ u.modes.mode = .standby ∧ u.pair.standby = .unsynchronised ∧
           u.pair.takeovers = s.pair.takeovers) ∧
       (s.pair.standby = .unsynchronised → m.kind = 2 → c.jersey = m.jersey →
         (p = .network → s.pair.seamPath.up = false →
           ∃ u, exec (.fault p m true t) s = .next u ∧ u.modes.mode = .standby ∧ (.takeoverNotPossible, 0) ∈ u.alarms) ∧
         (s.pair.seamPath.up = true →
           ∃ u, exec (.fault p m true t) s = .next u ∧ u.modes.mode = .standby ∧ u.pair.declared = true)))) ∧
  (∀ (s : State) (p : PairPath) (t : Nat),
     ((pathOf p s).up = false → exec (.pathLost p t) s = .next (atTime t s)) ∧
     ((pathOf p s).up = true →
       (p = .seam → s.pair.netPath.up = true → s.modes.mode = .standby → s.pair.standby ≠ .synchronised →
         s.pair.declared = true → ∃ u, exec (.pathLost p t) s = .next u ∧ (.takeoverNotPossible, 0) ∈ u.alarms ∧
           u.pair.seamPath.up = false ∧ u.modes = s.modes) ∧
       ((pathOf (match p with | .seam => .network | .network => .seam) s).up = true →
         (p = .network ∨ s.modes.mode ≠ .standby ∨ s.pair.standby = .synchronised ∨ s.pair.declared = false) →
         ∃ u, exec (.pathLost p t) s = .next u ∧ (pathOf p u).up = false ∧ (pathOf p u).last = none ∧
           u.pair.singlePath = satU32 (s.pair.singlePath + 1) ∧
           (match p with | .seam => .seamLinkDown | .network => .networkHeartbeatLost, 0) ∈ u.alarms ∧
           u.modes = s.modes ∧ u.pair.standby = s.pair.standby) ∧
       ((pathOf (match p with | .seam => .network | .network => .seam) s).up = false →
         (s.modes.mode = .active →
           ∃ u, exec (.pathLost p t) s = .next u ∧ (pathOf p u).up = false ∧ .partnerGone ∈ u.modes.triggers ∧
             u.modes.mode = .active ∧ u.pair.partner.mode = none) ∧
         (s.modes.mode = .standby → s.pair.standby = .unsynchronised ∨ s.pair.standby = .resynchronising →
           ∃ u, exec (.pathLost p t) s = .next u ∧ u.modes.mode = .standby ∧ (.takeoverNotPossible, 0) ∈ u.alarms) ∧
         (∀ c, s.modes.mode = .standby → s.pair.standby = .synchronised → s.pair.committing = none →
           s.pair.checkpoint = some c →
           ∃ u, exec (.pathLost p t) s = .next u ∧ (u.modes.mode = .solo ∨ u.modes.mode = .fault) ∧
             u.pair.jersey = c.jersey + 1 ∧ u.cycle.counter = c.cycle + 1 ∧ u.solver.plan = c.plan ∧
             u.pair.takeovers = s.pair.takeovers + 1))))

/-- Commits of the standby (R214, R215, R226, R229): a BOUNDARY with its frame in hand starts the commit of the cycle after
the checkpoint; one with ABANDONED makes the standby unsynchronised; the commit that completes is the new checkpoint; frame
and BOUNDARY of a handover cycle make the standby ACTIVE with NEXT_JERSEY; a HANDOVER that no one confirmed is aborted. -/
def Obligations.CommitsAndHandover : Prop :=
  ∀ (s : State) (t : Nat),
    (∀ (m : PairMsg) n, s.modes.mode = .standby → s.pair.standby = .synchronised →
      messageAccepted .seam m true s = true →
      (m.arg = .boundary n true →
        ∃ u, exec (.boundary m t) s = .next u ∧ u.pair.standby = .unsynchronised ∧ u.pair.frames = [] ∧
          u.modes.mode = .standby) ∧
      (∀ f c, m.arg = .boundary n false → m.mode = 5 → s.pair.checkpoint = some c → f.cycle = c.cycle + 1 →
        m.cycle = f.cycle → s.pair.frames = [f] → s.pair.boundaries = [] → s.pair.committing = none →
        (f.flags.getLsbD 3 = false →
          ∃ u b, exec (.boundary m t) s = .next u ∧ u.pair.committing = some (f, b) ∧ u.pair.frames = [] ∧
            u.pair.boundaries = [] ∧ u.solver.store = s.solver.store ∧ u.modes.mode = .standby) ∧
        (f.flags.getLsbD 3 = true →
          ∃ u, exec (.boundary m t) s = .next u ∧ (u.modes.mode = .active ∨ u.modes.mode = .fault) ∧
            u.pair.jersey = f.nextJersey ∧ u.cycle.counter = f.cycle + 1 ∧ u.pair.standby = .none))) ∧
    (∀ f b, s.pair.committing = some (f, b) → s.modes.mode = .standby → s.pair.standby = .synchronised →
      s.pair.frames = [] → f.flags &&& 0x57 = 0 → s.change.confirmDue = false →
      ∃ u, exec (.weftCommitDone t) s = .next u ∧ u.pair.committing = none ∧ u.cycle.counter = f.cycle ∧
        u.pair.jersey = f.jersey ∧ u.solver.plan = f.plan ∧ u.nsp.generation = f.generation ∧
        u.pair.checkpoint.map (·.cycle) = some f.cycle ∧ u.modes.mode = .standby ∧
        ∀ w, storeAt w u = storeAt w (writeFrame f s)) ∧
    (s.pair.committing = none → exec (.weftCommitDone t) s = .next (atTime t s)) ∧
    (∀ h, s.modes.mode = .handover → s.pair.handover = some h → h.endedAt.isSome = true → h.confirmed = false →
      s.front.extractionWaiting = false → s.nsp.commit ≠ .held →
      ∃ u, exec (.handoverAbort t) s = .next u ∧ u.pair.handover = none ∧ u.pair.aborted = s.pair.aborted + 1 ∧
        u.cycle.counter = s.cycle.counter + 1 ∧
        (u.modes.mode = activeOrSolo s ∧ u.modes.transCause = 0x0009 ∨ u.modes.mode = .fault) ∧
        u.pair.jersey = s.pair.jersey)

/-- Resynchronisation (R230): an unsynchronised standby asks for one on the seam, not while its lever is open; the active
module notes the request for its next boundary; the stored configuration opens it, the plan and the end of the service part
follow; a transfer that is not intact refuses it; one that lasts too long raises the alarm. -/
def Obligations.Resynchronisation : Prop :=
  ∀ (s : State) (t : Nat),
    (s.modes.mode = .standby → s.pair.standby = .unsynchronised → seamUp s = true → pairRefused s = false →
      (s.front.leverOpen = false → ∃ u, exec (.resyncRequestTimer t) s = .next u ∧
        u.pair.seamPath.txSeq = s.pair.seamPath.txSeq + 1 ∧ u.pair.standby = .unsynchronised) ∧
      (s.front.leverOpen = true → exec (.resyncRequestTimer t) s = .next (atTime t s))) ∧
    (∀ m, s.modes.mode = .active → m.mode = 4 → messageAccepted .seam m true s = true →
      ∃ u, exec (.resyncRequest m t) s = .next u ∧ u.pair.resyncWanted = true ∧ u.pair.partner.left = false ∧
        u.pair.partner.mode = some 4 ∧ u.pair.seamPath.up = true ∧ u.modes.mode = .active) ∧
    (s.modes.mode = .standby → pairRefused s = false →
      (∀ g f nums blobs, s.pair.standby = .unsynchronised → s.pair.resyncAccepted = false →
        s.firmware.main.cfgLo ≤ f → f ≤ s.firmware.main.cfgHi →
        ∃ u, exec (.serviceTransferReceived (.configuration g f nums blobs) true) s = .next u ∧
          u.pair.standby = .resynchronising ∧ u.pair.resyncLines = 0 ∧ u.nsp.generation = g) ∧
      (s.pair.standby = .resynchronising →
        (∀ p, exec (.serviceTransferReceived (.plan p) true) s = .next { takeTransfer s with solver.plan := p.val }) ∧
        (∃ u, exec (.serviceTransferReceived .resyncEnd true) s = .next u ∧ u.pair.resyncAccepted = true ∧
          (.resyncRefused, 0) ∉ u.alarms) ∧
        (∀ p, ∃ u, exec (.serviceTransferReceived (.plan p) false) s = .next u ∧ u.pair.standby = .unsynchronised ∧
          (.resyncRefused, 0) ∈ u.alarms ∧ u.solver.plan = s.solver.plan) ∧
        ∃ u, exec .resyncSlow s = .next u ∧ (.resyncSlow, 0) ∈ u.alarms ∧ u.pair = s.pair)) ∧
    (s.modes.mode = .solo → s.pair.standby = .none → s.pair.partner.mode = none → exec .resyncSlow s = .next s)

/-- The supervisor's monitors of clocks, rails and temperature (R241–R243, R313, R314, Tables 9-2, 12-1): counts in band
change no mode, a count out of band, of an island that runs or that is held after SELFTEST has released it, stops that island
and is FAULT 0x1011; a deviation above its limit raises the alarm of its island; the reference, the oscillator and the mask
ROM have FAULT 0x1701, 0x1001 and 0x1002; the second sample of a rail outside its band is FAULT 0x1021 or 0x1022; a junction
raises its alarm at 110 °C and is FAULT 0x1031 at the second reading of 125 °C. The window watchdog (R240, R494): the latch is
set, islands 1, 4, 5 and 7 are held in reset and the module is in FAULT 0x1003 without a declaration; a supervisor that has
been found stopped monitors nothing more. -/
def Obligations.SupervisorAndWatchdog : Prop :=
  (∀ s : State, supervisorUp s = true →
     (∀ counts : List Nat, counts.length = 8 →
       ((∀ p ∈ ([1, 2, 3, 4, 5, 6, 7, 9] : List Nat).zip counts, inBand p.1 p.2 = true) →
         ∃ t, exec (.clockMonitorInterval counts) s = .next t ∧ t.modes = s.modes ∧ t.alarms = s.alarms ∧
           ∀ p ∈ ([1, 2, 3, 4, 5, 6, 7, 9] : List Nat).zip counts,
             (island p.1 t).count = p.2 ∧ (islandUp p.1 s = true → (island p.1 t).state = 2)) ∧
       (∀ p ∈ ([1, 2, 3, 4, 5, 6, 7, 9] : List Nat).zip counts, judged p.1 s = true → inBand p.1 p.2 = false →
         s.modes.mode ≠ .fault →
         ∃ t, exec (.clockMonitorInterval counts) s = .next t ∧ t.modes.mode = .fault ∧ t.modes.cause = 0x1011 ∧
           (island p.1 t).state = 3)) ∧
     (∀ ppm : List Int, ppm.length = 9 → ∀ p ∈ (rangeFrom 1 9).zip ppm, p.2 ≠ 0 →
       ∃ t, exec (.clockDeviationCheck ppm) s = .next t ∧ (island p.1 t).deviation = p.2 ∧ t.modes = s.modes ∧
         (setDeviationLimit s.nsp.settings p.1 ≠ 0 → setDeviationLimit s.nsp.settings p.1 < p.2.natAbs →
           (.clockDeviation, p.1) ∈ t.alarms)) ∧
     (∀ (edges rc : Nat) (d : Int),
       (s.modes.mode ≠ .fault → 200 < d.natAbs →
         ∃ t, exec (.referenceCheck edges rc d) s = .next t ∧ t.modes.mode = .fault ∧ t.modes.cause = 0x1001 ∧
           t.diag.detail = (BitVec.ofInt 32 d).toNat) ∧
       (s.modes.mode ≠ .fault → d.natAbs ≤ 200 → edges = 0 → inBand 9 rc = true →
         ∃ t, exec (.referenceCheck edges rc d) s = .next t ∧ t.modes.mode = .fault ∧ t.modes.cause = 0x1701) ∧
       (d.natAbs ≤ 200 → edges ≠ 0 → exec (.referenceCheck edges rc d) s = .next s)) ∧
     exec (.maskRomRecheck true) s = .next s ∧
     (s.modes.mode ≠ .fault → ∃ t, exec (.maskRomRecheck false) s = .next t ∧ t.modes.mode = .fault ∧ t.modes.cause = 0x1002) ∧
     (∀ mv : List Nat, mv.length = 6 →
       ((∀ p ∈ (rangeFrom 1 6).zip mv, (railBand p.1).1 ≤ p.2 ∧ p.2 ≤ (railBand p.1).2) →
         ∃ t, exec (.railSample mv) s = .next t ∧ t.modes = s.modes ∧ t.alarms = s.alarms) ∧
       (s.modes.mode ≠ .fault → ∀ p ∈ (rangeFrom 1 6).zip mv,
         0 < (mapVal {} p.1 s.diag.rails : Rail).low ∨ 0 < (mapVal {} p.1 s.diag.rails : Rail).high →
         (p.2 < (railBand p.1).1 → ∃ t, exec (.railSample mv) s = .next t ∧ t.modes.mode = .fault ∧ t.modes.cause = 0x1021) ∧
         ((railBand p.1).2 < p.2 → ∃ t, exec (.railSample mv) s = .next t ∧ t.modes.mode = .fault ∧
           (t.modes.cause = 0x1021 ∨ t.modes.cause = 0x1022)))) ∧
     (∀ c : List Int, c.length = 4 →
       ((∀ x ∈ c, x < 110) → ∃ t, exec (.junctionRead c) s = .next t ∧ t.modes = s.modes ∧ t.alarms = s.alarms) ∧
       (∀ p ∈ (rangeFrom 1 4).zip c, 110 ≤ p.2 →
         ∃ t, exec (.junctionRead c) s = .next t ∧ (.temperatureHigh, p.1) ∈ t.alarms ∧
           (125 ≤ p.2 → 1 ≤ mapVal 0 p.1 s.diag.hot → s.modes.mode ≠ .fault →
             t.modes.mode = .fault ∧ t.modes.cause = 0x1031)))) ∧
  (∀ s : State,
     (s.modes.mode ≠ .off → s.modes.mode ≠ .fault → s.diag.watchdogHeld = false → mapWf {} s.islands.islands = true →
       ∃ t, exec .windowWatchdogExpiry s = .next t ∧ t.modes.mode = .fault ∧ t.modes.cause = 0x1003 ∧ t.diag.latch = true ∧
         t.diag.watchdogHeld = true ∧ t.pair.faultRepeats = 0 ∧
         ∀ n ∈ ([1, 4, 5, 7] : List Nat), (island n t).state = 0) ∧
     (s.diag.watchdogHeld = true → ∀ c ∈ [Instr.windowWatchdogExpiry, .maskRomRecheck false, .referenceCheck 0 160 0,
       .clockMonitorInterval [0], .railSample [0], .junctionRead [130], .clockDeviationCheck [900]], exec c s = .next s))

/-- Scrubbing (R245–R248, Table 9-3): a queued rewrite goes first; a clean line moves the scrubber on by its width; a
corrected one is counted, and at its third pass raises the alarm; an uncorrectable line of the data store, the program store
and the SRAM is FAULT 0x1103, 0x1104 and 0x1107; a pass that ends starts over, and one that took longer than its bound raises
the alarm. DRAM (R261): a channel that loses its training is out of service, with its alarm. -/
def Obligations.ScrubbingAndTraining : Prop :=
  (∀ (s : State) (k : Fin 5), scrubs k.val s = true →
     (∀ n q r, (scrubber k.val s).rewrites = q :: r →
       exec (.scrubStep k n) s = .next (rewriteLine k.val q (modScrubber k.val (fun x => { x with rewrites := r }) s))) ∧
     ((scrubber k.val s).rewrites = [] → mapWf 0 s.diag.upsets = true →
         (scrubWidth k.val = 2 → upsetOf k.val ((scrubber k.val s).next + 1) s = 0) →
       ((scrubber k.val s).next + scrubWidth k.val < scrubLines k.val →
         (upsetOf k.val (scrubber k.val s).next s = 0 → (scrubber k.val s).started = true →
           exec (.scrubStep k []) s =
             .next (modScrubber k.val (fun x => { x with next := x.next + scrubWidth k.val }) s)) ∧
         ∀ n, 1 ≤ n → n ≤ 2 →
           ∃ t, exec (.scrubStep k [n]) s = .next t ∧ upsetOf k.val (scrubber k.val s).next t = 0 ∧
             (scrubber k.val t).next = (scrubber k.val s).next + scrubWidth k.val ∧ t.modes = s.modes ∧
             mapVal 0 (scrubber k.val s).next (scrubber k.val t).corrected =
               mapVal 0 (scrubber k.val s).next (scrubber k.val s).corrected + 1 ∧
             (k.val = 0 → t.diag.dataCorrections = satU32 (s.diag.dataCorrections + 1)) ∧
             (k.val = 2 → t.diag.sramCorrections = satU32 (s.diag.sramCorrections + 1)) ∧
             (2 ≤ mapVal 0 (scrubber k.val s).next (scrubber k.val s).corrected →
               (.persistentCorrection, 0) ∈ t.alarms ∧ t.diag.persistentLine = (scrubber k.val s).next)) ∧
       (∀ n, 3 ≤ n → s.modes.mode ≠ .off → s.modes.mode ≠ .fault → k.val ≤ 2 →
         ∃ t, exec (.scrubStep k [n]) s = .next t ∧ t.modes.mode = .fault ∧
           t.modes.cause = ([0x1103, 0x1104, 0x1107] : List Nat).getD k.val 0) ∧
       (scrubLines k.val ≤ (scrubber k.val s).next + scrubWidth k.val →
           upsetOf k.val (scrubber k.val s).next s = 0 → (scrubber k.val s).started = true →
         ∃ t, exec (.scrubStep k []) s = .next t ∧ (scrubber k.val t).next = 0 ∧
           (scrubber k.val t).passStart = s.network.time.now ∧
           (scrubber k.val t).passTime = s.network.time.now - (scrubber k.val s).passStart ∧
           (scrubBound k.val < s.network.time.now - (scrubber k.val s).passStart → (.scrubBehind, 0) ∈ t.alarms ∧
             t.diag.overruns = satU32 (s.diag.overruns + 1))))) ∧
  (∀ (s : State) (k : Fin 2),
     (s.hub.channels.getLsbD k.val = true →
       ∃ t, exec (.dramTrainingLoss k) s = .next t ∧ t.hub.channels.getLsbD k.val = false ∧
         (.dramChannelOutOfService, k.val) ∈ t.alarms ∧ t.hub.dram = s.hub.dram ∧ t.modes = s.modes) ∧
     (s.hub.channels.getLsbD k.val = false → exec (.dramTrainingLoss k) s = .next s))

/-- Hub accesses (R154, R259, R290, R297, Tables 10-1, 11-8): a permitted access of a range that accepts it reads or writes
the bytes, where the data store is the cycle engine's it waits for the end of the XCH phase and is done there (R154), and a
write over a closed crossing is lost and counted (R319); a range that does not is a decode error; one that the rules refuse
changes no memory, answers zeros and makes a notice, and of a solver engine or the cycle engine is FAULT 0x1602; a register
write is an access of four bytes. -/
def Obligations.HubAccesses : Prop :=
  ∀ (s : State) (m a n : Nat) (data : List Byte), islandUp 2 s = true → isMaster m = true → m ≠ 0x58 → noChainWaits s →
      reaches m a s →
    (checkAccess m false a n s = none → accepted false a n = true → targetOf a = .sram → accessIntact a n s →
      exec (.hubRequest { master := m, write := false, address := a, size := n, data := [] } 0) s =
        .next { s with hub.answer := readCells a n s.hub.sram }) ∧
    (checkAccess m true a data.length s = none → accepted true a data.length = true → accessIntact a data.length s →
      (targetOf a = .sram →
        exec (.hubRequest { master := m, write := true, address := a, size := data.length, data := data } 0) s =
          .next { s with
            hub.sram := writeCells a data s.hub.sram
            hub.answer := [] }) ∧
      (targetOf a = .mram →
        exec (.hubRequest { master := m, write := true, address := a, size := data.length, data := data } 0) s =
          .next { s with
            hub.mram := writeCells a data s.hub.mram
            hub.answer := [] }) ∧
      (targetOf a = .dram → windowClosed 3 s = false → dramDown a data.length s = false →
        exec (.hubRequest { master := m, write := true, address := a, size := data.length, data := data } 0) s =
          .next { s with
            hub.dram := writeCells a data s.hub.dram
            hub.answer := [] }) ∧
      (targetOf a = .dram → windowClosed 3 s = true →
        exec (.hubRequest { master := m, write := true, address := a, size := data.length, data := data } 0) s =
          .next { closedWrite 6 s with hub.answer := [] }) ∧
      (targetOf a = .dataStore → slotOwned s = true → ownsSlot m = false → windowClosed 1 s = false →
        exec (.hubRequest { master := m, write := true, address := a, size := data.length, data := data } 0) s =
          .next { s with hub.waiting :=
            s.hub.waiting ++ [({ master := m, write := true, address := a, size := data.length, data := data }, 0)] }) ∧
      (targetOf a = .dataStore → s.cycle.phase = .xch → windowClosed 1 s = false → mapWf 0 s.solver.store = true →
        s.hub.waiting = [({ master := m, write := true, address := a, size := data.length, data := data }, 0)] →
        (∀ n, (session n s).held = []) → (∀ p ∈ s.hub.locks, p.2.releasing = false) →
        ∃ t, exec .xchPhaseEnd s = .next t ∧ t.cycle.phase = .solve ∧ t.hub.waiting = [] ∧ t.modes = s.modes ∧
          ∀ w, storeAt w t = if w = (a - 0x310000000) / 4 then BitVec.ofNat 20 (ofLe data) else storeAt w s)) ∧
    (checkAccess m false a n s = none → accepted false a n = false → (dmaEngine (m - 0x40) s).running = false →
      exec (.hubRequest { master := m, write := false, address := a, size := n, data := [] } 0) s = .next { s with
        hub.decodeErrors := satU32 (s.hub.decodeErrors + 1)
        hub.lastDecodeMaster := m
        hub.answer := leBytes n 0 }) ∧
    (∀ v, checkAccess m false a n s = some v → (dmaEngine (m - 0x40) s).running = false →
      ∃ t, exec (.hubRequest { master := m, write := false, address := a, size := n, data := [] } 0) s = .next t ∧
        t.hub.answer = leBytes n 0 ∧ t.hub.sram = s.hub.sram ∧ t.hub.dram = s.hub.dram ∧ t.hub.mram = s.hub.mram ∧
        t.solver.store = s.solver.store ∧ t.protection.notices = satU32 (s.protection.notices + 1) ∧
        t.protection.ring.length = min 16 (s.protection.ring.length + 1) ∧
        ((0x40 ≤ m ∧ m ≤ 0x43) ∨ m = 0x50 → s.modes.mode ≠ .off → s.modes.mode ≠ .fault →
          t.modes.mode = .fault ∧ t.modes.cause = 0x1602 ∧ t.diag.detail = m)) ∧
    (∀ (w : BitVec 36) (v : BitVec 32), exec (.registerWrite m w v) s =
      exec (.hubRequest { master := m, write := true, address := w.toNat, size := 4, data := leBytes 4 v.toNat } 0) s) ∧
    (∀ (k : Fin 4) (p : Fin 10) (v : BitVec 32), portKind k.val p.val = 0 → min (v.toNat % 16) 13 ≠ portBase k.val p.val →
      checkAccess m true (0xF00001000 + 0x100 * k.val + 4 * p.val) 4 s = none →
      reaches m (0xF00001000 + 0x100 * k.val + 4 * p.val) s →
      ∃ t, exec (.registerWrite m (BitVec.ofNat 36 (0xF00001000 + 0x100 * k.val + 4 * p.val)) v) s = .next t ∧
        (arbPort k.val p.val (arbiter k.val t)).baseShadow = min (v.toNat % 16) 13 ∧
        (arbPort k.val p.val (arbiter k.val t)).base = (arbPort k.val p.val (arbiter k.val s)).base)

/-- The debug port (R307, Table 11-15): in IN_SERVICE an access to the protected area, or to a locked range without an unlock,
reads zeros, writes nothing, sets LOCKED_HIT and is counted, and a written 1 clears LOCKED_HIT; in PROVISION a permitted write
acts as any other. DMA chains (R276, R277, R296, Tables 10-12, 10-13): a chain starts at its head and takes no second start
while it runs; a head that is no descriptor's place is a decode error with status 0x10; an uncorrectable descriptor ends with
0x12, once its posted lines have drained; a burst from SRAM to SRAM arrives whole, the descriptor ends with status 1 and LAST
ends the chain; a posted burst drains, and one that the rules refuse ends the chain with 0x11. -/
def Obligations.DebugAndDma : Prop :=
  (∀ (s : State) (w : Bool) (a n : Nat) (data : List Byte), islandUp 2 s = true → noChainWaits s →
     exec (.debugPortAccess true none [1] 1) s = .next { s with
       hub.answer := []
       protection.lockedHit := false } ∧
     (s.protection.lifecycle = .inService → inProtected a n = true ∨ (inLocked a n s = true ∧ s.protection.unlocked = false) →
       exec (.debugPortAccess w (some a) data n) s = .next { s with
         hub.answer := leBytes (if w then 0 else n) 0
         protection.lockedHit := true
         protection.hits := satU32 (s.protection.hits + 1) }) ∧
     (s.protection.lifecycle = .provision → checkAccess 0x58 true a data.length s = none → accepted true a data.length = true →
       targetOf a = .sram → accessIntact a data.length s →
       exec (.debugPortAccess true (some a) data data.length) s = .next { s with
         hub.sram := writeCells a data s.hub.sram
         hub.answer := [] })) ∧
  (∀ (s : State) (e : Fin 12), noChainWaits s →
     ((dmaEngine e.val s).running = true → ∀ h p, exec (.dmaChainStart e h p) s = .next s) ∧
     ((dmaEngine e.val s).running = false → (dmaEngine e.val s).buffer = [] → islandUp 2 s = true →
       ∀ (h : BitVec 36) (p : Option (Fin 16)),
       (descriptorPlace h.toNat = false →
         ∃ t, exec (.dmaChainStart e h p) s = .next t ∧ (dmaEngine e.val t).running = false ∧
           (dmaEngine e.val t).status = 0x10 ∧ t.hub.decodeErrors = satU32 (s.hub.decodeErrors + 1)) ∧
       (descriptorPlace h.toNat = true → dramDown h.toNat 32 s = false →
         (descriptorAt h.toNat s).flags.getLsbD 1 = false →
         ∃ t, exec (.dmaChainStart e h p) s = .next t ∧ (dmaEngine e.val t).running = true ∧
           (dmaEngine e.val t).starting = false ∧
           (dmaEngine e.val t).current = h.toNat ∧ (dmaEngine e.val t).priv = (p.isNone || decide (e.val < 4)) ∧
           (dmaEngine e.val t).session = p.map (·.val) ∧ t.hub.sram = s.hub.sram ∧ t.hub.dram = s.hub.dram)) ∧
     ((dmaEngine e.val s).running = false → ∀ b, exec (.dmaDescriptorDone e b) s = .next s) ∧
     ((dmaEngine e.val s).running = true → (dmaEngine e.val s).waitingLock = false → (dmaEngine e.val s).ending = none →
       ((dmaEngine e.val s).buffer = [] →
         ∃ t, exec (.dmaDescriptorDone e true) s = .next t ∧ (dmaEngine e.val t).running = false ∧
           (dmaEngine e.val t).status = 0x12 ∧ (dmaEngine e.val t).failed = satU32 ((dmaEngine e.val s).failed + 1)) ∧
       ((dmaEngine e.val s).buffer ≠ [] →
         ∃ t, exec (.dmaDescriptorDone e true) s = .next t ∧ (dmaEngine e.val t).running = true ∧
           (dmaEngine e.val t).ending = some 0x12 ∧ (dmaEngine e.val t).buffer = (dmaEngine e.val s).buffer) ∧
       ((dmaEngine e.val s).buffer = [] → (dmaEngine e.val s).behind = [] → (dmaEngine e.val s).posted = 0 → (dmaEngine e.val s).moved = 0 →
         (dmaEngine e.val s).lockHeld = none → targetOf (dmaEngine e.val s).current = .dram →
         descriptorPlace (dmaEngine e.val s).current = true →
         ∀ d, descriptorOf e.val s = d → d.flags.getLsbD 3 = false → d.flags.getLsbD 4 = true → 0 < d.length → d.length ≤ 20 →
           targetOf d.source = .sram → targetOf d.dest = .sram → accepted false d.source d.length = true →
           accepted true d.dest d.length = true → checkAccess (0x40 + e.val) false d.source d.length s = none →
           checkAccess (0x40 + e.val) true d.dest d.length s = none → accessIntact d.source d.length s →
           accessIntact d.dest d.length s →
           ∃ t, exec (.dmaDescriptorDone e false) s = .next t ∧ (dmaEngine e.val t).running = false ∧
             (dmaEngine e.val t).status = 1 ∧ (dmaEngine e.val t).done = satU32 ((dmaEngine e.val s).done + 1) ∧
             t.hub.sram = writeCells d.dest (readCells d.source d.length s.hub.sram) s.hub.sram) ∧
       (∀ b r, (dmaEngine e.val s).buffer = b :: r → (dmaEngine e.val s).behind = [] →
         targetOf (dmaEngine e.val s).current = .dram → (descriptorOf e.val s).flags.getLsbD 4 = true →
         (descriptorOf e.val s).length ≤ (dmaEngine e.val s).posted → targetOf b.address = .sram →
         (accepted true b.address b.data.length = true → checkAccess (0x40 + e.val) true b.address b.data.length s = none →
           accessIntact b.address b.data.length s →
           ∃ t, exec (.writeBufferDrain e) s = .next t ∧ (dmaEngine e.val t).buffer = r ∧
             (dmaEngine e.val t).moved = (dmaEngine e.val s).moved + b.data.length ∧
             t.hub.sram = writeCells b.address b.data s.hub.sram) ∧
         (∀ v, checkAccess (0x40 + e.val) true b.address b.data.length s = some v →
           ∃ t, exec (.writeBufferDrain e) s = .next t ∧ (dmaEngine e.val t).running = false ∧
             (dmaEngine e.val t).status = 0x11 ∧ t.protection.notices = satU32 (s.protection.notices + 1)))))

/-- Arbitration (R266–R271): the request of the highest level is granted in the tick after the decision, and an aging port
that loses gains a level up to 14; the burst is cut to the port's limit; a fixed-15 request revokes the grant of another port,
whose request is pending whole again; a commit loads the bases; a trip ends the grant, is counted, and on a fixed-15 port is
FAULT 0x1501. Hardware locks (R279–R283): a try of a free lock is granted, of a held one answers 0x10; an acquisition below a
lock that the master holds answers 0x11, one it may not name 0x13; a wait joins the queue, and a release hands the lock to its
head; only the owner releases, once its earlier writes are complete (R276); a wait that times out leaves the queue with 0x12;
sessions acquire and release the lock they selected. -/
def Obligations.ArbitrationAndLocks : Prop :=
  (∀ (s : State) (a : Fin 4) (tick : Nat), (∀ n, (arbPort a.val n (arbiter a.val s)).requests = []) →
     (∀ p q : PortRequest, p.port ≠ q.port → portKind a.val p.port.val ≠ 3 → portKind a.val q.port.val = 0 →
       p.master ∈ portMasters a.val p.port.val → q.master ∈ portMasters a.val q.port.val →
       portLevel a.val q.port.val (arbiter a.val s) < portLevel a.val p.port.val (arbiter a.val s) →
       p.tick < tick → q.tick < tick → (arbiter a.val s).grant = none →
       ∃ t, exec (.arbiterDecision a [p, q] false tick) s = .next t ∧
         (arbiter a.val t).grant = some
           { port := p.port.val, start := tick + 1, request := { master := p.master, lines := p.lines, tick := p.tick }
             burst := min p.lines (burstLimit a.val p.port.val) } ∧
         (arbiter a.val t).lastGranted = p.port.val ∧ (arbPort a.val p.port.val (arbiter a.val t)).losses = 0 ∧
         (arbPort a.val q.port.val (arbiter a.val t)).losses =
           min ((arbPort a.val q.port.val (arbiter a.val s)).losses + 1) 14 ∧
         (arbPort a.val q.port.val (arbiter a.val t)).requests = [{ master := q.master, lines := q.lines, tick := q.tick }]) ∧
     (∀ g, (arbiter a.val s).grant = some g → exec (.arbiterDecision a [] false tick) s = .next s) ∧
     (∀ p : Fin 16, portKind a.val p.val = 0 → (arbPort a.val p.val (arbiter a.val s)).baseShadow ≠ portBase a.val p.val →
       ∃ t, exec (.arbiterCommit a) s = .next t ∧
         (arbPort a.val p.val (arbiter a.val t)).base = (arbPort a.val p.val (arbiter a.val s)).baseShadow ∧
         (arbiter a.val t).grant = (arbiter a.val s).grant ∧
         (arbiter a.val t).commits = ((arbiter a.val s).commits + 1) % 65536 ∧ t.hub.commits = satU32 (s.hub.commits + 1)) ∧
     (∀ (p : PortRequest) (g : ArbGrant), (arbiter a.val s).grant = some g → portKind a.val p.port.val = 2 →
       p.master ∈ portMasters a.val p.port.val → p.tick ≤ tick → g.port < 16 → portKind a.val g.port ≠ 2 → g.start ≤ tick + 1 →
       ∃ t, exec (.fixed15Revoke a p tick) s = .next t ∧
         (arbiter a.val t).grant = some
           { port := p.port.val, start := tick + 2, request := { master := p.master, lines := p.lines, tick := p.tick }
             burst := min p.lines (burstLimit a.val p.port.val) } ∧
         (arbPort a.val g.port (arbiter a.val t)).requests = [g.request] ∧
         (arbPort a.val g.port (arbiter a.val t)).revoked =
           satU16 ((arbPort a.val g.port (arbiter a.val s)).revoked + 1)) ∧
     (∀ p : PortRequest, portKind a.val p.port.val ≠ 2 → exec (.fixed15Revoke a p tick) s = .next s) ∧
     ((arbiter a.val s).grant = none → exec (.arbiterWatchdogTrip a) s = .next s) ∧
     (∀ g, (arbiter a.val s).grant = some g →
       ∃ t, exec (.arbiterWatchdogTrip a) s = .next t ∧ t.hub.trips = satU32 (s.hub.trips + 1) ∧
         t.hub.lastTrip = a.val * 256 + g.port ∧
         (mapWf {} s.hub.arbiters = true → (arbiter a.val t).grant = none) ∧
         (portKind a.val g.port ≠ 2 → t.modes = s.modes) ∧
         (portKind a.val g.port = 2 → s.modes.mode ≠ .off → s.modes.mode ≠ .fault →
           t.modes.mode = .fault ∧ t.modes.cause = 0x1501 ∧ t.diag.detail = a.val * 2 ^ 24 + g.port))) ∧
  (∀ (s : State) (m : Nat) (k : Fin 256),
     (waitsForLock m s = false →
       (mayName m k.val = true → holdsAbove m k.val s = false → (lockAt k.val s).owner = none →
         (∃ t, exec (.lockTry m k) s = .next t ∧ (lockAt k.val t).owner = some m ∧ (lockAt k.val t).abandoned = false ∧
           t.hub.answer = leBytes 4 (if (lockAt k.val s).abandoned then 2 else 1)) ∧
         ∃ t, exec (.lockWait m k) s = .next t ∧ (lockAt k.val t).owner = some m) ∧
       (∀ o, mayName m k.val = true → holdsAbove m k.val s = false → (lockAt k.val s).owner = some o →
         (∃ t, exec (.lockTry m k) s = .next t ∧ t.hub.answer = leBytes 4 0x10 ∧ lockAt k.val t = lockAt k.val s) ∧
         ∃ t, exec (.lockWait m k) s = .next t ∧ (lockAt k.val t).owner = some o ∧
           (lockAt k.val t).queue = (lockAt k.val s).queue ++ [m]) ∧
       (mayName m k.val = true → holdsAbove m k.val s = true →
         ∃ t, exec (.lockTry m k) s = .next t ∧ t.hub.answer = leBytes 4 0x11 ∧ t.hub.locks = s.hub.locks ∧
           t.hub.refusals = satU32 (s.hub.refusals + 1)) ∧
       (mayName m k.val = false →
         ∃ t, exec (.lockTry m k) s = .next t ∧ t.hub.answer = leBytes 4 0x13 ∧ t.hub.locks = s.hub.locks ∧
           t.hub.refusals = satU32 (s.hub.refusals + 1))) ∧
     ((lockAt k.val s).owner ≠ some m →
       exec (.lockRelease m k) s = .next { s with hub.refusals := satU32 (s.hub.refusals + 1) }) ∧
     ((lockAt k.val s).owner = some m → writesOutstanding m s = true →
       ∃ t, exec (.lockRelease m k) s = .next t ∧ (lockAt k.val t).owner = some m ∧ (lockAt k.val t).releasing = true) ∧
     ((lockAt k.val s).owner = some m → writesOutstanding m s = false →
       (∀ w r, (lockAt k.val s).queue = w :: r →
         ∃ t, exec (.lockRelease m k) s = .next t ∧ (lockAt k.val t).owner = some w ∧ (lockAt k.val t).queue = r) ∧
       ((lockAt k.val s).queue = [] → mapWf {} s.hub.locks = true →
         ∃ t, exec (.lockRelease m k) s = .next t ∧ (lockAt k.val t).owner = none)) ∧
     (m ∉ (lockAt k.val s).queue → exec (.lockWaitTimeout m k) s = .next s) ∧
     (m ∈ (lockAt k.val s).queue → (lockAt k.val s).owner ≠ none →
         (∀ p ∈ s.hub.locks, p.2.owner = some m → p.2.releasing = false) →
       ∃ t, exec (.lockWaitTimeout m k) s = .next t ∧ m ∉ (lockAt k.val t).queue ∧
         (lockAt k.val t).owner = (lockAt k.val s).owner ∧ mapVal 0 m t.hub.lockResults = 0x12) ∧
     (∀ n : Fin 16,
       ((session n.val s).phase = .isOpen → selectedLock n.val s = k.val → 64 ≤ k.val →
         (waitsForLock (0x80 + n.val) s = false → holdsAbove (0x80 + n.val) k.val s = false → (lockAt k.val s).owner = none →
           ∃ t, exec (.sessionLockAcquire n 1) s = .next t ∧ (lockAt k.val t).owner = some (0x80 + n.val) ∧
             (session n.val t).acquire = (if (lockAt k.val s).abandoned then 2 else 1)) ∧
         (∀ w r, (lockAt k.val s).owner = some (0x80 + n.val) → writesOutstanding (0x80 + n.val) s = false →
             (lockAt k.val s).queue = w :: r →
           ∃ t, exec (.sessionLockRelease n 1) s = .next t ∧ (lockAt k.val t).owner = some w)) ∧
       ((session n.val s).phase ≠ .isOpen → ∀ v, exec (.sessionLockAcquire n v) s = .next s ∧
         exec (.sessionLockRelease n v) s = .next s)))

/-- Crossings and island resets (R317–R325): a crossing opens once its sides have left reset, those of island 9 last, and four
disagreeing samples are FAULT 0x1702; a side in reset closes it; an access without an answer is counted as failed; a
single-island reset is taken in STOP for islands 4, 5 and 7 alone, not while one is in progress, asserted, released and ended
with the loopback's result; an island that is held until the next restart is not released (R322, R494). -/
def Obligations.CrossingsAndIslandResets : Prop :=
  ∀ (s : State) (x : Fin 18),
    ((crossing (x.val + 1) s).state = 0 → ∀ b, exec (.crossingOpen x b) s = .next s) ∧
    ((crossing (x.val + 1) s).state = 1 → sidesUp (x.val + 1) s = true → othersOpen (x.val + 1) s = false →
      exec (.crossingOpen x true) s = .next s) ∧
    ((crossing (x.val + 1) s).state = 1 → sidesUp (x.val + 1) s = true → othersOpen (x.val + 1) s = true →
      ∃ t, exec (.crossingOpen x true) s = .next t ∧ (crossing (x.val + 1) t).state = 2 ∧
        (crossing (x.val + 1) t).openings = satU32 ((crossing (x.val + 1) s).openings + 1) ∧ t.modes = s.modes) ∧
    ((crossing (x.val + 1) s).state ≠ 0 → s.modes.mode ≠ .off → s.modes.mode ≠ .fault →
      ∃ t, exec (.crossingOpen x false) s = .next t ∧ t.modes.mode = .fault ∧ t.modes.cause = 0x1702 ∧
        t.diag.detail = x.val + 1) ∧
    (sidesUp (x.val + 1) s = true → exec (.crossingClose x) s = .next s) ∧
    (sidesUp (x.val + 1) s = false → mapWf {} s.islands.crossings = true →
      ∃ t, exec (.crossingClose x) s = .next t ∧ (crossing (x.val + 1) t).state = 0) ∧
    (∀ i : Fin 8, (windowClosed (i.val + 1) s = true → exec (.registerAccessTimeout i) s = .next s) ∧
      (windowClosed (i.val + 1) s = false →
        ∃ t, exec (.registerAccessTimeout i) s = .next t ∧ t.hub.answer = [0, 0, 0, 0] ∧
          (crossing (hubCrossing (i.val + 1)) t).accessesFailed =
            satU32 ((crossing (hubCrossing (i.val + 1)) s).accessesFailed + 1))) ∧
    (∀ v : BitVec 8,
      (s.islands.reset.isSome = true → exec (.islandReset v) s = .next s) ∧
      (s.modes.mode ≠ .stop → s.islands.reset = none →
        exec (.islandReset v) s = .next { s with islands.resetResult := 2 }) ∧
      (s.modes.mode = .stop → s.islands.reset = none →
        (v = 4 ∨ v = 5 ∨ v = 7 → exec (.islandReset v) s = .next { s with
          islands.reset := some (v.toNat, .scheduled)
          islands.resetResult := 1 }) ∧
        (v ≠ 4 ∧ v ≠ 5 ∧ v ≠ 7 → exec (.islandReset v) s = .next { s with islands.resetResult := 3 }))) ∧
    (∀ n, n = 4 ∨ n = 5 ∨ n = 7 →
      (s.islands.reset = some (n, .scheduled) → islandUp n s = true → supervisorUp s = true → mapWf {} s.islands.islands = true →
        ∃ t, exec .islandResetAssert s = .next t ∧ t.islands.reset = some (n, .asserted) ∧ (island n t).state = 0 ∧
          (island n t).resets = satU16 ((island n s).resets + 1)) ∧
      (s.islands.reset = some (n, .asserted) → staysHeld n s = true → mapWf {} s.islands.islands = true →
        ∃ t, exec .islandResetRelease s = .next t ∧ t.islands.reset = none ∧ t.islands.resetResult = 4 ∧
          (island n t).state = (island n s).state ∧ (.islandResetFailed, 0) ∈ t.alarms) ∧
      (s.islands.reset = some (n, .asserted) → staysHeld n s = false →
        ∃ t, exec .islandResetRelease s = .next t ∧ t.islands.reset = some (n, .loopback) ∧ (island n t).state = 1) ∧
      (s.islands.reset = some (n, .loopback) →
        exec (.islandResetLoopbackDone true) s = .next { s with
          islands.reset := none
          islands.resetResult := 0 } ∧
        (mapWf {} s.islands.islands = true → staysHeld n s = false →
          ∃ t, exec (.islandResetLoopbackDone false) s = .next t ∧ t.islands.reset = none ∧ t.islands.resetResult = 4 ∧
            (island n t).state = 0 ∧ (.islandResetFailed, 0) ∈ t.alarms)))

/-- Two-party proposals (R300, R301, R310, Table 11-12): a write of an RW2 entry that meets every condition is pending with
the next number, its digest and its proposer, and changes nothing else; without the right it is refused with 3, in STANDBY
with 2; in PROVISION mode it takes effect at once. Confirming, withdrawing and lapsing proposals (R300, R301, Table 11-12): no
such proposal answers 6, the proposer itself 4, another digest 5, and none of them commits; a confirmation by another party
commits, here a cold restart in STOP; the proposer withdraws, and the deadline lapses the proposal. -/
def Obligations.TwoPartyProposals : Prop :=
  (∀ (s : State) (n : Fin 16) (i : BitVec 16) (b : BitVec 8) (v : List Byte) (t : Nat),
     (session n.val s).phase = .isOpen → rw2Fits (i.toNat * 256 + b.toNat) v = true → i.toNat * 256 + b.toNat ≠ 0x500102 →
     (s.modes.mode ≠ .provision → s.protection.lifecycle = .inService →
       (rw2Mode n.val (i.toNat * 256 + b.toNat) (ofLe v) s = true →
         (mayTakePart (session n.val s).party 0 (i.toNat * 256 + b.toNat) s = true →
           rw2Conflict (i.toNat * 256 + b.toNat) (ofLe v) s = false → s.protection.proposals.length < 8 →
           ∃ u p, exec (.rw2Proposal n i b v t) s = .next u ∧ u.protection.proposals = s.protection.proposals ++ [p] ∧
             p.number = s.protection.nextNumber ∧ p.index = i ∧ p.sub = b ∧ p.value = v ∧
             p.proposer = (session n.val s).party ∧ p.digest = rw2Digest (i.toNat * 256 + b.toNat) v s ∧
             p.madeAt = max s.network.time.now t ∧ (session n.val u).twoParty = 1 ∧ u.modes = s.modes ∧
             u.change = s.change ∧ u.protection.parties = s.protection.parties ∧ u.protection.keys = s.protection.keys) ∧
         (mayTakePart (session n.val s).party 0 (i.toNat * 256 + b.toNat) s = false →
           ∃ u, exec (.rw2Proposal n i b v t) s = .next u ∧ (session n.val u).twoParty = 3 ∧
             u.protection.proposals = s.protection.proposals ∧ u.modes = s.modes)) ∧
       (s.modes.mode = .standby →
         ∃ u, exec (.rw2Proposal n i b v t) s = .next u ∧ (session n.val u).twoParty = 2 ∧
           u.protection.proposals = s.protection.proposals)) ∧
     (s.modes.mode = .provision → i = 0x3001 → b = 2 →
       ∃ u, exec (.rw2Proposal n i b v t) s = .next u ∧ mapVal [] (ekey 0x3001 2 0 0) u.protection.keys = v ∧
         u.protection.proposals = s.protection.proposals)) ∧
  (∀ (s : State) (n : Fin 16) (d : BitVec 32) (ok : Bool) (t : Nat), (session n.val s).phase = .isOpen →
     (∀ num : BitVec 16, (∀ p ∈ s.protection.proposals, p.number ≠ num) →
       (∃ u, exec (.proposalConfirm n num d ok t) s = .next u ∧ (session n.val u).twoParty = 6 ∧ u.modes = s.modes ∧
         u.protection.proposals = s.protection.proposals) ∧
       (∃ u, exec (.proposalWithdraw n num) s = .next u ∧ (session n.val u).twoParty = 6 ∧
         u.protection.proposals = s.protection.proposals) ∧
       exec (.proposalDeadline num) s = .next s) ∧
     (∀ p, s.protection.proposals = [p] → max s.network.time.now t < p.madeAt + 60000000000 →
       (p.index = 0x2001 → p.sub = 2 → p.value = [1] → s.modes.mode = .stop → s.supply.powerFail = false →
         s.modes.restartPending = false → hasRight (session n.val s).party 1 s = true →
         ((session n.val s).party = p.proposer →
           ∃ u, exec (.proposalConfirm n p.number d ok t) s = .next u ∧ (session n.val u).twoParty = 4 ∧
             u.protection.proposals = [p] ∧ u.modes = s.modes) ∧
         ((session n.val s).party ≠ p.proposer →
           (d ≠ p.digest → ∃ u, exec (.proposalConfirm n p.number d ok t) s = .next u ∧ (session n.val u).twoParty = 5 ∧
             u.protection.proposals = [p] ∧ u.modes = s.modes) ∧
           (d = p.digest → ∃ u, exec (.proposalConfirm n p.number d ok t) s = .next u ∧ u.protection.proposals = [] ∧
             u.modes.restartPending = true ∧ u.modes.restart = .coldCommand ∧ (session n.val u).twoParty = 0))) ∧
       ((session n.val s).party = p.proposer → s.network.time.now < p.madeAt + 60000000000 →
         ∃ u, exec (.proposalWithdraw n p.number) s = .next u ∧ u.protection.proposals = [] ∧
           (session n.val u).twoParty = 0 ∧ u.modes = s.modes) ∧
       ((session n.val s).party ≠ p.proposer → s.network.time.now < p.madeAt + 60000000000 →
         ∃ u, exec (.proposalWithdraw n p.number) s = .next u ∧ u.protection.proposals = [p] ∧
           (session n.val u).twoParty = 3) ∧
       (∃ u, exec (.proposalDeadline p.number) s = .next u ∧ u.protection.proposals = [] ∧ u.modes = s.modes ∧
         (p.index = 0x5001 → p.sub = 2 → s.protection.stage = .proposed → u.protection.stage = .open))))

/-- The rule set (R302–R304, R311): at its commit point the shadow set becomes the active one and the epoch rises; the end of
the drain frees the shadow set and notes the drain; a write of 1 takes the active set into an open shadow set, and no other
value or stage does. -/
def Obligations.RuleSetCommits : Prop :=
  ∀ s : State,
    (s.protection.stage = .waiting → solving s.modes.mode = false →
      ∃ t, exec .ruleCommitPoint s = .next t ∧ t.protection.active = s.protection.shadow ∧
        t.protection.epoch = s.protection.epoch + 1 ∧ t.protection.stage = .draining ∧
        t.protection.lifecycle = s.protection.lifecycle ∧ t.hub = s.hub) ∧
    (s.protection.stage ≠ .waiting → exec .ruleCommitPoint s = .next s) ∧
    (∀ n, s.protection.stage = .draining → n ≤ 2248 →
      ∃ t, exec (.drainEnd n) s = .next t ∧ t.protection.stage = .open ∧ t.protection.lastDrain = 5 * n / 4 ∧
        t.protection.ruleSession = none ∧ t.protection.active = s.protection.active) ∧
    (∀ n, s.protection.stage ≠ .draining → exec (.drainEnd n) s = .next s) ∧
    (s.protection.stage = .open →
      exec (.revertShadowSet 1) s = .next { s with protection.shadow := s.protection.active }) ∧
    (∀ v, v ≠ 1 ∨ s.protection.stage ≠ .open → exec (.revertShadowSet v) s = .next s)

/-- Links of the plant network ports (R330): a link that goes down is counted and raises its alarm, one that comes up clears
it. Frames on the rings (R329–R332, R429): a frame with an FCS error, or longer than 1,528 bytes, is counted and discarded; a
new frame for the module is handed on once, over an open crossing, and its copy discarded and counted; the module's own
supervision frame closes the ring; entries leave the discard table; supervision frames, and answers to ARP and ICMP requests
for the ring's own address, go out with the next HSR sequence number. -/
def Obligations.RingsAndLinks : Prop :=
  (∀ (s : State) (p : Fin 4), islandUp 4 s = true →
     ((port (p.val + 1) s).link ≠ 0 →
       ∃ t, exec (.linkChange p 0) s = .next t ∧ (port (p.val + 1) t).link = 0 ∧
         (port (p.val + 1) t).losses = satU32 ((port (p.val + 1) s).losses + 1) ∧ (port (p.val + 1) t).line = none ∧
         (.portLinkDown, p.val + 1) ∈ t.alarms ∧ t.modes = s.modes) ∧
     (∃ t, exec (.linkChange p 1) s = .next t ∧ (port (p.val + 1) t).link = 1 ∧
       (port (p.val + 1) t).losses = (port (p.val + 1) s).losses ∧ (.portLinkDown, p.val + 1) ∉ t.alarms) ∧
     (∃ t, exec (.linkChange p 3) s = .next t ∧ (port (p.val + 1) t).link = 3 ∧
       (port (p.val + 1) t).losses = (port (p.val + 1) s).losses ∧
       ((port (p.val + 1) s).link ≠ 3 →
         (port (p.val + 1) t).retrains = satU32 ((port (p.val + 1) s).retrains + 1)))) ∧
  (∀ (s : State) (p : Fin 4) (f : EthFrame) (t : Nat), islandUp 4 s = true →
     ((port (p.val + 1) s).link ≠ 0 →
       (∀ ok, ok = false ∨ 1528 < f.length →
         ∃ u, exec (.networkFrameReceived p f ok t) s = .next u ∧
           (port (p.val + 1) u).errors = satU32 ((port (p.val + 1) s).errors + 1) ∧
           u.network.handed = s.network.handed ∧ u.network.ringA = s.network.ringA ∧ u.network.ringB = s.network.ringB) ∧
       (f.length ≤ 1528 → f.etherType ≠ 0x88F7 →
         (f.source ≠ Config.ringMac (ringOf (p.val + 1)) → f.dest = Config.ringMac (ringOf (p.val + 1)) →
           f.supervision = false → passesOn f s = true →
           (isSeen (ring (ringOf (p.val + 1)) s) f = false →
             (crossingOpen 7 s = false → ∃ u, exec (.networkFrameReceived p f true t) s = .next u ∧
               u.network.handed = s.network.handed ∧
               (crossing 7 u).closedWrites = satU32 ((crossing 7 s).closedWrites + 1)) ∧
             (crossingOpen 7 s = true → ∃ u, exec (.networkFrameReceived p f true t) s = .next u ∧
               u.network.handed = s.network.handed ++ [{ f with mark := receiveStamp (p.val + 1) f.mark s }] ∧
               isSeen (ring (ringOf (p.val + 1)) u) f = true ∧
               (ring (ringOf (p.val + 1)) u).duplicates = (ring (ringOf (p.val + 1)) s).duplicates ∧
               (port (p.val + 1) u).received = (port (p.val + 1) s).received + 1)) ∧
           (isSeen (ring (ringOf (p.val + 1)) s) f = true →
             ∃ u, exec (.networkFrameReceived p f true t) s = .next u ∧ u.network.handed = s.network.handed ∧
               (ring (ringOf (p.val + 1)) u).duplicates =
                 satU32 ((ring (ringOf (p.val + 1)) s).duplicates + 1))) ∧
         (f.source = Config.ringMac (ringOf (p.val + 1)) → f.supervision = true →
           ∃ u, exec (.networkFrameReceived p f true t) s = .next u ∧
             (ring (ringOf (p.val + 1)) u).closed = true ∧ (ring (ringOf (p.val + 1)) u).unreturned = 0 ∧
             u.network.handed = s.network.handed))) ∧
     (∀ (r : Bool) (m : BitVec 48) (q : BitVec 16),
       (∃ u, exec (.discardEntryExpiry r m q) s = .next u ∧
         (ring r u).seen = (ring r s).seen.filter (fun x => !(x.1 == m && x.2.1 == q)) ∧ (ring r u).nodes = (ring r s).nodes ∧
         ring (!r) u = ring (!r) s) ∧
       (∃ u, exec (.supervisionFrameTimer r t) s = .next u ∧ (ring r u).hsrSeq = (ring r s).hsrSeq + 1 ∧
         (ring r u).unreturned = (ring r s).unreturned + 1 ∧
         (ring r u).closed = ((ring r s).closed && (ring r s).unreturned == 0) ∧ ring (!r) u = ring (!r) s) ∧
       (∀ (a : BitVec 32) (data : List Byte), nspUp s = true → crossingOpen 7 s = true →
         (a ≠ 0 → ringAddress s.nsp.inForce r = a.toNat →
           (∃ u, exec (.arpRequest r a m) s = .next u ∧ (ring r u).hsrSeq = (ring r s).hsrSeq + 1 ∧
             ring (!r) u = ring (!r) s) ∧
           (∃ u, exec (.icmpEcho r a m data) s = .next u ∧ (ring r u).hsrSeq = (ring r s).hsrSeq + 1 ∧
             ring (!r) u = ring (!r) s)) ∧
         (ringAddress s.nsp.inForce r ≠ a.toNat →
           exec (.arpRequest r a m) s = .next (takeNet 0x0806 s) ∧
             exec (.icmpEcho r a m data) s = .next (takeNet 0x0800 s)))))

/-- Gate lists and launches (R335, R336, R347, R348): an entry's end makes the entry of the present phase the current one; a
pending list becomes operational at its instant and not before; the guard of the next launch time begins within a frame of it;
at its time a launch frame starts on its idle port; a frame that has left is counted. -/
def Obligations.GatesAndLaunches : Prop :=
  ∀ (s : State) (p : Fin 4) (t : Nat), islandUp 4 s = true → (port (p.val + 1) s).link = 1 →
    (∃ u, exec (.gateEntryEnd p t) s = .next u ∧ (port (p.val + 1) u).gates = (port (p.val + 1) s).gates ∧
      (port (p.val + 1) u).entry = gateIndex (gatePhase (port (p.val + 1) s).gates (timeAt s (max s.network.time.now t)))
        (gateSpans (port (p.val + 1) s).gates.cycleTime (port (p.val + 1) s).gates.entries)) ∧
    (∀ g start, (port (p.val + 1) s).pendingGates = some (g, start) →
      (start ≤ timeAt s (max s.network.time.now t) →
        ∃ u, exec (.gateListChange p t) s = .next u ∧ (port (p.val + 1) u).gates = g ∧
          (port (p.val + 1) u).pendingGates = none ∧ (port (p.val + 1) u).entry = 0 ∧
          (port (p.val + 1) u).gateChanges = (port (p.val + 1) s).gateChanges + 1) ∧
      (timeAt s (max s.network.time.now t) < start → exec (.gateListChange p t) s = .next (atTime t s))) ∧
    (∀ f g l, (port (p.val + 1) s).bank0 = [f] → (port (p.val + 1) s).bank1 = [] → f.launch = some (g, l) →
      (timeAt s (max s.network.time.now t) ≤ l → l ≤ timeAt s (max s.network.time.now t) + guardNs 1 →
        ∃ u, exec (.launchGuard p t) s = .next u ∧ (port (p.val + 1) u).guard = some l ∧
          (port (p.val + 1) u).bank0 = [f]) ∧
      (l ≤ timeAt s (max s.network.time.now t) → frameFree s f = true → (port (p.val + 1) s).line = none →
        s.modes.mode ≠ .handover →
        ∃ u, exec (.launchTime t) s = .next u ∧ (port (p.val + 1) u).line = some f ∧ (port (p.val + 1) u).bank0 = [])) ∧
    (∀ f, (port (p.val + 1) s).line = some f → s.modes.mode ≠ .handover → (port (p.val + 1) s).bank0 = [] →
      (port (p.val + 1) s).bank1 = [] → (port (p.val + 1) s).queues = [] →
      ∃ u, exec (.frameTransmitted p t) s = .next u ∧ (port (p.val + 1) u).line = none ∧
        (port (p.val + 1) u).sent = (port (p.val + 1) s).sent + 1) ∧
    ((port (p.val + 1) s).line = none → exec (.frameTransmitted p t) s = .next (atTime t s)) ∧
    (∃ u, exec .lateLaunchClear s = .next u ∧ (.lateLaunch, 0) ∉ u.alarms ∧ u.network = s.network)

/-- The time base (R339–R343, Table 13-3): a Sync of the followed domain keeps it locked, and the eighth within 100 ns locks
it; an offset above 1 ms is stepped in STOP alone and raises the alarm in a solving mode; a lost domain that no other replaces
is HOLDOVER, and the end of the holdover is FREE; a commanded step acts in STOP with a good domain. -/
def Obligations.TimeBase : Prop :=
  ∀ (s : State) (d : Fin 2) (gm : BitVec 64) (off : Int) (t : Nat),
    (domainRuns (d.val + 1) s = true →
      (s.network.time.selected = d.val + 1 →
        (s.network.time.state = 2 → (off - s.network.time.offset).natAbs ≤ 100 →
          ∃ u, exec (.syncReceived d gm off t) s = .next u ∧ u.network.time.state = 2 ∧
            (domainOf (d.val + 1) u).good = true ∧ (domainOf (d.val + 1) u).grandmaster = gm ∧
            (domainOf (d.val + 1) u).offset = off ∧ u.modes = s.modes) ∧
        (s.network.time.state = 1 → (off - s.network.time.offset).natAbs ≤ 100 → 7 ≤ s.network.time.within →
          ∃ u, exec (.syncReceived d gm off t) s = .next u ∧ u.network.time.state = 2) ∧
        (s.network.time.state = 2 → 1000000 < (off - s.network.time.offset).natAbs →
          (s.modes.mode = .stop →
            ∃ u, exec (.syncReceived d gm off t) s = .next u ∧ u.network.time.offset = off ∧
              u.network.time.steps = s.network.time.steps + 1) ∧
          (s.modes.mode = .active ∨ s.modes.mode = .solo ∨ s.modes.mode = .standby →
            ∃ u, exec (.syncReceived d gm off t) s = .next u ∧ u.network.time.offset = s.network.time.offset ∧
              u.network.time.state = 3 ∧ (.timeOffsetTooLarge, 0) ∈ u.alarms))) ∧
      (s.network.time.state = 1 ∨ s.network.time.state = 2 → s.network.time.selected ≠ d.val + 1 →
        ∃ u, exec (.syncReceived d gm off t) s = .next u ∧ (domainOf (d.val + 1) u).good = true ∧
          (domainOf (d.val + 1) u).offset = off ∧ u.network.time.offset = s.network.time.offset ∧
          u.network.time.state = s.network.time.state)) ∧
    ((domainOf (d.val + 1) s).good = false → exec (.syncReceiptTimeout d) s = .next s) ∧
    ((domainOf (d.val + 1) s).good = true → s.network.time.state = 2 → s.network.time.selected = d.val + 1 →
      (domainOf (otherDomain (d.val + 1)) s).good = false →
      ∃ u, exec (.syncReceiptTimeout d) s = .next u ∧ (domainOf (d.val + 1) u).good = false ∧ u.network.time.state = 3 ∧
        u.network.time.offset = s.network.time.offset) ∧
    (s.network.time.state = 3 → ∃ u, exec .holdoverExpiry s = .next u ∧ u.network.time.state = 0 ∧
      u.network.time.selected = 0) ∧
    (s.network.time.state ≠ 3 → exec .holdoverExpiry s = .next s) ∧
    (∀ q, setPreferredDomain s.nsp.settings = q → q = 1 ∨ q = 2 → setRevertive s.nsp.settings = true →
      (domainOf q s).good = true → (domainOf q s).goodSince + 10000000000 ≤ s.network.time.now →
      s.network.time.state = 2 → s.network.time.selected = otherDomain q → (offsetFrom q s).natAbs ≤ 1000000 →
      ∃ u, exec .domainRevert s = .next u ∧ u.network.time.selected = q ∧ u.network.time.state = 1 ∧
        u.network.time.offset = s.network.time.offset) ∧
    (s.modes.mode = .stop → s.network.time.selected = d.val + 1 → (domainOf (d.val + 1) s).good = true →
      ∃ u, exec (.timeStep 1) s = .next u ∧ u.network.time.offset = (domainOf (d.val + 1) s).offset ∧
        u.network.time.steps = s.network.time.steps + 1) ∧
    (s.modes.mode ≠ .stop → exec (.timeStep 1) s = .next s) ∧
    (∀ (p : Fin 4) (n : Nat), n ≠ 0 → linkCarries (port (p.val + 1) s) = true → islandUp 4 s = true →
      (cfgDomainPorts s.nsp.inForce (d.val + 1)).testBit p.val = true →
      ∃ u, exec (.peerDelayTimer p n) s = .next u ∧ mapVal 0 (p.val + 1) (domainOf (d.val + 1) u).linkDelay = n ∧
        u.modes = s.modes) ∧
    (domainRuns (d.val + 1) s = true → (domainOf (d.val + 1) s).good = false →
      (cfgPriority1 s.nsp.inForce (d.val + 1) < 255 →
        ∃ u, exec (.grandmasterSyncTimer d t) s = .next u ∧
          (domainOf (d.val + 1) u).syncSent = (domainOf (d.val + 1) s).syncSent + 1) ∧
      (255 ≤ cfgPriority1 s.nsp.inForce (d.val + 1) → exec (.grandmasterSyncTimer d t) s = .next (atTime t s)))

/-- Station frames that R383 discards: one without a valid CMAC, one that repeats the last SEQ and one of a session not
accepted are counted and change neither the station's state nor its session, its SEQ or its latest input. Accepted station
frames (R383, R384, R396, R398): an ANNOUNCE of a first session opens it and notes what it announces; an INPUT is the latest
of its station and brings a DROPPED one back to JOINING; an EVENT enters the intake queue of its class; a LEAVING makes the
station ABSENT; each shows the frame's jersey. A frame that meets the closed crossing of island 4 is lost and counted (R10,
R319), and an ANNOUNCE before step 5 of LOAD is not taken (R61). -/
def Obligations.StationFrames : Prop :=
  (∀ (s : State) (f : StationFrame) (ok : Bool) (t : Nat), islandUp 4 s = true → crossingOpen 7 s = false →
     ∀ c ∈ [Instr.announce f ok t, .input f ok t, .event f ok t, .stationLeaving f ok t, .guestAnnounce f ok t,
       .guestInput f ok t], exec c s = .next (closedWrite 7 (takeStationFrame t s))) ∧
  (∀ (s : State) (f : StationFrame) (ok : Bool) (t : Nat), islandUp 4 s = true → crossingOpen 7 s = true →
     s.modes.loadStepsDone = false →
     ∀ c ∈ [Instr.announce f ok t, .guestAnnounce f ok t], exec c s = .next (takeStationFrame t s)) ∧
  (∀ (s : State) (f : StationFrame) (ok : Bool) (t : Nat), islandUp 4 s = true → crossingOpen 7 s = true →
     s.modes.loadStepsDone = true → isConfigured f.station s = true →
     ∀ p ∈ [(kindAnnounce, Instr.announce f ok t), (kindInput, .input f ok t), (kindEvent, .event f ok t),
       (kindLeaving, .stationLeaving f ok t)], formOk p.1 f s = true →
       (ok = false ∨ ((station f.station s).session = some f.session ∧ (station f.station s).seq = some f.seq) ∨
         ((station f.station s).session = none ∧ p.1 ≠ kindAnnounce)) →
       ∃ u, exec p.2 s = .next u ∧ (station f.station u).rejected = satU32 ((station f.station s).rejected + 1) ∧
         (station f.station u).state = (station f.station s).state ∧
         (station f.station u).session = (station f.station s).session ∧
         (station f.station u).seq = (station f.station s).seq ∧
         (station f.station u).latest = (station f.station s).latest ∧
         (station f.station u).jersey = (station f.station s).jersey ∧ u.modes = s.modes) ∧
  (∀ (s : State) (f : StationFrame) (t : Nat), islandUp 4 s = true → crossingOpen 7 s = true →
     s.modes.loadStepsDone = true → isConfigured f.station s = true →
     (formOk kindAnnounce f s = true → (station f.station s).session = none →
       ∃ u, exec (.announce f true t) s = .next u ∧ (station f.station u).session = some f.session ∧
         (station f.station u).seq = some f.seq ∧ (station f.station u).mac = f.source ∧
         (station f.station u).announce = some (announceOf f.payload) ∧ (station f.station u).latest = none ∧
         (station f.station u).jersey = f.jersey ∧
         (station f.station u).state =
           (if announceMatches s.nsp.inForce f.station (announceOf f.payload) then .joining else .mismatch)) ∧
     (∀ q, (station f.station s).session = some f.session → (station f.station s).seq = some q →
       1 ≤ (f.seq - q).toNat → (f.seq - q).toNat ≤ 32767 →
       (formOk kindInput f s = true →
         (delayCheck (cfgStationClass s.nsp.inForce f.station) f.time (timeAt s t) s).2 = true →
         bufferLost f.station s = false → s.modes.mode ≠ .standby →
         ∃ u, exec (.input f true t) s = .next u ∧ (station f.station u).seq = some f.seq ∧
           (station f.station u).latest = some { cycle := f.cycle, state := f.state, jersey := f.jersey, payload := f.payload
                                                 stamp := t } ∧
           (station f.station u).everComplete = true ∧ (station f.station u).jersey = f.jersey ∧
           (station f.station u).state =
             (if (station f.station s).state = .dropped then .joining else (station f.station s).state) ∧
           (s.modes.mode = .active → s.pair.jersey < f.jersey → u.modes.mode = .fault ∧ u.modes.cause = 0x1301)) ∧
       (formOk kindEvent f s = true →
         (delayCheck (cfgStationClass s.nsp.inForce f.station) f.time (timeAt s t) s).2 = true →
         (loom (cfgStationClass s.nsp.inForce f.station) s).intake.length < 1024 →
         ∃ u r, exec (.event f true t) s = .next u ∧ (station f.station u).seq = some f.seq ∧
           (loom (cfgStationClass s.nsp.inForce f.station) u).intake =
             (loom (cfgStationClass s.nsp.inForce f.station) s).intake ++ [r] ∧
           r.key.toNat = fieldLe 0 4 f.payload ∧ r.reporter = BitVec.ofNat 16 f.station ∧ r.stamp = timeAt s t) ∧
       (formOk kindLeaving f s = true →
         ∃ u, exec (.stationLeaving f true t) s = .next u ∧ (station f.station u).state = .absent ∧
           (station f.station u).session = some f.session ∧ (station f.station u).jersey = f.jersey)))

/-- The station's deadlines (R386, R393): the input timeout makes a station that is JOINING or IN_SERVICE DROPPED and counts
it, and leaves any other as it is; a slow resynchronisation raises the alarm while the station is JOINING. Guests (R173,
R387): an unplanned station's ANNOUNCE takes the lowest free slot, and without one is counted; its INPUT is the latest of its
slot; under guest authentication a frame without a valid CMAC is rejected; the guest timeout frees the slot. -/
def Obligations.StationDeadlinesAndGuests : Prop :=
  (∀ (s : State) (n : Fin 1024) (t : Nat),
     (∀ f, islandUp 4 s = true → (station n.val s).state = .joining ∨ (station n.val s).state = .inService →
       (station n.val s).latest = some f →
       (f.stamp + 1000000 * cfgInputTimeout s.nsp.inForce n.val ≤ t →
         ∃ u, exec (.stationInputTimeout n t) s = .next u ∧ (station n.val u).state = .dropped ∧
           (station n.val u).dropouts = satU32 ((station n.val s).dropouts + 1) ∧
           (station n.val u).latest = (station n.val s).latest) ∧
       (t < f.stamp + 1000000 * cfgInputTimeout s.nsp.inForce n.val →
         exec (.stationInputTimeout n t) s = .next (atTime t s))) ∧
     ((station n.val s).state = .absent → exec (.stationInputTimeout n t) s = .next (atTime t s)) ∧
     ((station n.val s).state = .joining →
       ∃ u, exec (.stationResyncSlow n) s = .next u ∧ (station n.val u).resyncSlow = true ∧
         (station n.val u).state = .joining ∧ (.stationResyncSlow, n.val) ∈ u.alarms) ∧
     ((station n.val s).state ≠ .joining → exec (.stationResyncSlow n) s = .next s)) ∧
  (∀ (s : State) (f : StationFrame) (ok : Bool) (t : Nat), islandUp 4 s = true → crossingOpen 7 s = true →
       isConfigured f.station s = false →
     (s.modes.loadStepsDone = true → formOk kindAnnounce f s = true →
       (guestChecked s = true → ok = false →
         ∃ u, exec (.guestAnnounce f ok t) s = .next u ∧ u.stations.guests = s.stations.guests ∧
           u.stations.guestsRejected = satU32 (s.stations.guestsRejected + 1)) ∧
       (guestChecked s = false ∨ ok = true → slotOf f.source s = none →
         (∀ g, freeSlot s = some g →
           ∃ u x, exec (.guestAnnounce f ok t) s = .next u ∧ guest g u = some x ∧ x.source = f.source ∧ x.ring = f.ring ∧
             x.number = f.station ∧ x.type = (announceOf f.payload).type ∧ x.clearing = false ∧
             x.auth = guestChecked s) ∧
         (freeSlot s = none →
           ∃ u, exec (.guestAnnounce f ok t) s = .next u ∧ u.stations.guests = s.stations.guests ∧
             u.cycle.guestsWithoutSlot = satU32 (s.cycle.guestsWithoutSlot + 1)))) ∧
     (formOk kindInput f s = true → ∀ g x, slotOf f.source s = some g → guest g s = some x → x.number = f.station →
       x.auth = false ∨ ok = true →
       ∃ u, exec (.guestInput f ok t) s = .next u ∧
         guest g u = some { x with latest := some (f.payload, t), fresh := true }) ∧
     (∀ g : Fin 64,
       (∀ x, guest g.val s = some x → ∃ u, exec (.guestTimeout g) s = .next u ∧
         guest g.val u = some { x with clearing := true } ∧ slotTaken g.val u = false) ∧
       (guest g.val s = none → exec (.guestTimeout g) s = .next s)))

/-- The event loom (R399, R400, R402): the loom takes the oldest report of the highest class that has one; it joins the open
event of its key, opens one within the class's slots and budget, or else counts in the overflow event; a closed event enters
the ring of its class, with CLOSED_BY_LIMIT at the open limit; a read marks the records it takes. -/
def Obligations.EventLoom : Prop :=
  ∀ (s : State) (t c : Nat) (r : LoomReport) (rest : List LoomReport), mapWf {} s.stations.loom = true → c < 4 →
    (∀ d, d < c → (loom d s).intake = []) → (loom c s).intake = r :: rest →
    (∃ u, exec (.loomReport t) s = .next u ∧ (loom c u).intake = rest ∧ (loom c u).closed = (loom c s).closed ∧
      ((loom c s).events.any (·.key == r.key) = true →
        (loom c u).events = (loom c s).events.map (fun e => if e.key = r.key then joinEvent r e else e)) ∧
      ((loom c s).events.any (·.key == r.key) = false →
        (((loom c s).events.length < setOpenSlots s.nsp.settings c ∧ (loom c s).opened = [] ∧
            0 < setEventBudget s.nsp.settings c →
          (loom c u).events = (loom c s).events ++ [newEvent r]) ∧
        (setOpenSlots s.nsp.settings c ≤ (loom c s).events.length →
          (loom c u).events = (loom c s).events ∧ (loom c u).overflow.isSome = true ∧
            (loom c u).inOverflow = satU32 ((loom c s).inOverflow + 1))))) ∧
    (∀ (k : TClass) e, classCode k = c → (loom c s).events = [e] → (loom c s).ring.length < 1024 →
      (∃ u, exec (.eventCoalesceExpiry k e.key) s = .next u ∧ (loom c u).events = [] ∧
        (loom c u).ring = (loom c s).ring ++ [{ e with loss := (loom c s).lossDue, closedByLimit := false }] ∧
        (loom c u).closed = satU32 ((loom c s).closed + 1)) ∧
      (∃ u, exec (.eventOpenLimit k e.key) s = .next u ∧ (loom c u).events = [] ∧
        (loom c u).ring = (loom c s).ring ++ [{ e with loss := (loom c s).lossDue, closedByLimit := true }]) ∧
      ∀ key, key ≠ e.key → key ≠ 0 → exec (.eventCoalesceExpiry k key) s = .next s) ∧
    (∀ n : Fin 16, (session n.val s).phase = .isOpen → loomClass n.val s = c →
      ∃ u, exec (.eventRead n) s = .next u ∧
        (loom c u).readMarks = (loom c s).readMarks + (unreadEvents c s).length ∧ (loom c u).ring = (loom c s).ring ∧
        (session n.val u).snapshots.head?.map (·.data) = some ((unreadEvents c s).flatMap (loomBytes c)))

/-- Frames received on a door bus (R361, R364, R366, R375): a channel off the bus hears nothing, and a frame over a closed
crossing is lost and counted (R319); a frame that no object takes, a duplicate and a frame that fails a check are counted; a
message without an envelope becomes its object's latest; a receive error raises REC, and from 96 the warning. -/
def Obligations.DoorReception : Prop :=
  ∀ (s : State) (k : Fin 8) (f : CanFrame) (ok : Bool) (t : Nat),
    (busLive k.val s = false → exec (.canFrameReceived k f ok t) s = .next (atTime t s) ∧
      exec (.canReceiveError k) s = .next s) ∧
    (busLive k.val s = true →
      (reservedId s.nsp.inForce k.val f = false → crossingOpen 8 s = false →
        exec (.canFrameReceived k f ok t) s = .next (closedWrite 8 (hearNode k.val (atTime t s)))) ∧
      (reservedId s.nsp.inForce k.val f = false → crossingOpen 8 s = true →
        ((offeredObjects s.nsp.inForce k.val).find? (fun x => matchesObject x.2.2 f) = none →
          ∃ u, exec (.canFrameReceived k f ok t) s = .next u ∧
            (channel k.val u).received = (channel k.val s).received + 1 ∧
            (channel k.val u).unmatched = satU32 ((channel k.val s).unmatched + 1) ∧ (channel k.val u).alone = false) ∧
        (∀ home o d, (offeredObjects s.nsp.inForce k.val).find? (fun x => matchesObject x.2.2 f) = some (home, o, d) →
          (checkDoor d (doorObject home o s) f.data ok (timeAt s t) (1000 * cfgDoorBound s.nsp.inForce k.val) = .rejected →
            ∃ u, exec (.canFrameReceived k f ok t) s = .next u ∧
              (channel k.val u).rejected = satU32 ((channel k.val s).rejected + 1) ∧
              doorObject home o u = doorObject home o s) ∧
          (checkDoor d (doorObject home o s) f.data ok (timeAt s t) (1000 * cfgDoorBound s.nsp.inForce k.val) = .duplicate →
            ∃ u, exec (.canFrameReceived k f ok t) s = .next u ∧
              (channel k.val u).duplicates = satU32 ((channel k.val s).duplicates + 1) ∧
              doorObject home o u = doorObject home o s) ∧
          (d.envelope = false → f.data.length = frameLength d →
            ∃ u, exec (.canFrameReceived k f ok t) s = .next u ∧ (doorObject home o u).latest = some
              { data := f.data.take d.length, seq := (doorObject home o s).seq + 1, stamp := timeAt s t
                twin := k.val != home } ∧
              (doorObject home o u).seqValid = true ∧ u.modes = s.modes))) ∧
      (∃ u, exec (.canReceiveError k) s = .next u ∧
        (channel k.val u).recCount = min 255 ((channel k.val s).recCount + 1) ∧
        (channel k.val u).errorFrames = satU32 ((channel k.val s).errorFrames + 1) ∧
        (95 ≤ (channel k.val s).recCount → (.doorBusWarning, k.val) ∈ u.alarms)))

/-- Messages sent on a door bus (R368, R369, R375–R377): an idle channel offers its pending message; an acknowledgement counts
it, takes it from the queue with RESULT 1 and lowers TEC; an error raises TEC by eight, leaves the message queued and above
255 makes the channel bus-off; a message that expires leaves the queue with RESULT 3. Bus-off, integration and alarms of a
door channel (R359, R375, R380): integration and the end of a recovery make a channel error-active with both counters 0; a
held channel starts its recovery on a write of 1, any other refuses it; the warning clears below 96, and the receive checks
after their time. -/
def Obligations.DoorSending : Prop :=
  (∀ (s : State) (k : Fin 8) (t : Nat),
     (∀ m, doorSends s = true → onBus (channel k.val s) = true → (channel k.val s).sending = none →
       (channel k.val s).queue = [m] → (channel k.val s).twinQueue = [] → m.launch = none → cycleReleased m.cycle s = true →
       cfgChannelMode s.nsp.inForce k.val ≠ 2 →
       ∃ u, exec (.doorLaunch k t) s = .next u ∧ (channel k.val u).sending = some m ∧ (channel k.val u).queue = [m]) ∧
     (busLive k.val s = true →
       (∀ m, (channel k.val s).sending = some m → m.home = k.val → m.twin = false →
         ∃ u, exec (.doorMessageAcknowledged k t) s = .next u ∧ (channel k.val u).sent = (channel k.val s).sent + 1 ∧
           (channel k.val u).tecCount = (channel k.val s).tecCount - 1 ∧ (channel k.val u).alone = false ∧
           (∀ x ∈ (channel k.val u).queue, sameMessage m x = false) ∧
           (doorObject k.val m.object u).result = 1 ∧ (doorObject k.val m.object u).acked = some m.seq) ∧
       ((channel k.val s).sending = none → exec (.doorMessageAcknowledged k t) s = .next (atTime t s)) ∧
       (∀ ack, cfgChannelMode s.nsp.inForce k.val ≠ 2 → ack = false ∨ (channel k.val s).state = 1 →
         ∃ u, exec (.doorTransmitError k ack t) s = .next u ∧
           (channel k.val u).tecCount = (channel k.val s).tecCount + 8 ∧
           (channel k.val u).errorFrames = satU32 ((channel k.val s).errorFrames + 1) ∧
           (channel k.val u).queue = (channel k.val s).queue ∧
           (247 < (channel k.val s).tecCount → busOff (channel k.val u) = true ∧ (.doorBusOff, k.val) ∈ u.alarms ∧
             (channel k.val u).busOffEntries = satU32 ((channel k.val s).busOffEntries + 1)))) ∧
     (∀ (o : Fin 256) m x, queuedMessage k.val o.val s = some m → m.expiry = some x →
       (x ≤ timeAt s (max s.network.time.now t) → (doorObject k.val o.val s).acked ≠ some m.seq →
         mapWf {} s.doors.channels = true →
         ∃ u, exec (.doorMessageExpiry k o t) s = .next u ∧ (doorObject k.val o.val u).result = 3 ∧
           (channel k.val u).expired = satU32 ((channel k.val s).expired + 1) ∧
           ∀ y ∈ (channel k.val u).queue, y.object ≠ o.val) ∧
       (timeAt s (max s.network.time.now t) < x → exec (.doorMessageExpiry k o t) s = .next (atTime t s)))) ∧
  (∀ (s : State) (k : Fin 8),
     (islandUp 5 s = true → channelUsed (pairConfig s) k.val = true → (channel k.val s).state = 0 →
       ∃ u, exec (.canIntegration k) s = .next u ∧ (channel k.val u).state = 1 ∧ (channel k.val u).tecCount = 0 ∧
         (channel k.val u).recCount = 0) ∧
     ((channel k.val s).state ≠ 0 → exec (.canIntegration k) s = .next s) ∧
     ((channel k.val s).state = 4 →
       ∃ u, exec (.busOffRecovery k 1) s = .next u ∧ (channel k.val u).state = 3 ∧ (channel k.val u).recovery = 1) ∧
     ((channel k.val s).state ≠ 4 →
       ∃ u, exec (.busOffRecovery k 1) s = .next u ∧ (channel k.val u).state = (channel k.val s).state ∧
         (channel k.val u).recovery = 2) ∧
     (∀ v, v ≠ 1 → exec (.busOffRecovery k v) s = .next s) ∧
     ((channel k.val s).state = 3 → islandUp 5 s = true →
       ∃ u, exec (.busOffRecoveryDone k) s = .next u ∧ (channel k.val u).state = 1 ∧ (channel k.val u).tecCount = 0 ∧
         (channel k.val u).recCount = 0 ∧ (channel k.val u).recovery = 0 ∧ (.doorBusOff, k.val) ∉ u.alarms) ∧
     ((channel k.val s).state ≠ 3 → exec (.busOffRecoveryDone k) s = .next s) ∧
     ((channel k.val s).tecCount < 96 → (channel k.val s).recCount < 96 →
       ∃ u, exec (.doorBusWarningClear k) s = .next u ∧ (.doorBusWarning, k.val) ∉ u.alarms ∧ u.doors = s.doors) ∧
     (96 ≤ (channel k.val s).tecCount → exec (.doorBusWarningClear k) s = .next s) ∧
     ∃ u, exec (.doorReceiveChecksClear k) s = .next u ∧ (.doorReceiveChecks, k.val) ∉ u.alarms ∧ u.modes = s.modes)

/-- Time master, schedule matrix and service segments (R370–R374, R378): the module sends the reference message while it holds
the mastership; another master's ends it and its loss raises the alarm; a column mark opens its column, and for an exclusive
receive cell its window; the only segment of a service request hands it on, a first one is kept, a stray one is dropped. -/
def Obligations.DoorTimeAndService : Prop :=
  ∀ (s : State) (k : Fin 8) (t : Nat),
    (busLive k.val s = true →
      (takesMastership k.val s = true →
        ∃ u, exec (.referenceMessageSend k t) s = .next u ∧ (channel k.val u).time.master = 1 ∧
          (channel k.val u).time.priority = some (cfgMasterPriority s.nsp.inForce k.val) ∧
          (channel k.val u).time.refAt = t ∧ (channel k.val u).time.column = 0 ∧
          (channel k.val u).sent = (channel k.val s).sent + 1 ∧ (.doorTimeMasterLost, k.val) ∉ u.alarms) ∧
      (takesMastership k.val s = false → exec (.referenceMessageSend k t) s = .next (atTime t s)) ∧
      (∀ (p : Fin 8) (c : Fin 64), c.val ≤ cfgCycleCountMax s.nsp.inForce k.val → (channel k.val s).time.master ≠ 1 →
        ∃ u, exec (.referenceMessage k p c t) s = .next u ∧ (channel k.val u).time.master = 2 ∧
          (channel k.val u).time.priority = some p.val ∧ (channel k.val u).time.cycleCount = c.val ∧
          (channel k.val u).received = (channel k.val s).received + 1 ∧ (.doorTimeMasterLost, k.val) ∉ u.alarms) ∧
      (∀ c : Fin 32, cfgChannelMode s.nsp.inForce k.val = 2 → c.val = 0 ∨ columnMark s.nsp.inForce k.val c.val ≠ 0 →
        ∃ u, exec (.columnMark k c t) s = .next u ∧ (channel k.val u).time.column = c.val ∧
          (c.val ≠ 0 → (matrixCell s.nsp.inForce k.val (channel k.val s).time.cycleCount c.val).1 = 1 →
            (doorDesc s.nsp.inForce k.val
              (matrixCell s.nsp.inForce k.val (channel k.val s).time.cycleCount c.val).2).dir = 1 →
            (channel k.val u).time.window =
              some ((matrixCell s.nsp.inForce k.val (channel k.val s).time.cycleCount c.val).2, false))) ∧
      (∀ b : List Byte, b.length ≤ 63 →
        (crossingOpen 8 s = true →
          ∃ u, exec (.serviceSegment k (0xC0 :: b) t) s = .next u ∧ u.doors.handed = s.doors.handed ++ [(k.val, b)] ∧
          (channel k.val u).service = none ∧ u.doors.serviceFrames = satU32 (s.doors.serviceFrames + 1)) ∧
        (∃ u, exec (.serviceSegment k (0x80 :: b) t) s = .next u ∧ u.doors.handed = s.doors.handed ∧
          (channel k.val u).service = some { data := b, next := 1 }) ∧
        ((channel k.val s).service = none →
          ∃ u, exec (.serviceSegment k (0x05 :: b) t) s = .next u ∧ u.doors.handed = s.doors.handed ∧
            (channel k.val u).service = none)) ∧
      ∃ u, exec (.serviceReassemblyTimeout k) s = .next u ∧ (channel k.val u).service = none ∧
        (channel k.val u).state = (channel k.val s).state) ∧
    (timeChannel s.nsp.inForce k.val = true → (channel k.val s).time.master ≠ 1 →
      ∃ u, exec (.timeMasterLost k) s = .next u ∧ (.doorTimeMasterLost, k.val) ∈ u.alarms ∧ u.modes = s.modes) ∧
    (timeChannel s.nsp.inForce k.val = false → exec (.timeMasterLost k) s = .next s)

/-- NSP frames (R428, R429, R433, R434, R439, Table 17-6): a frame on a carrier that is down is not taken; one that fails a
check, or a session request from another source or with a bad CMAC, is discarded and counted; a request whose SEQ was among
the last eight is answered with its kept reply and not run again; a request that finds an ORDERED one in progress is held. -/
def Obligations.NspFrameChecks : Prop :=
  ∀ (s : State) (q : NspReq) (nonce : BitVec 128) (t : Nat) (c : Instr), c = .openS q nonce t ∨ nspRequest q t c →
    (carrierUp q.carrier s = false → exec c s = .next (beginRequest q t s)) ∧
    (carrierUp q.carrier s = true → unanswerable q.carrier s = false → badFrame q = true →
      exec c s = .next (discardFrame (beginRequest q t s))) ∧
    (frameTaken q s → q.session < 16 → (session q.session s).phase = .isOpen → (∀ n, (session n s).held = []) →
      (sameSource (session q.session s).carrier q.carrier = false ∨ q.cmacOk = false →
        exec c s = .next (discardFrame (beginRequest q t s))) ∧
      (sameSource (session q.session s).carrier q.carrier = true → q.cmacOk = true → isReply q = false →
        (∀ r l, (session q.session s).recent = (q.seq, some r) :: l →
          ∃ u, exec c s = .next u ∧ u.nsp.replies = [r] ∧ u.nsp.sessions = s.nsp.sessions ∧ u.solver = s.solver) ∧
        ((∀ p ∈ (session q.session s).recent, p.1 ≠ q.seq) →
          (seqAhead q.seq (session q.session s).highest = false → exec c s = .next (discardFrame (beginRequest q t s))) ∧
          (seqAhead q.seq (session q.session s).highest = true →
            ∀ d, (session q.session s).deferred = [(true, d)] → nspRequest q t c →
            ∃ u, exec c s = .next u ∧ u.nsp.replies = [] ∧ (session q.session u).held.map (·.2) = [q] ∧
              (session q.session u).highest = q.seq))))

/-- Requests that read (R422, R435–R437, R440, Table 17-7, Table 17-8): KEEPALIVE, READ, DESCRIBE, GROUP READ and DATA READ in
an open session complete with STATUS 0x00 and the value's bytes, DATA READ once the cycle engine does not own the hub slot
(R154); an unknown entry is answered 0x01 and leaves the module as it is. -/
def Obligations.SessionReads : Prop :=
  ∀ (s : State) (q : NspReq) (t : Nat), startsAtOnce q s →
    (badFields opKeepalive q = false →
      ∃ u, exec (.keepalive q t) s = .next u ∧ answered opKeepalive q 0x00 [] u ∧ u.modes = s.modes) ∧
    (badFields opRead q = false → s.protection.lifecycle = .inService →
      (entryAt q.index.toNat q.sub.toNat = none →
        ∃ u, exec (.nspRead q t) s = .next u ∧ answered opRead q 0x01 [] u ∧ u.solver = s.solver) ∧
      (q.index = 0x2000 → q.sub = 1 →
        ∃ u, exec (.nspRead q t) s = .next u ∧ answered opRead q 0x00 [BitVec.ofNat 8 (modeCode s.modes.mode)] u ∧
          u.modes = s.modes)) ∧
    (badFields opDescribe q = false → s.protection.lifecycle = .inService →
      (entryAt q.index.toNat q.sub.toNat = none →
        ∃ u, exec (.describe q t) s = .next u ∧ answered opDescribe q 0x01 [] u) ∧
      (∀ e, entryAt q.index.toNat q.sub.toNat = some e →
        ∃ u, exec (.describe q t) s = .next u ∧ answered opDescribe q 0x00 (describeBytes q.session e s) u)) ∧
    (badFields opGroupRead q = false → s.protection.lifecycle = .inService → q.body = [1, 0x00, 0x20, 0x01] →
      ∃ u, exec (.groupRead q t) s = .next u ∧
        answered opGroupRead q 0x00 [0, 1, BitVec.ofNat 8 (modeCode s.modes.mode)] u ∧ u.modes = s.modes) ∧
    (badFields opDataRead q = false → s.protection.lifecycle = .inService → dataRefusal opDataRead q = none →
      (slotOwned s = true → ∃ u, exec (.dataRead q t) s = .next u ∧ (session q.session u).held = [(opDataRead, q)] ∧
        u.nsp.replies = []) ∧
      (windowClosed 1 s = false → s.modes.mode ≠ .standby → slotOwned s = false → (∀ n, upsetOf 0 n s = 0) →
      ∃ u, exec (.dataRead q t) s = .next u ∧ answered opDataRead q 0x00
        ((rangeFrom q.offset q.total).flatMap fun a => leBytes 3 (storeAt a s).toNat) u ∧ u.solver = s.solver))

/-- Requests that write (R108, R310, R422, R424, R426, R435–R437, R440): a WRITE that is not permitted, or names a read-only
or unknown entry, changes nothing; WRITE of 1 to 0x1010:05 copies the configuration in force into the shadow; a GROUP WRITE
sets a selector; DATA WRITE and DATA WRITE MASKED hold host writes, all or none; CLOSE frees the session, ABORT ends its
transfer. -/
def Obligations.SessionWrites : Prop :=
  ∀ (s : State) (q : NspReq) (t : Nat), startsAtOnce q s →
    (badFields opWrite q = false → s.protection.lifecycle = .inService → isSelector (q.index.toNat * 256 + q.sub.toNat) = false →
      ((session q.session s).party ≠ 0 → hasRight (session q.session s).party 0 s = false →
        hasRight (session q.session s).party 1 s = false →
        ∃ u, exec (.nspWrite q t) s = .next u ∧ answered opWrite q 0x0A [] u ∧ u.solver = s.solver ∧ u.modes = s.modes) ∧
      (hasRight (session q.session s).party 0 s = true →
        (entryAt q.index.toNat q.sub.toNat = none →
          ∃ u, exec (.nspWrite q t) s = .next u ∧ answered opWrite q 0x01 [] u ∧ u.solver = s.solver ∧ u.modes = s.modes) ∧
        (q.index = 0x2000 → q.sub = 1 →
          ∃ u, exec (.nspWrite q t) s = .next u ∧ answered opWrite q 0x02 [] u ∧ u.solver = s.solver ∧ u.modes = s.modes) ∧
        (q.index = 0x1010 → q.sub = 5 → q.body = [1] → shadowFrozen s = false →
          ∃ u, exec (.nspWrite q t) s = .next u ∧ answered opWrite q 0x00 [] u ∧ u.nsp.shadow = s.nsp.inForce ∧
            u.nsp.inForce = s.nsp.inForce))) ∧
    (badFields opGroupWrite q = false → s.protection.lifecycle = .inService → q.body = [1, 0x10, 0x80, 0x01, 2, 5, 0] →
      ∃ u, exec (.groupWrite q t) s = .next u ∧ answered opGroupWrite q 0x00 [0xFF] u ∧ selected q.session 0x801001 u = 5) ∧
    (∀ masked : Bool,
      let op := if masked then opDataMasked else opDataWrite
      let c : Instr := if masked then .dataWriteMasked q t else .dataWrite q t
      let l := hostWritesOf masked q.offset q.total q.body
      badFields op q = false → dataRefusal op q = none → s.protection.lifecycle = .inService →
      hasRight (session q.session s).party 0 s = true →
      ((∃ h ∈ l, isWritable s.nsp.inForce h.address = false) →
        ∃ u, exec c s = .next u ∧ answered op q 0x02 [] u ∧ u.cycle = s.cycle) ∧
      ((∀ h ∈ l, isWritable s.nsp.inForce h.address = true) →
        (s.modes.mode = .standby → ∃ u, exec c s = .next u ∧ answered op q 0x06 [] u ∧ u.cycle = s.cycle) ∧
        (s.modes.mode ≠ .standby → s.cycle.hostWrites.length + l.length ≤ 4096 →
          ∃ u, exec c s = .next u ∧ answered op q 0x00 [] u ∧ u.cycle.hostWrites = s.cycle.hostWrites ++ l ∧
            u.solver = s.solver))) ∧
    (badFields opClose q = false → mapWf {} s.nsp.sessions = true →
      ∃ u, exec (.close q t) s = .next u ∧ replyTo opClose q 0x00 [] ∈ u.nsp.replies ∧
        (session q.session u).phase = .free) ∧
    (badFields opAbort q = false →
      ∃ u, exec (.abort q t) s = .next u ∧ replyTo opAbort q 0x00 [] ∈ u.nsp.replies ∧ (session q.session u).transfer = none)

/-- Sessions open, prove and end (R431–R433, R435, R436): OPEN gives a permitted party the first free session and the module's
nonce, answers 0x0A to another and 0x07 when none is free; PROVE with a valid CMAC opens it and sets the first SEQ; an invalid
one frees it, and the party's third within 60 s bars it. Sessions and transfers that time out, and the front service connector
(R432, R433, R435, R436, R425): a session whose time is over is free; a bar ends; the oldest read snapshot lapses; a write
transfer is discarded whole; reverting the shadow copies the configuration in force unless a commit has frozen it. Front
service connector (R430, Table 17-3): detaching leaves every session of the connector without a carrier, and attaching changes
nothing else. -/
def Obligations.SessionsOpenAndEnd : Prop :=
  (∀ (s : State) (q : NspReq) (nonce : BitVec 128) (t : Nat), frameTaken q s → isReply q = false →
     (q.session = 0xFF → badFields opOpen q = false → q.length = 20 → slice 1 3 q.body = [0, 0, 0] →
       (mayOpen (byteAt 0 q.body).toNat q.carrier s = false →
         ∃ u, exec (.openS q nonce t) s = .next u ∧ u.nsp.replies = [replyTo opOpen q 0x0A []] ∧
           u.nsp.sessions = s.nsp.sessions) ∧
       (mayOpen (byteAt 0 q.body).toNat q.carrier s = true →
         (freeSession s = none →
           ∃ u, exec (.openS q nonce t) s = .next u ∧ u.nsp.replies = [replyTo opOpen q 0x07 []] ∧
             u.nsp.sessions = s.nsp.sessions) ∧
         (∀ n, freeSession s = some n →
           ∃ u, exec (.openS q nonce t) s = .next u ∧ session n u = openedSession q n nonce (partyOf (byteAt 0 q.body).toNat s).key ∧
             u.nsp.replies = [{ replyTo opOpen q 0x00 (leBytes 16 nonce.toNat) with session := n }]))) ∧
     (q.session < 16 → (session q.session s).phase = .opening →
       sameSource (session q.session s).carrier q.carrier = true →
       (q.cmacOk = true → badFields opProve q = false →
         ∃ u, exec (.prove q t) s = .next u ∧ answered opProve q 0x00 [] u ∧ (session q.session u).phase = .isOpen ∧
           (session q.session u).party = (session q.session s).party) ∧
       (q.cmacOk = false → mapWf {} s.nsp.sessions = true →
         ∃ u, exec (.prove q t) s = .next u ∧ (session q.session u).phase = .free ∧
           u.nsp.authFailures = satU32 (s.nsp.authFailures + 1) ∧
           ((∀ m, (session m s).deferred = []) → u.nsp.replies = []) ∧
           (∀ a b l, mapVal [] (session q.session s).party s.nsp.failedProves = a :: b :: l →
             max s.network.time.now t - a ≤ 60000000000 → max s.network.time.now t - b ≤ 60000000000 →
             (session q.session s).party ∈ u.nsp.barred)))) ∧
  (∀ (s : State) (n : Fin 16),
     (mapWf {} s.nsp.sessions = true →
       ((session n.val s).phase = .opening → ∃ u, exec (.proveTimeout n) s = .next u ∧ (session n.val u).phase = .free) ∧
       ((session n.val s).phase = .isOpen → ∃ u, exec (.sessionTimeout n) s = .next u ∧ (session n.val u).phase = .free)) ∧
     ((session n.val s).phase ≠ .opening → exec (.proveTimeout n) s = .next s) ∧
     ((session n.val s).phase ≠ .isOpen → exec (.sessionTimeout n) s = .next s) ∧
     (∀ p : Fin 9, ∃ u, exec (.openBarExpiry p) s = .next u ∧ p.val ∉ u.nsp.barred ∧
       (∀ x, x ≠ p.val → (x ∈ u.nsp.barred ↔ x ∈ s.nsp.barred)) ∧ u.nsp.sessions = s.nsp.sessions) ∧
     ((session n.val s).phase = .isOpen →
       (∃ u, exec (.domainSnapshotExpiry n) s = .next u ∧
         (session n.val u).snapshots = (session n.val s).snapshots.dropLast ∧
         (session n.val u).transfer = (session n.val s).transfer) ∧
       ∃ u, exec (.domainWriteTimeout n) s = .next u ∧ (session n.val u).transfer = none ∧ u.nsp.shadow = s.nsp.shadow) ∧
     (nspUp s = true → shadowFrozen s = false → exec (.revertShadow 1) s = .next { s with nsp.shadow := s.nsp.inForce }) ∧
     (shadowFrozen s = true → exec (.revertShadow 1) s = .next s) ∧
     (∀ v : BitVec 8, v ≠ 1 → exec (.revertShadow v) s = .next s)) ∧
  (∀ s : State,
     exec (.fsAttachment true) s = .next { s with front.fsAttached := true } ∧
     (mapWf {} s.nsp.sessions = true → ∃ t, exec (.fsAttachment false) s = .next t ∧ t.front.fsAttached = false ∧
       ∀ n, session n t = if (session n s).carrier = some .fs then { session n s with carrier := none } else session n s))

/-- Staging (R436, R450, Table 18-3): the first segment of an image takes the EMPTY slot before a STAGED one and the last one
begins the checks; a module in DECOMMISSIONED, before LOAD or in trial takes none. Checks that pass leave the target STAGED,
with the one STAGED before EMPTY; a failed one leaves the target EMPTY with its result; a staged image can be discarded while
no pair update runs. Trial and pair update (R451, R454, R456, R458, R459): a confirmation in trial in STANDBY, ACTIVE or SOLO
ends the trial and raises the minimum security version to the image's; elsewhere it is refused with result 4; the partner's
verdict moves the sequence on or aborts it; a state that lasts too long aborts it with cause 7. -/
def Obligations.FirmwareAndPairUpdate : Prop :=
  (∀ s : State,
     (∀ (n : Fin 16) total data last, s.firmware.staging = 0 → (session n.val s).transfer = none →
       (stagingMode s = false → exec (.firmwareImageWrite n 0 total data last) s = .next s) ∧
       (stagingMode s = true →
         (s.firmware.trial = true → ∃ t, exec (.firmwareImageWrite n 0 total data last) s = .next t ∧
           t.firmware = { s.firmware with result := 4 }) ∧
         (s.firmware.trial = false → total ≤ 67108864 → data.length ≤ total → (last = true ↔ data.length = total) →
           s.firmware.slot0.role = .empty →
           ∃ t, exec (.firmwareImageWrite n 0 total data last) s = .next t ∧ t.firmware.received = data ∧
             t.firmware.staging = (if last then 2 else 1) ∧ t.firmware.target = 0 ∧ t.firmware.bySession = some n.val ∧
             t.firmware.slot1 = s.firmware.slot1 ∧ t.firmware.main = s.firmware.main))) ∧
     (∀ sig hash flash, s.firmware.staging ≠ 2 → exec (.stagingCheckDone sig hash flash) s = .next s) ∧
     (∀ sig hash flash, s.firmware.staging = 2 → s.firmware.target = 0 → s.firmware.bySession.isSome = true →
       (stagingVerdict s.firmware.received sig (hash && !imageLost s) flash s = 0 → s.firmware.slot1.role ≠ .staged →
         ∃ t, exec (.stagingCheckDone sig hash flash) s = .next t ∧
           t.firmware.slot0 = { role := .staged, image := some (parseHeader s.firmware.received) } ∧
           t.firmware.slot1 = s.firmware.slot1 ∧ t.firmware.staging = 0 ∧ t.firmware.stagingResult = 0 ∧
           t.modes = s.modes) ∧
       (stagingVerdict s.firmware.received sig (hash && !imageLost s) flash s ≠ 0 →
         ∃ t, exec (.stagingCheckDone sig hash flash) s = .next t ∧ t.firmware.slot0 = {} ∧
           t.firmware.slot1 = s.firmware.slot1 ∧ t.firmware.staging = 0 ∧
           t.firmware.stagingResult = stagingVerdict s.firmware.received sig (hash && !imageLost s) flash s)) ∧
     (∀ hash flash, badForm s.firmware.received = false → byteAt 5 s.firmware.received = 0x60 →
       (parseHeader s.firmware.received).archRev = Config.architectureRevision.toNat →
       byteAt 16 s.firmware.received ≤ Config.hardwareRevision → Config.hardwareRevision ≤ byteAt 17 s.firmware.received →
       stagingVerdict s.firmware.received false hash flash s = 4 ∧
       (byteAt 36 s.firmware.received ≤ 1 → (parseHeader s.firmware.received).security < s.firmware.minSecurity →
         stagingVerdict s.firmware.received true true flash s = 6)) ∧
     (updateRuns s = true → ∀ v, exec (.discardStaged v) s = .next s) ∧
     (updateRuns s = false → s.firmware.slot0.role = .staged →
       exec (.discardStaged 1) s = .next { s with firmware.slot0 := {} })) ∧
  (∀ s : State,
     (s.firmware.trial = true → s.modes.mode = .standby ∨ s.modes.mode = .active ∨ s.modes.mode = .solo →
       ∃ t, exec (.firmwareConfirm 1) s = .next t ∧ t.firmware.trial = false ∧ t.firmware.result = 0 ∧
         t.firmware.minSecurity = max s.firmware.minSecurity s.firmware.main.security ∧ t.firmware.main = s.firmware.main ∧
         (.firmwareUnconfirmed, 0) ∉ t.alarms) ∧
     (s.firmware.trial = false → exec (.firmwareConfirm 1) s = .next { s with firmware.result := 4 }) ∧
     (∀ v : BitVec 8, v ≠ 1 → exec (.firmwareConfirm v) s = .next s) ∧
     (s.firmware.pairState = 1 → exec (.partnerStagingResult 0) s = .next { s with firmware.pairState := 2 } ∧
       ∀ r : Fin 12, r ≠ 0 → exec (.partnerStagingResult r) s = .next { s with
         firmware.pairState := 8
         firmware.abortCause := 1 }) ∧
     (1 ≤ s.firmware.pairState → s.firmware.pairState ≤ 6 → exec .pairUpdateStateTimeout s = .next { s with
       firmware.pairState := 8
       firmware.abortCause := 7 }) ∧
     (s.firmware.pairState = 0 → exec .pairUpdateStateTimeout s = .next s ∧
       ∀ r : Fin 12, exec (.partnerStagingResult r) s = .next s))

/-- The quilt (R465, R468–R472, R475, R73): every second with power counts; the buffer is written at 65,536 bytes or once its
oldest record has waited; a record fills the open block of its severity, or opens a block that was never written; a flush
writes the buffer, and its end writes the counters and reports the duration, at most 8.00 ms, and arms the automatic restart
after a restartable cause; a session's read keeps a snapshot. -/
def Obligations.QuiltRecorder : Prop :=
  ∀ s : State,
    (s.front.powerGood = false → exec .operatingSecond s = .next s) ∧
    (s.front.powerGood = true → ∃ t, exec .operatingSecond s = .next t ∧ t.quilt.seconds = s.quilt.seconds + 1 ∧
      t.quilt.powerCycles = s.quilt.powerCycles ∧ t.quilt.blocks = s.quilt.blocks) ∧
    (s.quilt.flushing = false →
      (∀ waited, s.quilt.buffer = [] → exec (.quiltBufferWrite waited) s = .next s) ∧
      (recordsBytes s.quilt.buffer < 65536 → exec (.quiltBufferWrite false) s = .next s) ∧
      exec .quiltFlush s = .next s ∧ ∀ d, exec (.quiltFlushEnd d) s = .next s) ∧
    (∀ r, s.quilt.buffer = [r] → s.quilt.queue = [] → s.quilt.lostDue = 0 → s.quilt.blocks = [] →
      (s.quilt.flushing = false → ∃ t, exec (.quiltBufferWrite true) s = .next t ∧ t.quilt.buffer = [] ∧
        t.quilt.flushCause = (if 65536 ≤ recordsBytes [r] then 1 else 2) ∧ t.quilt.nextBlock = s.quilt.nextBlock + 1 ∧
        mapVal none 2 t.quilt.blocks = some
          { seq := s.quilt.nextBlock, severity := r.severity, openedAt := s.quilt.seconds, isOpen := true, records := [r] }) ∧
      (s.quilt.flushing = true → ∃ t, exec .quiltFlush s = .next t ∧ t.quilt.buffer = [] ∧ t.quilt.flushing = true ∧
        mapVal none 2 t.quilt.blocks = some
          { seq := s.quilt.nextBlock, severity := r.severity, openedAt := s.quilt.seconds, isOpen := true, records := [r] })) ∧
    (∀ r n b, s.quilt.flushing = true → s.quilt.buffer = [r] → s.quilt.queue = [] → s.quilt.lostDue = 0 →
      openBlock r.severity s.quilt = some (n, b) → 32 + recordsBytes b.records + r.length ≤ 4096 →
      ∃ t, exec .quiltFlush s = .next t ∧ mapVal none n t.quilt.blocks = some { b with records := b.records ++ [r] } ∧
        t.quilt.nextBlock = s.quilt.nextBlock) ∧
    (s.quilt.flushing = true → ∀ d, ∃ t, exec (.quiltFlushEnd d) s = .next t ∧ t.quilt.flushing = false ∧
      t.quilt.flushDuration = min 800 d ∧ t.quilt.blocks = s.quilt.blocks ∧
      (s.modes.mode = .fault → s.supply.powerFail = false →
        (s.modes.cause = 0x1103 → t.modes.autoRestartArmed = true) ∧
        (s.modes.cause = 0x1401 → t.modes.autoRestartArmed = false))) ∧
    (s.front.powerGood = true → s.quilt.counters.1.writes ≤ s.quilt.counters.2.writes →
      exec .counterRecordWrite s = .next { s with
        quilt.counters :=
          ({ seconds := s.quilt.seconds, powerCycles := s.quilt.powerCycles, writes := s.quilt.counters.2.writes + 1 },
            s.quilt.counters.2) }) ∧
    (∀ n : Fin 16, (session n.val s).phase = .isOpen →
      ∃ t x l, exec (.quiltRead n) s = .next t ∧ (session n.val t).snapshots = x :: l ∧ x.index = 0xA010 ∧ x.sub = 1 ∧
        x.data = (quiltSnapshot (BitVec.ofInt 32 (entryInt s.nsp.settings 0xA010 0x02 0 0 0)) (selected n.val 0xA01003 s)
          (selected n.val 0xA01004 s) s.quilt).1 ∧ t.quilt = s.quilt) ∧
    (∀ n : Fin 16, (session n.val s).phase ≠ .isOpen → exec (.quiltRead n) s = .next s)
end

