-- ==== Sys2Proof/Laws/Frames.lean ====
section
/-!
SUPPORT. What the shared operations leave as it is: for each operation of Record.lean and Ops.lean that changes the state, one
simp lemma with every group of the state, and every field of a group, that it does not touch.
-/
namespace Sys2Proof.Machine

/-- Frame of `atTime`. -/
@[simp] theorem atTime_frame (t : Nat) (s : State) : (atTime t s).front = s.front ∧ (atTime t s).supply = s.supply ∧
    (atTime t s).modes = s.modes ∧ (atTime t s).solver = s.solver ∧ (atTime t s).cycle = s.cycle ∧
    (atTime t s).change = s.change ∧ (atTime t s).seam = s.seam ∧ (atTime t s).pair = s.pair ∧ (atTime t s).diag = s.diag ∧
    (atTime t s).islands = s.islands ∧ (atTime t s).hub = s.hub ∧ (atTime t s).protection = s.protection ∧
    (atTime t s).network.ports = s.network.ports ∧ (atTime t s).network.ringA = s.network.ringA ∧
    (atTime t s).network.ringB = s.network.ringB ∧ (atTime t s).network.groups = s.network.groups ∧
    (atTime t s).network.handed = s.network.handed ∧ (atTime t s).network.delayFailures = s.network.delayFailures ∧
    (atTime t s).network.largestDelay = s.network.largestDelay ∧ (atTime t s).doors = s.doors ∧
    (atTime t s).stations = s.stations ∧ (atTime t s).localIo = s.localIo ∧ (atTime t s).nsp = s.nsp ∧
    (atTime t s).firmware = s.firmware ∧ (atTime t s).quilt = s.quilt ∧ (atTime t s).alarms = s.alarms ∧
    (atTime t s).free = s.free ∧ (atTime t s).pending = s.pending := by
  simp [atTime]

/-- Frame of `recordWith`. -/
@[simp] theorem recordWith_frame (b : QuiltBody) (source : Nat) (isPartial : Bool) (s : State) :
    (recordWith b source isPartial s).front = s.front ∧ (recordWith b source isPartial s).supply = s.supply ∧
    (recordWith b source isPartial s).modes = s.modes ∧ (recordWith b source isPartial s).solver = s.solver ∧
    (recordWith b source isPartial s).cycle = s.cycle ∧ (recordWith b source isPartial s).change = s.change ∧
    (recordWith b source isPartial s).seam = s.seam ∧ (recordWith b source isPartial s).pair = s.pair ∧
    (recordWith b source isPartial s).diag = s.diag ∧ (recordWith b source isPartial s).islands = s.islands ∧
    (recordWith b source isPartial s).hub = s.hub ∧ (recordWith b source isPartial s).protection = s.protection ∧
    (recordWith b source isPartial s).network = s.network ∧ (recordWith b source isPartial s).doors = s.doors ∧
    (recordWith b source isPartial s).stations = s.stations ∧ (recordWith b source isPartial s).localIo = s.localIo ∧
    (recordWith b source isPartial s).nsp = s.nsp ∧ (recordWith b source isPartial s).firmware = s.firmware ∧
    (recordWith b source isPartial s).alarms = s.alarms ∧ (recordWith b source isPartial s).free = s.free ∧
    (recordWith b source isPartial s).pending = s.pending := by
  simp [recordWith]

/-- Frame of `logEvent`. -/
@[simp] theorem logEvent_frame (b : QuiltBody) (s : State) : (logEvent b s).front = s.front ∧ (logEvent b s).supply = s.supply ∧
    (logEvent b s).modes = s.modes ∧ (logEvent b s).solver = s.solver ∧ (logEvent b s).cycle = s.cycle ∧
    (logEvent b s).change = s.change ∧ (logEvent b s).seam = s.seam ∧ (logEvent b s).pair = s.pair ∧
    (logEvent b s).diag = s.diag ∧ (logEvent b s).islands = s.islands ∧ (logEvent b s).hub = s.hub ∧
    (logEvent b s).protection = s.protection ∧ (logEvent b s).network = s.network ∧ (logEvent b s).doors = s.doors ∧
    (logEvent b s).stations = s.stations ∧ (logEvent b s).localIo = s.localIo ∧ (logEvent b s).nsp = s.nsp ∧
    (logEvent b s).firmware = s.firmware ∧ (logEvent b s).alarms = s.alarms ∧ (logEvent b s).free = s.free ∧
    (logEvent b s).pending = s.pending := by
  simp [logEvent]

/-- Frame of `logOther`. -/
@[simp] theorem logOther_frame (e : OtherEvent) (args : List Nat) (s : State) : (logOther e args s).front = s.front ∧
    (logOther e args s).supply = s.supply ∧ (logOther e args s).modes = s.modes ∧ (logOther e args s).solver = s.solver ∧
    (logOther e args s).cycle = s.cycle ∧ (logOther e args s).change = s.change ∧ (logOther e args s).seam = s.seam ∧
    (logOther e args s).pair = s.pair ∧ (logOther e args s).diag = s.diag ∧ (logOther e args s).islands = s.islands ∧
    (logOther e args s).hub = s.hub ∧ (logOther e args s).protection = s.protection ∧ (logOther e args s).network = s.network ∧
    (logOther e args s).doors = s.doors ∧ (logOther e args s).stations = s.stations ∧ (logOther e args s).localIo = s.localIo ∧
    (logOther e args s).nsp = s.nsp ∧ (logOther e args s).firmware = s.firmware ∧ (logOther e args s).alarms = s.alarms ∧
    (logOther e args s).free = s.free ∧ (logOther e args s).pending = s.pending := by
  simp [logOther]

/-- Frame of `raiseAlarm`. -/
@[simp] theorem raiseAlarm_frame (a : Alarm) (source : Nat) (s : State) : (raiseAlarm a source s).front = s.front ∧
    (raiseAlarm a source s).supply = s.supply ∧ (raiseAlarm a source s).modes = s.modes ∧
    (raiseAlarm a source s).solver = s.solver ∧ (raiseAlarm a source s).cycle = s.cycle ∧
    (raiseAlarm a source s).change = s.change ∧ (raiseAlarm a source s).seam = s.seam ∧ (raiseAlarm a source s).pair = s.pair ∧
    (raiseAlarm a source s).diag = s.diag ∧ (raiseAlarm a source s).islands = s.islands ∧ (raiseAlarm a source s).hub = s.hub ∧
    (raiseAlarm a source s).protection = s.protection ∧ (raiseAlarm a source s).network = s.network ∧
    (raiseAlarm a source s).doors = s.doors ∧ (raiseAlarm a source s).stations = s.stations ∧
    (raiseAlarm a source s).localIo = s.localIo ∧ (raiseAlarm a source s).nsp = s.nsp ∧
    (raiseAlarm a source s).firmware = s.firmware ∧ (raiseAlarm a source s).free = s.free ∧
    (raiseAlarm a source s).pending = s.pending := by
  unfold raiseAlarm
  (repeat' split) <;> simp

/-- Frame of `clearAlarm`. -/
@[simp] theorem clearAlarm_frame (a : Alarm) (source : Nat) (s : State) : (clearAlarm a source s).front = s.front ∧
    (clearAlarm a source s).supply = s.supply ∧ (clearAlarm a source s).modes = s.modes ∧
    (clearAlarm a source s).solver = s.solver ∧ (clearAlarm a source s).cycle = s.cycle ∧
    (clearAlarm a source s).change = s.change ∧ (clearAlarm a source s).seam = s.seam ∧ (clearAlarm a source s).pair = s.pair ∧
    (clearAlarm a source s).diag = s.diag ∧ (clearAlarm a source s).islands = s.islands ∧ (clearAlarm a source s).hub = s.hub ∧
    (clearAlarm a source s).protection = s.protection ∧ (clearAlarm a source s).network = s.network ∧
    (clearAlarm a source s).doors = s.doors ∧ (clearAlarm a source s).stations = s.stations ∧
    (clearAlarm a source s).localIo = s.localIo ∧ (clearAlarm a source s).nsp = s.nsp ∧
    (clearAlarm a source s).firmware = s.firmware ∧ (clearAlarm a source s).free = s.free ∧
    (clearAlarm a source s).pending = s.pending := by
  unfold clearAlarm
  (repeat' split) <;> simp

/-- Frame of `setAlarm`. -/
@[simp] theorem setAlarm_frame (a : Alarm) (source : Nat) (on : Bool) (s : State) : (setAlarm a source on s).front = s.front ∧
    (setAlarm a source on s).supply = s.supply ∧ (setAlarm a source on s).modes = s.modes ∧
    (setAlarm a source on s).solver = s.solver ∧ (setAlarm a source on s).cycle = s.cycle ∧
    (setAlarm a source on s).change = s.change ∧ (setAlarm a source on s).seam = s.seam ∧
    (setAlarm a source on s).pair = s.pair ∧ (setAlarm a source on s).diag = s.diag ∧
    (setAlarm a source on s).islands = s.islands ∧ (setAlarm a source on s).hub = s.hub ∧
    (setAlarm a source on s).protection = s.protection ∧ (setAlarm a source on s).network = s.network ∧
    (setAlarm a source on s).doors = s.doors ∧ (setAlarm a source on s).stations = s.stations ∧
    (setAlarm a source on s).localIo = s.localIo ∧ (setAlarm a source on s).nsp = s.nsp ∧
    (setAlarm a source on s).firmware = s.firmware ∧ (setAlarm a source on s).free = s.free ∧
    (setAlarm a source on s).pending = s.pending := by
  unfold setAlarm
  (repeat' split) <;> simp

/-- Frame of `clearAlarms`. -/
@[simp] theorem clearAlarms_frame (s : State) : (clearAlarms s).front = s.front ∧ (clearAlarms s).supply = s.supply ∧
    (clearAlarms s).modes = s.modes ∧ (clearAlarms s).solver = s.solver ∧ (clearAlarms s).cycle = s.cycle ∧
    (clearAlarms s).change = s.change ∧ (clearAlarms s).seam = s.seam ∧ (clearAlarms s).pair = s.pair ∧
    (clearAlarms s).diag = s.diag ∧ (clearAlarms s).islands = s.islands ∧ (clearAlarms s).hub = s.hub ∧
    (clearAlarms s).protection = s.protection ∧ (clearAlarms s).network = s.network ∧ (clearAlarms s).doors = s.doors ∧
    (clearAlarms s).stations = s.stations ∧ (clearAlarms s).localIo = s.localIo ∧ (clearAlarms s).nsp = s.nsp ∧
    (clearAlarms s).firmware = s.firmware ∧ (clearAlarms s).free = s.free ∧ (clearAlarms s).pending = s.pending := by
  unfold clearAlarms
  generalize s.alarms = l
  induction l generalizing s with
  | nil => simp
  | cons a l ih => simp [ih]

/-- Frame of `drawNat`. -/
@[simp] theorem drawNat_frame (s : State) : (drawNat s).2.front = s.front ∧ (drawNat s).2.supply = s.supply ∧
    (drawNat s).2.modes = s.modes ∧ (drawNat s).2.solver = s.solver ∧ (drawNat s).2.cycle = s.cycle ∧
    (drawNat s).2.change = s.change ∧ (drawNat s).2.seam = s.seam ∧ (drawNat s).2.pair = s.pair ∧ (drawNat s).2.diag = s.diag ∧
    (drawNat s).2.islands = s.islands ∧ (drawNat s).2.hub = s.hub ∧ (drawNat s).2.protection = s.protection ∧
    (drawNat s).2.network = s.network ∧ (drawNat s).2.doors = s.doors ∧ (drawNat s).2.stations = s.stations ∧
    (drawNat s).2.localIo = s.localIo ∧ (drawNat s).2.nsp = s.nsp ∧ (drawNat s).2.firmware = s.firmware ∧
    (drawNat s).2.quilt = s.quilt ∧ (drawNat s).2.alarms = s.alarms ∧ (drawNat s).2.pending = s.pending := by
  simp [drawNat]

/-- Frame of `sample`. -/
@[simp] theorem sample_frame (code source : Nat) (low : Int) (width : Nat) (h e : Bool) (v : Int) (s : State) :
    (sample code source low width h e v s).front = s.front ∧ (sample code source low width h e v s).supply = s.supply ∧
    (sample code source low width h e v s).modes = s.modes ∧ (sample code source low width h e v s).solver = s.solver ∧
    (sample code source low width h e v s).cycle = s.cycle ∧ (sample code source low width h e v s).change = s.change ∧
    (sample code source low width h e v s).seam = s.seam ∧ (sample code source low width h e v s).pair = s.pair ∧
    (sample code source low width h e v s).diag = s.diag ∧ (sample code source low width h e v s).islands = s.islands ∧
    (sample code source low width h e v s).hub = s.hub ∧ (sample code source low width h e v s).protection = s.protection ∧
    (sample code source low width h e v s).network = s.network ∧ (sample code source low width h e v s).doors = s.doors ∧
    (sample code source low width h e v s).stations = s.stations ∧ (sample code source low width h e v s).localIo = s.localIo ∧
    (sample code source low width h e v s).nsp = s.nsp ∧ (sample code source low width h e v s).firmware = s.firmware ∧
    (sample code source low width h e v s).alarms = s.alarms ∧ (sample code source low width h e v s).free = s.free ∧
    (sample code source low width h e v s).pending = s.pending := by
  simp [sample]

/-- Frame of `sealHistogram`. -/
@[simp] theorem sealHistogram_frame (isPartial : Bool) (interval : Nat) (k : Nat × Nat) (s : State) :
    (sealHistogram isPartial interval k s).front = s.front ∧ (sealHistogram isPartial interval k s).supply = s.supply ∧
    (sealHistogram isPartial interval k s).modes = s.modes ∧ (sealHistogram isPartial interval k s).solver = s.solver ∧
    (sealHistogram isPartial interval k s).cycle = s.cycle ∧ (sealHistogram isPartial interval k s).change = s.change ∧
    (sealHistogram isPartial interval k s).seam = s.seam ∧ (sealHistogram isPartial interval k s).pair = s.pair ∧
    (sealHistogram isPartial interval k s).diag = s.diag ∧ (sealHistogram isPartial interval k s).islands = s.islands ∧
    (sealHistogram isPartial interval k s).hub = s.hub ∧ (sealHistogram isPartial interval k s).protection = s.protection ∧
    (sealHistogram isPartial interval k s).network = s.network ∧ (sealHistogram isPartial interval k s).doors = s.doors ∧
    (sealHistogram isPartial interval k s).stations = s.stations ∧ (sealHistogram isPartial interval k s).localIo = s.localIo ∧
    (sealHistogram isPartial interval k s).nsp = s.nsp ∧ (sealHistogram isPartial interval k s).firmware = s.firmware ∧
    (sealHistogram isPartial interval k s).alarms = s.alarms ∧ (sealHistogram isPartial interval k s).free = s.free ∧
    (sealHistogram isPartial interval k s).pending = s.pending := by
  simp [sealHistogram]

/-- Frame of `sealExtreme`. -/
@[simp] theorem sealExtreme_frame (isPartial : Bool) (interval : Nat) (k : Nat × Nat) (s : State) :
    (sealExtreme isPartial interval k s).front = s.front ∧ (sealExtreme isPartial interval k s).supply = s.supply ∧
    (sealExtreme isPartial interval k s).modes = s.modes ∧ (sealExtreme isPartial interval k s).solver = s.solver ∧
    (sealExtreme isPartial interval k s).cycle = s.cycle ∧ (sealExtreme isPartial interval k s).change = s.change ∧
    (sealExtreme isPartial interval k s).seam = s.seam ∧ (sealExtreme isPartial interval k s).pair = s.pair ∧
    (sealExtreme isPartial interval k s).diag = s.diag ∧ (sealExtreme isPartial interval k s).islands = s.islands ∧
    (sealExtreme isPartial interval k s).hub = s.hub ∧ (sealExtreme isPartial interval k s).protection = s.protection ∧
    (sealExtreme isPartial interval k s).network = s.network ∧ (sealExtreme isPartial interval k s).doors = s.doors ∧
    (sealExtreme isPartial interval k s).stations = s.stations ∧ (sealExtreme isPartial interval k s).localIo = s.localIo ∧
    (sealExtreme isPartial interval k s).nsp = s.nsp ∧ (sealExtreme isPartial interval k s).firmware = s.firmware ∧
    (sealExtreme isPartial interval k s).alarms = s.alarms ∧ (sealExtreme isPartial interval k s).free = s.free ∧
    (sealExtreme isPartial interval k s).pending = s.pending := by
  unfold sealExtreme
  dsimp only
  (repeat' split) <;> simp

/-- Frame of `dropAccumulators`. -/
@[simp] theorem dropAccumulators_frame (f : Nat → Bool) (s : State) : (dropAccumulators f s).front = s.front ∧
    (dropAccumulators f s).supply = s.supply ∧ (dropAccumulators f s).modes = s.modes ∧
    (dropAccumulators f s).solver = s.solver ∧ (dropAccumulators f s).cycle = s.cycle ∧
    (dropAccumulators f s).change = s.change ∧ (dropAccumulators f s).seam = s.seam ∧ (dropAccumulators f s).pair = s.pair ∧
    (dropAccumulators f s).diag = s.diag ∧ (dropAccumulators f s).islands = s.islands ∧ (dropAccumulators f s).hub = s.hub ∧
    (dropAccumulators f s).protection = s.protection ∧ (dropAccumulators f s).network = s.network ∧
    (dropAccumulators f s).doors = s.doors ∧ (dropAccumulators f s).stations = s.stations ∧
    (dropAccumulators f s).localIo = s.localIo ∧ (dropAccumulators f s).nsp = s.nsp ∧
    (dropAccumulators f s).firmware = s.firmware ∧ (dropAccumulators f s).alarms = s.alarms ∧
    (dropAccumulators f s).free = s.free ∧ (dropAccumulators f s).pending = s.pending := by
  simp [dropAccumulators]

/-- Frame of a fold of `sealHistogram`. -/
@[simp] theorem foldl_sealHistogram_frame (isPartial : Bool) (n : Nat) (l : List (Nat × Nat)) (s : State) :
    (l.foldl (fun s k => sealHistogram isPartial n k s) s).front = s.front ∧
    (l.foldl (fun s k => sealHistogram isPartial n k s) s).supply = s.supply ∧
    (l.foldl (fun s k => sealHistogram isPartial n k s) s).modes = s.modes ∧
    (l.foldl (fun s k => sealHistogram isPartial n k s) s).solver = s.solver ∧
    (l.foldl (fun s k => sealHistogram isPartial n k s) s).cycle = s.cycle ∧
    (l.foldl (fun s k => sealHistogram isPartial n k s) s).change = s.change ∧
    (l.foldl (fun s k => sealHistogram isPartial n k s) s).seam = s.seam ∧
    (l.foldl (fun s k => sealHistogram isPartial n k s) s).pair = s.pair ∧
    (l.foldl (fun s k => sealHistogram isPartial n k s) s).diag = s.diag ∧
    (l.foldl (fun s k => sealHistogram isPartial n k s) s).islands = s.islands ∧
    (l.foldl (fun s k => sealHistogram isPartial n k s) s).hub = s.hub ∧
    (l.foldl (fun s k => sealHistogram isPartial n k s) s).protection = s.protection ∧
    (l.foldl (fun s k => sealHistogram isPartial n k s) s).network = s.network ∧
    (l.foldl (fun s k => sealHistogram isPartial n k s) s).doors = s.doors ∧
    (l.foldl (fun s k => sealHistogram isPartial n k s) s).stations = s.stations ∧
    (l.foldl (fun s k => sealHistogram isPartial n k s) s).localIo = s.localIo ∧
    (l.foldl (fun s k => sealHistogram isPartial n k s) s).nsp = s.nsp ∧
    (l.foldl (fun s k => sealHistogram isPartial n k s) s).firmware = s.firmware ∧
    (l.foldl (fun s k => sealHistogram isPartial n k s) s).alarms = s.alarms ∧
    (l.foldl (fun s k => sealHistogram isPartial n k s) s).free = s.free ∧
    (l.foldl (fun s k => sealHistogram isPartial n k s) s).pending = s.pending := by
  induction l generalizing s with
  | nil => simp
  | cons a l ih => simp [ih]

/-- Frame of a fold of `sealExtreme`. -/
@[simp] theorem foldl_sealExtreme_frame (isPartial : Bool) (n : Nat) (l : List (Nat × Nat)) (s : State) :
    (l.foldl (fun s k => sealExtreme isPartial n k s) s).front = s.front ∧
    (l.foldl (fun s k => sealExtreme isPartial n k s) s).supply = s.supply ∧
    (l.foldl (fun s k => sealExtreme isPartial n k s) s).modes = s.modes ∧
    (l.foldl (fun s k => sealExtreme isPartial n k s) s).solver = s.solver ∧
    (l.foldl (fun s k => sealExtreme isPartial n k s) s).cycle = s.cycle ∧
    (l.foldl (fun s k => sealExtreme isPartial n k s) s).change = s.change ∧
    (l.foldl (fun s k => sealExtreme isPartial n k s) s).seam = s.seam ∧
    (l.foldl (fun s k => sealExtreme isPartial n k s) s).pair = s.pair ∧
    (l.foldl (fun s k => sealExtreme isPartial n k s) s).diag = s.diag ∧
    (l.foldl (fun s k => sealExtreme isPartial n k s) s).islands = s.islands ∧
    (l.foldl (fun s k => sealExtreme isPartial n k s) s).hub = s.hub ∧
    (l.foldl (fun s k => sealExtreme isPartial n k s) s).protection = s.protection ∧
    (l.foldl (fun s k => sealExtreme isPartial n k s) s).network = s.network ∧
    (l.foldl (fun s k => sealExtreme isPartial n k s) s).doors = s.doors ∧
    (l.foldl (fun s k => sealExtreme isPartial n k s) s).stations = s.stations ∧
    (l.foldl (fun s k => sealExtreme isPartial n k s) s).localIo = s.localIo ∧
    (l.foldl (fun s k => sealExtreme isPartial n k s) s).nsp = s.nsp ∧
    (l.foldl (fun s k => sealExtreme isPartial n k s) s).firmware = s.firmware ∧
    (l.foldl (fun s k => sealExtreme isPartial n k s) s).alarms = s.alarms ∧
    (l.foldl (fun s k => sealExtreme isPartial n k s) s).free = s.free ∧
    (l.foldl (fun s k => sealExtreme isPartial n k s) s).pending = s.pending := by
  induction l generalizing s with
  | nil => simp
  | cons a l ih => simp [ih]

/-- Frame of `sealStatistics`. -/
@[simp] theorem sealStatistics_frame (isPartial : Bool) (s : State) : (sealStatistics isPartial s).front = s.front ∧
    (sealStatistics isPartial s).supply = s.supply ∧ (sealStatistics isPartial s).modes = s.modes ∧
    (sealStatistics isPartial s).solver = s.solver ∧ (sealStatistics isPartial s).cycle = s.cycle ∧
    (sealStatistics isPartial s).change = s.change ∧ (sealStatistics isPartial s).seam = s.seam ∧
    (sealStatistics isPartial s).pair = s.pair ∧ (sealStatistics isPartial s).diag = s.diag ∧
    (sealStatistics isPartial s).islands = s.islands ∧ (sealStatistics isPartial s).hub = s.hub ∧
    (sealStatistics isPartial s).protection = s.protection ∧ (sealStatistics isPartial s).network = s.network ∧
    (sealStatistics isPartial s).doors = s.doors ∧ (sealStatistics isPartial s).stations = s.stations ∧
    (sealStatistics isPartial s).localIo = s.localIo ∧ (sealStatistics isPartial s).nsp = s.nsp ∧
    (sealStatistics isPartial s).firmware = s.firmware ∧ (sealStatistics isPartial s).alarms = s.alarms ∧
    (sealStatistics isPartial s).free = s.free ∧ (sealStatistics isPartial s).pending = s.pending := by
  unfold sealStatistics
  simp

/-- Frame of `sealUnits`. -/
@[simp] theorem sealUnits_frame (isPartial : Bool) (s : State) : (sealUnits isPartial s).front = s.front ∧
    (sealUnits isPartial s).supply = s.supply ∧ (sealUnits isPartial s).modes = s.modes ∧
    (sealUnits isPartial s).solver = s.solver ∧ (sealUnits isPartial s).cycle = s.cycle ∧
    (sealUnits isPartial s).change = s.change ∧ (sealUnits isPartial s).seam = s.seam ∧ (sealUnits isPartial s).pair = s.pair ∧
    (sealUnits isPartial s).diag = s.diag ∧ (sealUnits isPartial s).islands = s.islands ∧ (sealUnits isPartial s).hub = s.hub ∧
    (sealUnits isPartial s).protection = s.protection ∧ (sealUnits isPartial s).network = s.network ∧
    (sealUnits isPartial s).doors = s.doors ∧ (sealUnits isPartial s).stations = s.stations ∧
    (sealUnits isPartial s).localIo = s.localIo ∧ (sealUnits isPartial s).nsp = s.nsp ∧
    (sealUnits isPartial s).firmware = s.firmware ∧ (sealUnits isPartial s).alarms = s.alarms ∧
    (sealUnits isPartial s).free = s.free ∧ (sealUnits isPartial s).pending = s.pending := by
  unfold sealUnits
  simp

/-- Frame of `sealPartial`. -/
@[simp] theorem sealPartial_frame (s : State) : (sealPartial s).front = s.front ∧ (sealPartial s).supply = s.supply ∧
    (sealPartial s).modes = s.modes ∧ (sealPartial s).solver = s.solver ∧ (sealPartial s).cycle = s.cycle ∧
    (sealPartial s).change = s.change ∧ (sealPartial s).seam = s.seam ∧ (sealPartial s).pair = s.pair ∧
    (sealPartial s).diag = s.diag ∧ (sealPartial s).islands = s.islands ∧ (sealPartial s).hub = s.hub ∧
    (sealPartial s).protection = s.protection ∧ (sealPartial s).network = s.network ∧ (sealPartial s).doors = s.doors ∧
    (sealPartial s).stations = s.stations ∧ (sealPartial s).localIo = s.localIo ∧ (sealPartial s).nsp = s.nsp ∧
    (sealPartial s).firmware = s.firmware ∧ (sealPartial s).alarms = s.alarms ∧ (sealPartial s).free = s.free ∧
    (sealPartial s).pending = s.pending := by
  unfold sealPartial
  (repeat' split) <;> simp

/-- Frame of `startFlush`. -/
@[simp] theorem startFlush_frame (cause : Nat) (s : State) : (startFlush cause s).front = s.front ∧
    (startFlush cause s).supply = s.supply ∧ (startFlush cause s).modes = s.modes ∧ (startFlush cause s).solver = s.solver ∧
    (startFlush cause s).cycle = s.cycle ∧ (startFlush cause s).change = s.change ∧ (startFlush cause s).seam = s.seam ∧
    (startFlush cause s).pair = s.pair ∧ (startFlush cause s).diag = s.diag ∧ (startFlush cause s).islands = s.islands ∧
    (startFlush cause s).hub = s.hub ∧ (startFlush cause s).protection = s.protection ∧
    (startFlush cause s).network = s.network ∧ (startFlush cause s).doors = s.doors ∧
    (startFlush cause s).stations = s.stations ∧ (startFlush cause s).localIo = s.localIo ∧ (startFlush cause s).nsp = s.nsp ∧
    (startFlush cause s).firmware = s.firmware ∧ (startFlush cause s).alarms = s.alarms ∧ (startFlush cause s).free = s.free ∧
    (startFlush cause s).pending = s.pending := by
  unfold startFlush
  (repeat' split) <;> simp

/-- Frame of `modIsland`. -/
@[simp] theorem modIsland_frame (n : Nat) (f : Island → Island) (s : State) : (modIsland n f s).front = s.front ∧
    (modIsland n f s).supply = s.supply ∧ (modIsland n f s).modes = s.modes ∧ (modIsland n f s).solver = s.solver ∧
    (modIsland n f s).cycle = s.cycle ∧ (modIsland n f s).change = s.change ∧ (modIsland n f s).seam = s.seam ∧
    (modIsland n f s).pair = s.pair ∧ (modIsland n f s).diag = s.diag ∧ (modIsland n f s).hub = s.hub ∧
    (modIsland n f s).protection = s.protection ∧ (modIsland n f s).network = s.network ∧ (modIsland n f s).doors = s.doors ∧
    (modIsland n f s).stations = s.stations ∧ (modIsland n f s).localIo = s.localIo ∧ (modIsland n f s).nsp = s.nsp ∧
    (modIsland n f s).firmware = s.firmware ∧ (modIsland n f s).quilt = s.quilt ∧ (modIsland n f s).alarms = s.alarms ∧
    (modIsland n f s).free = s.free ∧ (modIsland n f s).pending = s.pending := by
  simp [modIsland]

/-- Frame of `modCrossing`. -/
@[simp] theorem modCrossing_frame (n : Nat) (f : Crossing → Crossing) (s : State) : (modCrossing n f s).front = s.front ∧
    (modCrossing n f s).supply = s.supply ∧ (modCrossing n f s).modes = s.modes ∧ (modCrossing n f s).solver = s.solver ∧
    (modCrossing n f s).cycle = s.cycle ∧ (modCrossing n f s).change = s.change ∧ (modCrossing n f s).seam = s.seam ∧
    (modCrossing n f s).pair = s.pair ∧ (modCrossing n f s).diag = s.diag ∧
    (modCrossing n f s).islands.islands = s.islands.islands ∧ (modCrossing n f s).islands.reset = s.islands.reset ∧
    (modCrossing n f s).islands.resetResult = s.islands.resetResult ∧ (modCrossing n f s).hub = s.hub ∧
    (modCrossing n f s).protection = s.protection ∧ (modCrossing n f s).network = s.network ∧
    (modCrossing n f s).doors = s.doors ∧ (modCrossing n f s).stations = s.stations ∧ (modCrossing n f s).localIo = s.localIo ∧
    (modCrossing n f s).nsp = s.nsp ∧ (modCrossing n f s).firmware = s.firmware ∧ (modCrossing n f s).quilt = s.quilt ∧
    (modCrossing n f s).alarms = s.alarms ∧ (modCrossing n f s).free = s.free ∧ (modCrossing n f s).pending = s.pending := by
  simp [modCrossing]

/-- Frame of `modPort`. -/
@[simp] theorem modPort_frame (p : Nat) (f : Port → Port) (s : State) : (modPort p f s).front = s.front ∧
    (modPort p f s).supply = s.supply ∧ (modPort p f s).modes = s.modes ∧ (modPort p f s).solver = s.solver ∧
    (modPort p f s).cycle = s.cycle ∧ (modPort p f s).change = s.change ∧ (modPort p f s).seam = s.seam ∧
    (modPort p f s).pair = s.pair ∧ (modPort p f s).diag = s.diag ∧ (modPort p f s).islands = s.islands ∧
    (modPort p f s).hub = s.hub ∧ (modPort p f s).protection = s.protection ∧ (modPort p f s).network.ringA = s.network.ringA ∧
    (modPort p f s).network.ringB = s.network.ringB ∧ (modPort p f s).network.groups = s.network.groups ∧
    (modPort p f s).network.handed = s.network.handed ∧ (modPort p f s).network.delayFailures = s.network.delayFailures ∧
    (modPort p f s).network.largestDelay = s.network.largestDelay ∧ (modPort p f s).network.time = s.network.time ∧
    (modPort p f s).doors = s.doors ∧ (modPort p f s).stations = s.stations ∧ (modPort p f s).localIo = s.localIo ∧
    (modPort p f s).nsp = s.nsp ∧ (modPort p f s).firmware = s.firmware ∧ (modPort p f s).quilt = s.quilt ∧
    (modPort p f s).alarms = s.alarms ∧ (modPort p f s).free = s.free ∧ (modPort p f s).pending = s.pending := by
  simp [modPort]

/-- Frame of `modRing`. -/
@[simp] theorem modRing_frame (r : Bool) (f : Ring → Ring) (s : State) : (modRing r f s).front = s.front ∧
    (modRing r f s).supply = s.supply ∧ (modRing r f s).modes = s.modes ∧ (modRing r f s).solver = s.solver ∧
    (modRing r f s).cycle = s.cycle ∧ (modRing r f s).change = s.change ∧ (modRing r f s).seam = s.seam ∧
    (modRing r f s).pair = s.pair ∧ (modRing r f s).diag = s.diag ∧ (modRing r f s).islands = s.islands ∧
    (modRing r f s).hub = s.hub ∧ (modRing r f s).protection = s.protection ∧ (modRing r f s).network.ports = s.network.ports ∧
    (modRing r f s).network.groups = s.network.groups ∧ (modRing r f s).network.handed = s.network.handed ∧
    (modRing r f s).network.delayFailures = s.network.delayFailures ∧
    (modRing r f s).network.largestDelay = s.network.largestDelay ∧ (modRing r f s).network.time = s.network.time ∧
    (modRing r f s).doors = s.doors ∧ (modRing r f s).stations = s.stations ∧ (modRing r f s).localIo = s.localIo ∧
    (modRing r f s).nsp = s.nsp ∧ (modRing r f s).firmware = s.firmware ∧ (modRing r f s).quilt = s.quilt ∧
    (modRing r f s).alarms = s.alarms ∧ (modRing r f s).free = s.free ∧ (modRing r f s).pending = s.pending := by
  unfold modRing
  (repeat' split) <;> simp

/-- Frame of `modChannel`. -/
@[simp] theorem modChannel_frame (c : Nat) (f : Channel → Channel) (s : State) : (modChannel c f s).front = s.front ∧
    (modChannel c f s).supply = s.supply ∧ (modChannel c f s).modes = s.modes ∧ (modChannel c f s).solver = s.solver ∧
    (modChannel c f s).cycle = s.cycle ∧ (modChannel c f s).change = s.change ∧ (modChannel c f s).seam = s.seam ∧
    (modChannel c f s).pair = s.pair ∧ (modChannel c f s).diag = s.diag ∧ (modChannel c f s).islands = s.islands ∧
    (modChannel c f s).hub = s.hub ∧ (modChannel c f s).protection = s.protection ∧ (modChannel c f s).network = s.network ∧
    (modChannel c f s).stations = s.stations ∧ (modChannel c f s).localIo = s.localIo ∧ (modChannel c f s).nsp = s.nsp ∧
    (modChannel c f s).firmware = s.firmware ∧ (modChannel c f s).quilt = s.quilt ∧ (modChannel c f s).alarms = s.alarms ∧
    (modChannel c f s).free = s.free ∧ (modChannel c f s).pending = s.pending := by
  simp [modChannel]

/-- Frame of `modStation`. -/
@[simp] theorem modStation_frame (n : Nat) (f : Station → Station) (s : State) : (modStation n f s).front = s.front ∧
    (modStation n f s).supply = s.supply ∧ (modStation n f s).modes = s.modes ∧ (modStation n f s).solver = s.solver ∧
    (modStation n f s).cycle = s.cycle ∧ (modStation n f s).change = s.change ∧ (modStation n f s).seam = s.seam ∧
    (modStation n f s).pair = s.pair ∧ (modStation n f s).diag = s.diag ∧ (modStation n f s).islands = s.islands ∧
    (modStation n f s).hub = s.hub ∧ (modStation n f s).protection = s.protection ∧ (modStation n f s).network = s.network ∧
    (modStation n f s).doors = s.doors ∧ (modStation n f s).localIo = s.localIo ∧ (modStation n f s).nsp = s.nsp ∧
    (modStation n f s).firmware = s.firmware ∧ (modStation n f s).quilt = s.quilt ∧ (modStation n f s).alarms = s.alarms ∧
    (modStation n f s).free = s.free ∧ (modStation n f s).pending = s.pending := by
  simp [modStation]

/-- Frame of `modSession`. -/
@[simp] theorem modSession_frame (n : Nat) (f : Session → Session) (s : State) : (modSession n f s).front = s.front ∧
    (modSession n f s).supply = s.supply ∧ (modSession n f s).modes = s.modes ∧ (modSession n f s).solver = s.solver ∧
    (modSession n f s).cycle = s.cycle ∧ (modSession n f s).change = s.change ∧ (modSession n f s).seam = s.seam ∧
    (modSession n f s).pair = s.pair ∧ (modSession n f s).diag = s.diag ∧ (modSession n f s).islands = s.islands ∧
    (modSession n f s).hub = s.hub ∧ (modSession n f s).protection = s.protection ∧ (modSession n f s).network = s.network ∧
    (modSession n f s).doors = s.doors ∧ (modSession n f s).stations = s.stations ∧ (modSession n f s).localIo = s.localIo ∧
    (modSession n f s).nsp.shadow = s.nsp.shadow ∧ (modSession n f s).nsp.stored0 = s.nsp.stored0 ∧
    (modSession n f s).nsp.stored1 = s.nsp.stored1 ∧ (modSession n f s).nsp.generation = s.nsp.generation ∧
    (modSession n f s).nsp.inForce = s.nsp.inForce ∧ (modSession n f s).nsp.settings = s.nsp.settings ∧
    (modSession n f s).firmware = s.firmware ∧ (modSession n f s).quilt = s.quilt ∧ (modSession n f s).alarms = s.alarms ∧
    (modSession n f s).free = s.free ∧ (modSession n f s).pending = s.pending := by
  simp [modSession]

/-- Frame of `modSeamLane`. -/
@[simp] theorem modSeamLane_frame (l : Fin 2) (f : SeamLane → SeamLane) (s : State) : (modSeamLane l f s).front = s.front ∧
    (modSeamLane l f s).supply = s.supply ∧ (modSeamLane l f s).modes = s.modes ∧ (modSeamLane l f s).solver = s.solver ∧
    (modSeamLane l f s).cycle = s.cycle ∧ (modSeamLane l f s).change = s.change ∧ (modSeamLane l f s).pair = s.pair ∧
    (modSeamLane l f s).diag = s.diag ∧ (modSeamLane l f s).islands = s.islands ∧ (modSeamLane l f s).hub = s.hub ∧
    (modSeamLane l f s).protection = s.protection ∧ (modSeamLane l f s).network = s.network ∧
    (modSeamLane l f s).doors = s.doors ∧ (modSeamLane l f s).stations = s.stations ∧ (modSeamLane l f s).localIo = s.localIo ∧
    (modSeamLane l f s).nsp = s.nsp ∧ (modSeamLane l f s).firmware = s.firmware ∧ (modSeamLane l f s).quilt = s.quilt ∧
    (modSeamLane l f s).alarms = s.alarms ∧ (modSeamLane l f s).free = s.free ∧ (modSeamLane l f s).pending = s.pending := by
  unfold modSeamLane
  (repeat' split) <;> simp

/-- Frame of `modGroup`. -/
@[simp] theorem modGroup_frame (g : Nat) (f : LaunchGroup → LaunchGroup) (s : State) : (modGroup g f s).front = s.front ∧
    (modGroup g f s).supply = s.supply ∧ (modGroup g f s).modes = s.modes ∧ (modGroup g f s).solver = s.solver ∧
    (modGroup g f s).cycle = s.cycle ∧ (modGroup g f s).change = s.change ∧ (modGroup g f s).seam = s.seam ∧
    (modGroup g f s).pair = s.pair ∧ (modGroup g f s).diag = s.diag ∧ (modGroup g f s).islands = s.islands ∧
    (modGroup g f s).hub = s.hub ∧ (modGroup g f s).protection = s.protection ∧
    (modGroup g f s).network.ports = s.network.ports ∧ (modGroup g f s).network.ringA = s.network.ringA ∧
    (modGroup g f s).network.ringB = s.network.ringB ∧ (modGroup g f s).network.handed = s.network.handed ∧
    (modGroup g f s).network.delayFailures = s.network.delayFailures ∧
    (modGroup g f s).network.largestDelay = s.network.largestDelay ∧ (modGroup g f s).network.time = s.network.time ∧
    (modGroup g f s).doors = s.doors ∧ (modGroup g f s).stations = s.stations ∧ (modGroup g f s).localIo = s.localIo ∧
    (modGroup g f s).nsp = s.nsp ∧ (modGroup g f s).firmware = s.firmware ∧ (modGroup g f s).quilt = s.quilt ∧
    (modGroup g f s).alarms = s.alarms ∧ (modGroup g f s).free = s.free ∧ (modGroup g f s).pending = s.pending := by
  simp [modGroup]

/-- Frame of `countLaunch`. -/
@[simp] theorem countLaunch_frame (prev : Option TxFrame) (f : TxFrame) (s : State) : (countLaunch prev f s).front = s.front ∧
    (countLaunch prev f s).supply = s.supply ∧ (countLaunch prev f s).modes = s.modes ∧
    (countLaunch prev f s).solver = s.solver ∧ (countLaunch prev f s).cycle = s.cycle ∧
    (countLaunch prev f s).change = s.change ∧ (countLaunch prev f s).seam = s.seam ∧ (countLaunch prev f s).pair = s.pair ∧
    (countLaunch prev f s).diag = s.diag ∧ (countLaunch prev f s).islands = s.islands ∧ (countLaunch prev f s).hub = s.hub ∧
    (countLaunch prev f s).protection = s.protection ∧ (countLaunch prev f s).network.ports = s.network.ports ∧
    (countLaunch prev f s).network.ringA = s.network.ringA ∧ (countLaunch prev f s).network.ringB = s.network.ringB ∧
    (countLaunch prev f s).network.handed = s.network.handed ∧
    (countLaunch prev f s).network.delayFailures = s.network.delayFailures ∧
    (countLaunch prev f s).network.largestDelay = s.network.largestDelay ∧
    (countLaunch prev f s).network.time = s.network.time ∧ (countLaunch prev f s).doors = s.doors ∧
    (countLaunch prev f s).stations = s.stations ∧ (countLaunch prev f s).localIo = s.localIo ∧
    (countLaunch prev f s).nsp = s.nsp ∧ (countLaunch prev f s).firmware = s.firmware ∧ (countLaunch prev f s).quilt = s.quilt ∧
    (countLaunch prev f s).alarms = s.alarms ∧ (countLaunch prev f s).free = s.free ∧
    (countLaunch prev f s).pending = s.pending := by
  unfold countLaunch
  (repeat' split) <;> simp

/-- Frame of `pumpPort`. -/
@[simp] theorem pumpPort_frame (prev : Option TxFrame) (n : Nat) (s : State) : (pumpPort prev n s).front = s.front ∧
    (pumpPort prev n s).supply = s.supply ∧ (pumpPort prev n s).modes = s.modes ∧ (pumpPort prev n s).solver = s.solver ∧
    (pumpPort prev n s).cycle = s.cycle ∧ (pumpPort prev n s).change = s.change ∧ (pumpPort prev n s).seam = s.seam ∧
    (pumpPort prev n s).pair = s.pair ∧ (pumpPort prev n s).diag = s.diag ∧ (pumpPort prev n s).islands = s.islands ∧
    (pumpPort prev n s).hub = s.hub ∧ (pumpPort prev n s).protection = s.protection ∧
    (pumpPort prev n s).network.ringA = s.network.ringA ∧ (pumpPort prev n s).network.ringB = s.network.ringB ∧
    (pumpPort prev n s).network.handed = s.network.handed ∧
    (pumpPort prev n s).network.delayFailures = s.network.delayFailures ∧
    (pumpPort prev n s).network.largestDelay = s.network.largestDelay ∧ (pumpPort prev n s).network.time = s.network.time ∧
    (pumpPort prev n s).doors = s.doors ∧ (pumpPort prev n s).stations = s.stations ∧ (pumpPort prev n s).localIo = s.localIo ∧
    (pumpPort prev n s).nsp = s.nsp ∧ (pumpPort prev n s).firmware = s.firmware ∧ (pumpPort prev n s).quilt = s.quilt ∧
    (pumpPort prev n s).alarms = s.alarms ∧ (pumpPort prev n s).free = s.free ∧ (pumpPort prev n s).pending = s.pending := by
  unfold pumpPort
  dsimp only
  (repeat' split) <;> simp

/-- Frame of `pumpPorts`. -/
@[simp] theorem pumpPorts_frame (s : State) : (pumpPorts s).front = s.front ∧ (pumpPorts s).supply = s.supply ∧
    (pumpPorts s).modes = s.modes ∧ (pumpPorts s).solver = s.solver ∧ (pumpPorts s).cycle = s.cycle ∧
    (pumpPorts s).change = s.change ∧ (pumpPorts s).seam = s.seam ∧ (pumpPorts s).pair = s.pair ∧ (pumpPorts s).diag = s.diag ∧
    (pumpPorts s).islands = s.islands ∧ (pumpPorts s).hub = s.hub ∧ (pumpPorts s).protection = s.protection ∧
    (pumpPorts s).network.ringA = s.network.ringA ∧ (pumpPorts s).network.ringB = s.network.ringB ∧
    (pumpPorts s).network.handed = s.network.handed ∧ (pumpPorts s).network.delayFailures = s.network.delayFailures ∧
    (pumpPorts s).network.largestDelay = s.network.largestDelay ∧ (pumpPorts s).network.time = s.network.time ∧
    (pumpPorts s).doors = s.doors ∧ (pumpPorts s).stations = s.stations ∧ (pumpPorts s).localIo = s.localIo ∧
    (pumpPorts s).nsp = s.nsp ∧ (pumpPorts s).firmware = s.firmware ∧ (pumpPorts s).quilt = s.quilt ∧
    (pumpPorts s).alarms = s.alarms ∧ (pumpPorts s).free = s.free ∧ (pumpPorts s).pending = s.pending := by
  unfold pumpPorts
  generalize rangeFrom 1 4 = l
  induction l generalizing s with
  | nil => simp
  | cons a l ih => simp [ih]

/-- Frame of `enterQueue`. -/
@[simp] theorem enterQueue_frame (f : TxFrame) (n : Nat) (s : State) : (enterQueue f n s).front = s.front ∧
    (enterQueue f n s).supply = s.supply ∧ (enterQueue f n s).modes = s.modes ∧ (enterQueue f n s).solver = s.solver ∧
    (enterQueue f n s).cycle = s.cycle ∧ (enterQueue f n s).change = s.change ∧ (enterQueue f n s).seam = s.seam ∧
    (enterQueue f n s).pair = s.pair ∧ (enterQueue f n s).diag = s.diag ∧ (enterQueue f n s).islands = s.islands ∧
    (enterQueue f n s).hub = s.hub ∧ (enterQueue f n s).protection = s.protection ∧
    (enterQueue f n s).network.ringA = s.network.ringA ∧ (enterQueue f n s).network.ringB = s.network.ringB ∧
    (enterQueue f n s).network.handed = s.network.handed ∧ (enterQueue f n s).network.delayFailures = s.network.delayFailures ∧
    (enterQueue f n s).network.largestDelay = s.network.largestDelay ∧ (enterQueue f n s).network.time = s.network.time ∧
    (enterQueue f n s).doors = s.doors ∧ (enterQueue f n s).stations = s.stations ∧ (enterQueue f n s).localIo = s.localIo ∧
    (enterQueue f n s).nsp = s.nsp ∧ (enterQueue f n s).firmware = s.firmware ∧ (enterQueue f n s).quilt = s.quilt ∧
    (enterQueue f n s).alarms = s.alarms ∧ (enterQueue f n s).free = s.free ∧ (enterQueue f n s).pending = s.pending := by
  unfold enterQueue
  dsimp only
  (repeat' split) <;> simp

/-- Frame of `enterRing`. -/
@[simp] theorem enterRing_frame (f : TxFrame) (s : State) : (enterRing f s).front = s.front ∧
    (enterRing f s).supply = s.supply ∧ (enterRing f s).modes = s.modes ∧ (enterRing f s).solver = s.solver ∧
    (enterRing f s).cycle = s.cycle ∧ (enterRing f s).change = s.change ∧ (enterRing f s).seam = s.seam ∧
    (enterRing f s).pair = s.pair ∧ (enterRing f s).diag = s.diag ∧ (enterRing f s).islands = s.islands ∧
    (enterRing f s).hub = s.hub ∧ (enterRing f s).protection = s.protection ∧
    (enterRing f s).network.handed = s.network.handed ∧ (enterRing f s).network.delayFailures = s.network.delayFailures ∧
    (enterRing f s).network.largestDelay = s.network.largestDelay ∧ (enterRing f s).network.time = s.network.time ∧
    (enterRing f s).doors = s.doors ∧ (enterRing f s).stations = s.stations ∧ (enterRing f s).localIo = s.localIo ∧
    (enterRing f s).nsp = s.nsp ∧ (enterRing f s).firmware = s.firmware ∧ (enterRing f s).quilt = s.quilt ∧
    (enterRing f s).alarms = s.alarms ∧ (enterRing f s).free = s.free ∧ (enterRing f s).pending = s.pending := by
  unfold enterRing
  simp only [modRing_frame]
  generalize portsOf f.ring = l
  induction l generalizing s with
  | nil => simp
  | cons a l ih => simp [ih]

/-- Frame of `closedWrite`. -/
@[simp] theorem closedWrite_frame (n : Nat) (s : State) : (closedWrite n s).front = s.front ∧
    (closedWrite n s).supply = s.supply ∧ (closedWrite n s).modes = s.modes ∧ (closedWrite n s).solver = s.solver ∧
    (closedWrite n s).cycle = s.cycle ∧ (closedWrite n s).change = s.change ∧ (closedWrite n s).seam = s.seam ∧
    (closedWrite n s).pair = s.pair ∧ (closedWrite n s).diag = s.diag ∧ (closedWrite n s).islands.islands = s.islands.islands ∧
    (closedWrite n s).islands.reset = s.islands.reset ∧ (closedWrite n s).islands.resetResult = s.islands.resetResult ∧
    (closedWrite n s).hub = s.hub ∧ (closedWrite n s).protection = s.protection ∧ (closedWrite n s).network = s.network ∧
    (closedWrite n s).doors = s.doors ∧ (closedWrite n s).stations = s.stations ∧ (closedWrite n s).localIo = s.localIo ∧
    (closedWrite n s).nsp = s.nsp ∧ (closedWrite n s).firmware = s.firmware ∧ (closedWrite n s).quilt = s.quilt ∧
    (closedWrite n s).alarms = s.alarms ∧ (closedWrite n s).free = s.free ∧ (closedWrite n s).pending = s.pending := by
  simp [closedWrite]

/-- Frame of `queueFrame`. -/
@[simp] theorem queueFrame_frame (f : TxFrame) (s : State) : (queueFrame f s).front = s.front ∧
    (queueFrame f s).supply = s.supply ∧ (queueFrame f s).modes = s.modes ∧ (queueFrame f s).solver = s.solver ∧
    (queueFrame f s).cycle = s.cycle ∧ (queueFrame f s).change = s.change ∧ (queueFrame f s).seam = s.seam ∧
    (queueFrame f s).pair = s.pair ∧ (queueFrame f s).diag = s.diag ∧ (queueFrame f s).islands.islands = s.islands.islands ∧
    (queueFrame f s).islands.reset = s.islands.reset ∧ (queueFrame f s).islands.resetResult = s.islands.resetResult ∧
    (queueFrame f s).hub = s.hub ∧ (queueFrame f s).protection = s.protection ∧
    (queueFrame f s).network.handed = s.network.handed ∧ (queueFrame f s).network.delayFailures = s.network.delayFailures ∧
    (queueFrame f s).network.largestDelay = s.network.largestDelay ∧ (queueFrame f s).network.time = s.network.time ∧
    (queueFrame f s).doors = s.doors ∧ (queueFrame f s).stations = s.stations ∧ (queueFrame f s).localIo = s.localIo ∧
    (queueFrame f s).nsp = s.nsp ∧ (queueFrame f s).firmware = s.firmware ∧ (queueFrame f s).quilt = s.quilt ∧
    (queueFrame f s).alarms = s.alarms ∧ (queueFrame f s).free = s.free ∧ (queueFrame f s).pending = s.pending := by
  unfold queueFrame through
  split <;> simp

/-- Frame of `replyOn`. -/
@[simp] theorem replyOn_frame (c : Option Carrier) (r : NspReply) (s : State) : (replyOn c r s).front = s.front ∧
    (replyOn c r s).supply = s.supply ∧ (replyOn c r s).modes = s.modes ∧ (replyOn c r s).solver = s.solver ∧
    (replyOn c r s).cycle = s.cycle ∧ (replyOn c r s).change = s.change ∧ (replyOn c r s).seam = s.seam ∧
    (replyOn c r s).pair = s.pair ∧ (replyOn c r s).diag = s.diag ∧ (replyOn c r s).islands.islands = s.islands.islands ∧
    (replyOn c r s).islands.reset = s.islands.reset ∧ (replyOn c r s).islands.resetResult = s.islands.resetResult ∧
    (replyOn c r s).hub = s.hub ∧ (replyOn c r s).protection = s.protection ∧
    (replyOn c r s).network.handed = s.network.handed ∧ (replyOn c r s).network.delayFailures = s.network.delayFailures ∧
    (replyOn c r s).network.largestDelay = s.network.largestDelay ∧ (replyOn c r s).network.time = s.network.time ∧
    (replyOn c r s).stations = s.stations ∧ (replyOn c r s).localIo = s.localIo ∧ (replyOn c r s).nsp.shadow = s.nsp.shadow ∧
    (replyOn c r s).nsp.stored0 = s.nsp.stored0 ∧ (replyOn c r s).nsp.stored1 = s.nsp.stored1 ∧
    (replyOn c r s).nsp.generation = s.nsp.generation ∧ (replyOn c r s).nsp.inForce = s.nsp.inForce ∧
    (replyOn c r s).nsp.sessions = s.nsp.sessions ∧ (replyOn c r s).nsp.settings = s.nsp.settings ∧
    (replyOn c r s).firmware = s.firmware ∧ (replyOn c r s).quilt = s.quilt ∧ (replyOn c r s).alarms = s.alarms ∧
    (replyOn c r s).free = s.free ∧ (replyOn c r s).pending = s.pending := by
  unfold replyOn
  (repeat' split) <;> simp

/-- Frame of `sendReply`. -/
@[simp] theorem sendReply_frame (r : NspReply) (s : State) : (sendReply r s).front = s.front ∧
    (sendReply r s).supply = s.supply ∧ (sendReply r s).modes = s.modes ∧ (sendReply r s).solver = s.solver ∧
    (sendReply r s).cycle = s.cycle ∧ (sendReply r s).change = s.change ∧ (sendReply r s).seam = s.seam ∧
    (sendReply r s).pair = s.pair ∧ (sendReply r s).diag = s.diag ∧ (sendReply r s).islands.islands = s.islands.islands ∧
    (sendReply r s).islands.reset = s.islands.reset ∧ (sendReply r s).islands.resetResult = s.islands.resetResult ∧
    (sendReply r s).hub = s.hub ∧ (sendReply r s).protection = s.protection ∧
    (sendReply r s).network.handed = s.network.handed ∧ (sendReply r s).network.delayFailures = s.network.delayFailures ∧
    (sendReply r s).network.largestDelay = s.network.largestDelay ∧ (sendReply r s).network.time = s.network.time ∧
    (sendReply r s).stations = s.stations ∧ (sendReply r s).localIo = s.localIo ∧ (sendReply r s).nsp.shadow = s.nsp.shadow ∧
    (sendReply r s).nsp.stored0 = s.nsp.stored0 ∧ (sendReply r s).nsp.stored1 = s.nsp.stored1 ∧
    (sendReply r s).nsp.generation = s.nsp.generation ∧ (sendReply r s).nsp.inForce = s.nsp.inForce ∧
    (sendReply r s).nsp.settings = s.nsp.settings ∧ (sendReply r s).firmware = s.firmware ∧ (sendReply r s).quilt = s.quilt ∧
    (sendReply r s).alarms = s.alarms ∧ (sendReply r s).free = s.free ∧ (sendReply r s).pending = s.pending := by
  simp [sendReply]

/-- Frame of `completeReply`. -/
@[simp] theorem completeReply_frame (n index sub status : Nat) (s : State) :
    (completeReply n index sub status s).front = s.front ∧ (completeReply n index sub status s).supply = s.supply ∧
    (completeReply n index sub status s).modes = s.modes ∧ (completeReply n index sub status s).solver = s.solver ∧
    (completeReply n index sub status s).cycle = s.cycle ∧ (completeReply n index sub status s).change = s.change ∧
    (completeReply n index sub status s).seam = s.seam ∧ (completeReply n index sub status s).pair = s.pair ∧
    (completeReply n index sub status s).diag = s.diag ∧
    (completeReply n index sub status s).islands.islands = s.islands.islands ∧
    (completeReply n index sub status s).islands.reset = s.islands.reset ∧
    (completeReply n index sub status s).islands.resetResult = s.islands.resetResult ∧
    (completeReply n index sub status s).hub = s.hub ∧ (completeReply n index sub status s).protection = s.protection ∧
    (completeReply n index sub status s).network.handed = s.network.handed ∧
    (completeReply n index sub status s).network.delayFailures = s.network.delayFailures ∧
    (completeReply n index sub status s).network.largestDelay = s.network.largestDelay ∧
    (completeReply n index sub status s).network.time = s.network.time ∧
    (completeReply n index sub status s).stations = s.stations ∧ (completeReply n index sub status s).localIo = s.localIo ∧
    (completeReply n index sub status s).nsp.shadow = s.nsp.shadow ∧
    (completeReply n index sub status s).nsp.stored0 = s.nsp.stored0 ∧
    (completeReply n index sub status s).nsp.stored1 = s.nsp.stored1 ∧
    (completeReply n index sub status s).nsp.generation = s.nsp.generation ∧
    (completeReply n index sub status s).nsp.inForce = s.nsp.inForce ∧
    (completeReply n index sub status s).nsp.settings = s.nsp.settings ∧
    (completeReply n index sub status s).firmware = s.firmware ∧ (completeReply n index sub status s).quilt = s.quilt ∧
    (completeReply n index sub status s).alarms = s.alarms ∧ (completeReply n index sub status s).free = s.free ∧
    (completeReply n index sub status s).pending = s.pending := by
  unfold completeReply
  (repeat' split) <;> simp

/-- Frame of `completeReplies`. -/
@[simp] theorem completeReplies_frame (index sub status : Nat) (s : State) :
    (completeReplies index sub status s).front = s.front ∧ (completeReplies index sub status s).supply = s.supply ∧
    (completeReplies index sub status s).modes = s.modes ∧ (completeReplies index sub status s).solver = s.solver ∧
    (completeReplies index sub status s).cycle = s.cycle ∧ (completeReplies index sub status s).change = s.change ∧
    (completeReplies index sub status s).seam = s.seam ∧ (completeReplies index sub status s).pair = s.pair ∧
    (completeReplies index sub status s).diag = s.diag ∧
    (completeReplies index sub status s).islands.islands = s.islands.islands ∧
    (completeReplies index sub status s).islands.reset = s.islands.reset ∧
    (completeReplies index sub status s).islands.resetResult = s.islands.resetResult ∧
    (completeReplies index sub status s).hub = s.hub ∧ (completeReplies index sub status s).protection = s.protection ∧
    (completeReplies index sub status s).network.handed = s.network.handed ∧
    (completeReplies index sub status s).network.delayFailures = s.network.delayFailures ∧
    (completeReplies index sub status s).network.largestDelay = s.network.largestDelay ∧
    (completeReplies index sub status s).network.time = s.network.time ∧
    (completeReplies index sub status s).stations = s.stations ∧ (completeReplies index sub status s).localIo = s.localIo ∧
    (completeReplies index sub status s).nsp.shadow = s.nsp.shadow ∧
    (completeReplies index sub status s).nsp.stored0 = s.nsp.stored0 ∧
    (completeReplies index sub status s).nsp.stored1 = s.nsp.stored1 ∧
    (completeReplies index sub status s).nsp.generation = s.nsp.generation ∧
    (completeReplies index sub status s).nsp.inForce = s.nsp.inForce ∧
    (completeReplies index sub status s).nsp.settings = s.nsp.settings ∧
    (completeReplies index sub status s).firmware = s.firmware ∧ (completeReplies index sub status s).quilt = s.quilt ∧
    (completeReplies index sub status s).alarms = s.alarms ∧ (completeReplies index sub status s).free = s.free ∧
    (completeReplies index sub status s).pending = s.pending := by
  unfold completeReplies
  generalize List.range 16 = l
  induction l generalizing s with
  | nil => simp
  | cons a l ih => simp [ih]

/-- Frame of `resendOn`. -/
@[simp] theorem resendOn_frame (n : Fin 2) (q : BitVec 16) (s : State) : (resendOn n q s).front = s.front ∧
    (resendOn n q s).supply = s.supply ∧ (resendOn n q s).modes = s.modes ∧ (resendOn n q s).solver = s.solver ∧
    (resendOn n q s).cycle = s.cycle ∧ (resendOn n q s).change = s.change ∧ (resendOn n q s).pair = s.pair ∧
    (resendOn n q s).diag = s.diag ∧ (resendOn n q s).islands = s.islands ∧ (resendOn n q s).hub = s.hub ∧
    (resendOn n q s).protection = s.protection ∧ (resendOn n q s).network = s.network ∧ (resendOn n q s).doors = s.doors ∧
    (resendOn n q s).stations = s.stations ∧ (resendOn n q s).localIo = s.localIo ∧ (resendOn n q s).nsp = s.nsp ∧
    (resendOn n q s).firmware = s.firmware ∧ (resendOn n q s).quilt = s.quilt ∧ (resendOn n q s).alarms = s.alarms ∧
    (resendOn n q s).free = s.free ∧ (resendOn n q s).pending = s.pending := by
  unfold resendOn
  (repeat' split) <;> simp

/-- Frame of `pumpService`. -/
@[simp] theorem pumpService_frame (n : Fin 2) (s : State) : (pumpService n s).front = s.front ∧
    (pumpService n s).supply = s.supply ∧ (pumpService n s).modes = s.modes ∧ (pumpService n s).solver = s.solver ∧
    (pumpService n s).cycle = s.cycle ∧ (pumpService n s).change = s.change ∧ (pumpService n s).pair = s.pair ∧
    (pumpService n s).diag = s.diag ∧ (pumpService n s).islands = s.islands ∧ (pumpService n s).hub = s.hub ∧
    (pumpService n s).protection = s.protection ∧ (pumpService n s).network = s.network ∧ (pumpService n s).doors = s.doors ∧
    (pumpService n s).stations = s.stations ∧ (pumpService n s).localIo = s.localIo ∧ (pumpService n s).nsp = s.nsp ∧
    (pumpService n s).firmware = s.firmware ∧ (pumpService n s).quilt = s.quilt ∧ (pumpService n s).alarms = s.alarms ∧
    (pumpService n s).free = s.free ∧ (pumpService n s).pending = s.pending := by
  unfold pumpService serviceSent
  (repeat' split) <;> simp

/-- Frame of `pumpLane`. -/
@[simp] theorem pumpLane_frame (n : Fin 2) (s : State) : (pumpLane n s).front = s.front ∧ (pumpLane n s).supply = s.supply ∧
    (pumpLane n s).modes = s.modes ∧ (pumpLane n s).solver = s.solver ∧ (pumpLane n s).cycle = s.cycle ∧
    (pumpLane n s).change = s.change ∧ (pumpLane n s).pair = s.pair ∧ (pumpLane n s).diag = s.diag ∧
    (pumpLane n s).islands = s.islands ∧ (pumpLane n s).hub = s.hub ∧ (pumpLane n s).protection = s.protection ∧
    (pumpLane n s).network = s.network ∧ (pumpLane n s).doors = s.doors ∧ (pumpLane n s).stations = s.stations ∧
    (pumpLane n s).localIo = s.localIo ∧ (pumpLane n s).nsp = s.nsp ∧ (pumpLane n s).firmware = s.firmware ∧
    (pumpLane n s).quilt = s.quilt ∧ (pumpLane n s).alarms = s.alarms ∧ (pumpLane n s).free = s.free ∧
    (pumpLane n s).pending = s.pending := by
  unfold pumpLane
  dsimp only
  (repeat' split) <;> simp

/-- Frame of `pumpSeam`. -/
@[simp] theorem pumpSeam_frame (s : State) : (pumpSeam s).front = s.front ∧ (pumpSeam s).supply = s.supply ∧
    (pumpSeam s).modes = s.modes ∧ (pumpSeam s).solver = s.solver ∧ (pumpSeam s).cycle = s.cycle ∧
    (pumpSeam s).change = s.change ∧ (pumpSeam s).pair = s.pair ∧ (pumpSeam s).diag = s.diag ∧
    (pumpSeam s).islands = s.islands ∧ (pumpSeam s).hub = s.hub ∧ (pumpSeam s).protection = s.protection ∧
    (pumpSeam s).network = s.network ∧ (pumpSeam s).doors = s.doors ∧ (pumpSeam s).stations = s.stations ∧
    (pumpSeam s).localIo = s.localIo ∧ (pumpSeam s).nsp = s.nsp ∧ (pumpSeam s).firmware = s.firmware ∧
    (pumpSeam s).quilt = s.quilt ∧ (pumpSeam s).alarms = s.alarms ∧ (pumpSeam s).free = s.free ∧
    (pumpSeam s).pending = s.pending := by
  simp [pumpSeam]

/-- Frame of `sendSeam`. -/
@[simp] theorem sendSeam_frame (m : PairMsg) (s : State) : (sendSeam m s).front = s.front ∧ (sendSeam m s).supply = s.supply ∧
    (sendSeam m s).modes = s.modes ∧ (sendSeam m s).solver = s.solver ∧ (sendSeam m s).cycle = s.cycle ∧
    (sendSeam m s).change = s.change ∧ (sendSeam m s).pair.jersey = s.pair.jersey ∧
    (sendSeam m s).pair.highest = s.pair.highest ∧ (sendSeam m s).pair.standby = s.pair.standby ∧
    (sendSeam m s).pair.handover = s.pair.handover ∧ (sendSeam m s).diag = s.diag ∧ (sendSeam m s).islands = s.islands ∧
    (sendSeam m s).hub = s.hub ∧ (sendSeam m s).protection = s.protection ∧ (sendSeam m s).network = s.network ∧
    (sendSeam m s).doors = s.doors ∧ (sendSeam m s).stations = s.stations ∧ (sendSeam m s).localIo = s.localIo ∧
    (sendSeam m s).nsp = s.nsp ∧ (sendSeam m s).firmware = s.firmware ∧ (sendSeam m s).quilt = s.quilt ∧
    (sendSeam m s).alarms = s.alarms ∧ (sendSeam m s).free = s.free ∧ (sendSeam m s).pending = s.pending := by
  simp [sendSeam]

/-- Frame of `sendNetwork`. -/
@[simp] theorem sendNetwork_frame (m : PairMsg) (s : State) : (sendNetwork m s).front = s.front ∧
    (sendNetwork m s).supply = s.supply ∧ (sendNetwork m s).modes = s.modes ∧ (sendNetwork m s).solver = s.solver ∧
    (sendNetwork m s).cycle = s.cycle ∧ (sendNetwork m s).change = s.change ∧ (sendNetwork m s).seam = s.seam ∧
    (sendNetwork m s).pair.jersey = s.pair.jersey ∧ (sendNetwork m s).pair.highest = s.pair.highest ∧
    (sendNetwork m s).pair.standby = s.pair.standby ∧ (sendNetwork m s).pair.handover = s.pair.handover ∧
    (sendNetwork m s).diag = s.diag ∧ (sendNetwork m s).islands.islands = s.islands.islands ∧
    (sendNetwork m s).islands.reset = s.islands.reset ∧ (sendNetwork m s).islands.resetResult = s.islands.resetResult ∧
    (sendNetwork m s).hub = s.hub ∧ (sendNetwork m s).protection = s.protection ∧
    (sendNetwork m s).network.handed = s.network.handed ∧ (sendNetwork m s).network.delayFailures = s.network.delayFailures ∧
    (sendNetwork m s).network.largestDelay = s.network.largestDelay ∧ (sendNetwork m s).network.time = s.network.time ∧
    (sendNetwork m s).doors = s.doors ∧ (sendNetwork m s).stations = s.stations ∧ (sendNetwork m s).localIo = s.localIo ∧
    (sendNetwork m s).nsp = s.nsp ∧ (sendNetwork m s).firmware = s.firmware ∧ (sendNetwork m s).quilt = s.quilt ∧
    (sendNetwork m s).alarms = s.alarms ∧ (sendNetwork m s).free = s.free ∧ (sendNetwork m s).pending = s.pending := by
  simp [sendNetwork]

/-- Frame of `sendBoth`. -/
@[simp] theorem sendBoth_frame (kind : Nat) (arg : PairArg) (s : State) : (sendBoth kind arg s).front = s.front ∧
    (sendBoth kind arg s).supply = s.supply ∧ (sendBoth kind arg s).modes = s.modes ∧ (sendBoth kind arg s).solver = s.solver ∧
    (sendBoth kind arg s).cycle = s.cycle ∧ (sendBoth kind arg s).change = s.change ∧
    (sendBoth kind arg s).pair.jersey = s.pair.jersey ∧ (sendBoth kind arg s).pair.highest = s.pair.highest ∧
    (sendBoth kind arg s).pair.standby = s.pair.standby ∧ (sendBoth kind arg s).pair.handover = s.pair.handover ∧
    (sendBoth kind arg s).diag = s.diag ∧ (sendBoth kind arg s).islands.islands = s.islands.islands ∧
    (sendBoth kind arg s).islands.reset = s.islands.reset ∧ (sendBoth kind arg s).islands.resetResult = s.islands.resetResult ∧
    (sendBoth kind arg s).hub = s.hub ∧ (sendBoth kind arg s).protection = s.protection ∧
    (sendBoth kind arg s).network.handed = s.network.handed ∧
    (sendBoth kind arg s).network.delayFailures = s.network.delayFailures ∧
    (sendBoth kind arg s).network.largestDelay = s.network.largestDelay ∧ (sendBoth kind arg s).network.time = s.network.time ∧
    (sendBoth kind arg s).doors = s.doors ∧ (sendBoth kind arg s).stations = s.stations ∧
    (sendBoth kind arg s).localIo = s.localIo ∧ (sendBoth kind arg s).nsp = s.nsp ∧
    (sendBoth kind arg s).firmware = s.firmware ∧ (sendBoth kind arg s).quilt = s.quilt ∧
    (sendBoth kind arg s).alarms = s.alarms ∧ (sendBoth kind arg s).free = s.free ∧
    (sendBoth kind arg s).pending = s.pending := by
  simp [sendBoth]

/-- Frame of `discardFrames`. -/
@[simp] theorem discardFrames_frame (s : State) : (discardFrames s).front = s.front ∧ (discardFrames s).supply = s.supply ∧
    (discardFrames s).modes = s.modes ∧ (discardFrames s).solver = s.solver ∧ (discardFrames s).cycle = s.cycle ∧
    (discardFrames s).change = s.change ∧ (discardFrames s).pair.jersey = s.pair.jersey ∧
    (discardFrames s).pair.highest = s.pair.highest ∧ (discardFrames s).pair.standby = s.pair.standby ∧
    (discardFrames s).pair.handover = s.pair.handover ∧ (discardFrames s).diag = s.diag ∧
    (discardFrames s).islands = s.islands ∧ (discardFrames s).hub = s.hub ∧ (discardFrames s).protection = s.protection ∧
    (discardFrames s).network.ringA = s.network.ringA ∧ (discardFrames s).network.ringB = s.network.ringB ∧
    (discardFrames s).network.groups = s.network.groups ∧ (discardFrames s).network.handed = s.network.handed ∧
    (discardFrames s).network.delayFailures = s.network.delayFailures ∧
    (discardFrames s).network.largestDelay = s.network.largestDelay ∧ (discardFrames s).network.time = s.network.time ∧
    (discardFrames s).stations = s.stations ∧ (discardFrames s).localIo = s.localIo ∧ (discardFrames s).nsp = s.nsp ∧
    (discardFrames s).firmware = s.firmware ∧ (discardFrames s).quilt = s.quilt ∧ (discardFrames s).alarms = s.alarms ∧
    (discardFrames s).free = s.free ∧ (discardFrames s).pending = s.pending := by
  simp [discardFrames]

/-- Frame of `localSafe`. -/
@[simp] theorem localSafe_frame (s : State) : (localSafe s).front = s.front ∧ (localSafe s).supply = s.supply ∧
    (localSafe s).modes = s.modes ∧ (localSafe s).solver = s.solver ∧ (localSafe s).cycle = s.cycle ∧
    (localSafe s).change = s.change ∧ (localSafe s).seam = s.seam ∧ (localSafe s).pair = s.pair ∧ (localSafe s).diag = s.diag ∧
    (localSafe s).islands = s.islands ∧ (localSafe s).hub = s.hub ∧ (localSafe s).protection = s.protection ∧
    (localSafe s).network = s.network ∧ (localSafe s).doors = s.doors ∧ (localSafe s).stations = s.stations ∧
    (localSafe s).localIo.zero = s.localIo.zero ∧ (localSafe s).localIo.span = s.localIo.span ∧ (localSafe s).nsp = s.nsp ∧
    (localSafe s).firmware = s.firmware ∧ (localSafe s).quilt = s.quilt ∧ (localSafe s).alarms = s.alarms ∧
    (localSafe s).free = s.free ∧ (localSafe s).pending = s.pending := by
  simp [localSafe]

/-- Frame of `stopSolver`. -/
@[simp] theorem stopSolver_frame (s : State) : (stopSolver s).front = s.front ∧ (stopSolver s).supply = s.supply ∧
    (stopSolver s).modes = s.modes ∧ (stopSolver s).solver.store = s.solver.store ∧
    (stopSolver s).solver.before = s.solver.before ∧ (stopSolver s).solver.plan = s.solver.plan ∧
    (stopSolver s).cycle.counter = s.cycle.counter ∧ (stopSolver s).cycle.hostWrites = s.cycle.hostWrites ∧
    (stopSolver s).change = s.change ∧ (stopSolver s).seam = s.seam ∧ (stopSolver s).pair = s.pair ∧
    (stopSolver s).diag.latch = s.diag.latch ∧ (stopSolver s).islands = s.islands ∧ (stopSolver s).hub = s.hub ∧
    (stopSolver s).protection = s.protection ∧ (stopSolver s).network = s.network ∧ (stopSolver s).doors = s.doors ∧
    (stopSolver s).stations = s.stations ∧ (stopSolver s).localIo = s.localIo ∧ (stopSolver s).nsp = s.nsp ∧
    (stopSolver s).firmware = s.firmware ∧ (stopSolver s).quilt = s.quilt ∧ (stopSolver s).alarms = s.alarms ∧
    (stopSolver s).free = s.free ∧ (stopSolver s).pending = s.pending := by
  simp [stopSolver]

/-- Frame of `leaveModeAlarms`. -/
@[simp] theorem leaveModeAlarms_frame (s : State) : (leaveModeAlarms s).front = s.front ∧
    (leaveModeAlarms s).supply = s.supply ∧ (leaveModeAlarms s).modes = s.modes ∧ (leaveModeAlarms s).solver = s.solver ∧
    (leaveModeAlarms s).cycle = s.cycle ∧ (leaveModeAlarms s).change = s.change ∧ (leaveModeAlarms s).seam = s.seam ∧
    (leaveModeAlarms s).pair = s.pair ∧ (leaveModeAlarms s).diag = s.diag ∧ (leaveModeAlarms s).islands = s.islands ∧
    (leaveModeAlarms s).hub = s.hub ∧ (leaveModeAlarms s).protection = s.protection ∧ (leaveModeAlarms s).network = s.network ∧
    (leaveModeAlarms s).doors = s.doors ∧ (leaveModeAlarms s).stations = s.stations ∧ (leaveModeAlarms s).localIo = s.localIo ∧
    (leaveModeAlarms s).nsp = s.nsp ∧ (leaveModeAlarms s).firmware = s.firmware ∧ (leaveModeAlarms s).free = s.free ∧
    (leaveModeAlarms s).pending = s.pending := by
  simp [leaveModeAlarms]

/-- Frame of `reachMode`. -/
@[simp] theorem reachMode_frame (m : Mode) (s : State) : (reachMode m s).front = s.front ∧ (reachMode m s).supply = s.supply ∧
    (reachMode m s).modes.mode = s.modes.mode ∧ (reachMode m s).modes.cause = s.modes.cause ∧
    (reachMode m s).modes.transCause = s.modes.transCause ∧ (reachMode m s).modes.triggers = s.modes.triggers ∧
    (reachMode m s).modes.commandResult = s.modes.commandResult ∧ (reachMode m s).modes.search = s.modes.search ∧
    (reachMode m s).modes.restartPending = s.modes.restartPending ∧
    (reachMode m s).modes.loadStepsDone = s.modes.loadStepsDone ∧ (reachMode m s).solver = s.solver ∧
    (reachMode m s).cycle = s.cycle ∧ (reachMode m s).change = s.change ∧ (reachMode m s).seam = s.seam ∧
    (reachMode m s).pair = s.pair ∧ (reachMode m s).diag = s.diag ∧ (reachMode m s).islands = s.islands ∧
    (reachMode m s).hub = s.hub ∧ (reachMode m s).protection = s.protection ∧ (reachMode m s).network = s.network ∧
    (reachMode m s).doors = s.doors ∧ (reachMode m s).stations = s.stations ∧ (reachMode m s).localIo = s.localIo ∧
    (reachMode m s).nsp = s.nsp ∧ (reachMode m s).firmware.minSecurity = s.firmware.minSecurity ∧
    (reachMode m s).firmware.staging = s.firmware.staging ∧ (reachMode m s).quilt = s.quilt ∧
    (reachMode m s).alarms = s.alarms ∧ (reachMode m s).free = s.free ∧ (reachMode m s).pending = s.pending := by
  unfold reachMode
  (repeat' split) <;> simp

/-- Frame of `storeConfig`. -/
@[simp] theorem storeConfig_frame (c : StoredCopy) (s : State) : (storeConfig c s).front = s.front ∧
    (storeConfig c s).supply = s.supply ∧ (storeConfig c s).modes = s.modes ∧ (storeConfig c s).solver = s.solver ∧
    (storeConfig c s).cycle = s.cycle ∧ (storeConfig c s).change = s.change ∧ (storeConfig c s).seam = s.seam ∧
    (storeConfig c s).pair = s.pair ∧ (storeConfig c s).diag = s.diag ∧ (storeConfig c s).islands = s.islands ∧
    (storeConfig c s).hub = s.hub ∧ (storeConfig c s).protection = s.protection ∧ (storeConfig c s).network = s.network ∧
    (storeConfig c s).doors = s.doors ∧ (storeConfig c s).stations = s.stations ∧ (storeConfig c s).localIo = s.localIo ∧
    (storeConfig c s).nsp.shadow = s.nsp.shadow ∧ (storeConfig c s).nsp.generation = s.nsp.generation ∧
    (storeConfig c s).nsp.inForce = s.nsp.inForce ∧ (storeConfig c s).nsp.sessions = s.nsp.sessions ∧
    (storeConfig c s).nsp.settings = s.nsp.settings ∧ (storeConfig c s).firmware = s.firmware ∧
    (storeConfig c s).quilt = s.quilt ∧ (storeConfig c s).alarms = s.alarms ∧ (storeConfig c s).free = s.free ∧
    (storeConfig c s).pending = s.pending := by
  unfold storeConfig
  (repeat' split) <;> simp

/-- Frame of `freeAlarm`. -/
@[simp] theorem freeAlarm_frame (s : State) : (freeAlarm s).front = s.front ∧ (freeAlarm s).supply = s.supply ∧
    (freeAlarm s).modes = s.modes ∧ (freeAlarm s).solver = s.solver ∧ (freeAlarm s).cycle = s.cycle ∧
    (freeAlarm s).change = s.change ∧ (freeAlarm s).seam = s.seam ∧ (freeAlarm s).pair = s.pair ∧ (freeAlarm s).diag = s.diag ∧
    (freeAlarm s).islands = s.islands ∧ (freeAlarm s).hub = s.hub ∧ (freeAlarm s).protection = s.protection ∧
    (freeAlarm s).network = s.network ∧ (freeAlarm s).doors = s.doors ∧ (freeAlarm s).stations = s.stations ∧
    (freeAlarm s).localIo = s.localIo ∧ (freeAlarm s).nsp = s.nsp ∧ (freeAlarm s).firmware = s.firmware ∧
    (freeAlarm s).free = s.free ∧ (freeAlarm s).pending = s.pending := by
  unfold freeAlarm
  (repeat' split) <;> simp

/-- Frame of `takeNet`. -/
@[simp] theorem takeNet_frame (etherType : Nat) (s : State) : (takeNet etherType s).front = s.front ∧
    (takeNet etherType s).supply = s.supply ∧ (takeNet etherType s).modes = s.modes ∧ (takeNet etherType s).solver = s.solver ∧
    (takeNet etherType s).cycle = s.cycle ∧ (takeNet etherType s).change = s.change ∧ (takeNet etherType s).seam = s.seam ∧
    (takeNet etherType s).pair = s.pair ∧ (takeNet etherType s).diag = s.diag ∧ (takeNet etherType s).islands = s.islands ∧
    (takeNet etherType s).hub = s.hub ∧ (takeNet etherType s).protection = s.protection ∧
    (takeNet etherType s).network.ports = s.network.ports ∧ (takeNet etherType s).network.ringA = s.network.ringA ∧
    (takeNet etherType s).network.ringB = s.network.ringB ∧ (takeNet etherType s).network.groups = s.network.groups ∧
    (takeNet etherType s).network.delayFailures = s.network.delayFailures ∧
    (takeNet etherType s).network.largestDelay = s.network.largestDelay ∧ (takeNet etherType s).network.time = s.network.time ∧
    (takeNet etherType s).doors = s.doors ∧ (takeNet etherType s).stations = s.stations ∧
    (takeNet etherType s).localIo = s.localIo ∧ (takeNet etherType s).nsp = s.nsp ∧
    (takeNet etherType s).firmware = s.firmware ∧ (takeNet etherType s).quilt = s.quilt ∧
    (takeNet etherType s).alarms = s.alarms ∧ (takeNet etherType s).free = s.free ∧
    (takeNet etherType s).pending = s.pending := by
  unfold takeNet
  (repeat' split) <;> simp

/-- Frame of `endCommit`. -/
@[simp] theorem endCommit_frame (r offence : Nat) (s : State) : (endCommit r offence s).front = s.front ∧
    (endCommit r offence s).supply = s.supply ∧ (endCommit r offence s).modes = s.modes ∧
    (endCommit r offence s).solver = s.solver ∧ (endCommit r offence s).cycle = s.cycle ∧
    (endCommit r offence s).change = s.change ∧ (endCommit r offence s).seam = s.seam ∧ (endCommit r offence s).pair = s.pair ∧
    (endCommit r offence s).diag = s.diag ∧ (endCommit r offence s).islands = s.islands ∧ (endCommit r offence s).hub = s.hub ∧
    (endCommit r offence s).protection = s.protection ∧ (endCommit r offence s).network = s.network ∧
    (endCommit r offence s).doors = s.doors ∧ (endCommit r offence s).stations = s.stations ∧
    (endCommit r offence s).localIo = s.localIo ∧ (endCommit r offence s).nsp.shadow = s.nsp.shadow ∧
    (endCommit r offence s).nsp.stored0 = s.nsp.stored0 ∧ (endCommit r offence s).nsp.stored1 = s.nsp.stored1 ∧
    (endCommit r offence s).nsp.generation = s.nsp.generation ∧ (endCommit r offence s).nsp.inForce = s.nsp.inForce ∧
    (endCommit r offence s).nsp.sessions = s.nsp.sessions ∧ (endCommit r offence s).nsp.settings = s.nsp.settings ∧
    (endCommit r offence s).firmware = s.firmware ∧ (endCommit r offence s).quilt = s.quilt ∧
    (endCommit r offence s).alarms = s.alarms ∧ (endCommit r offence s).free = s.free ∧
    (endCommit r offence s).pending = s.pending := by
  simp [endCommit]

/-- Frame of `commitStored`. -/
@[simp] theorem commitStored_frame (s : State) : (commitStored s).front = s.front ∧ (commitStored s).supply = s.supply ∧
    (commitStored s).modes = s.modes ∧ (commitStored s).solver = s.solver ∧ (commitStored s).cycle = s.cycle ∧
    (commitStored s).change = s.change ∧ (commitStored s).seam = s.seam ∧ (commitStored s).pair = s.pair ∧
    (commitStored s).diag = s.diag ∧ (commitStored s).islands = s.islands ∧ (commitStored s).hub = s.hub ∧
    (commitStored s).protection = s.protection ∧ (commitStored s).network = s.network ∧ (commitStored s).doors = s.doors ∧
    (commitStored s).stations = s.stations ∧ (commitStored s).localIo = s.localIo ∧ (commitStored s).nsp.shadow = s.nsp.shadow ∧
    (commitStored s).nsp.inForce = s.nsp.inForce ∧ (commitStored s).nsp.sessions = s.nsp.sessions ∧
    (commitStored s).nsp.settings = s.nsp.settings ∧ (commitStored s).firmware = s.firmware ∧ (commitStored s).quilt = s.quilt ∧
    (commitStored s).alarms = s.alarms ∧ (commitStored s).free = s.free ∧ (commitStored s).pending = s.pending := by
  unfold commitStored
  (repeat' split) <;> simp

/-- Frame of `meetHeld`. -/
@[simp] theorem meetHeld_frame (m : Mode) (s : State) : (meetHeld m s).front = s.front ∧ (meetHeld m s).supply = s.supply ∧
    (meetHeld m s).modes = s.modes ∧ (meetHeld m s).solver = s.solver ∧ (meetHeld m s).cycle = s.cycle ∧
    (meetHeld m s).change = s.change ∧ (meetHeld m s).seam = s.seam ∧ (meetHeld m s).pair = s.pair ∧
    (meetHeld m s).diag = s.diag ∧ (meetHeld m s).islands = s.islands ∧ (meetHeld m s).hub = s.hub ∧
    (meetHeld m s).protection = s.protection ∧ (meetHeld m s).network = s.network ∧ (meetHeld m s).doors = s.doors ∧
    (meetHeld m s).stations = s.stations ∧ (meetHeld m s).localIo = s.localIo ∧ (meetHeld m s).nsp.shadow = s.nsp.shadow ∧
    (meetHeld m s).nsp.inForce = s.nsp.inForce ∧ (meetHeld m s).nsp.sessions = s.nsp.sessions ∧
    (meetHeld m s).nsp.settings = s.nsp.settings ∧ (meetHeld m s).firmware = s.firmware ∧ (meetHeld m s).quilt = s.quilt ∧
    (meetHeld m s).alarms = s.alarms ∧ (meetHeld m s).free = s.free ∧ (meetHeld m s).pending = s.pending := by
  unfold meetHeld
  (repeat' split) <;> simp

/-- Frame of `unreadyOnAuthority`. -/
@[simp] theorem unreadyOnAuthority_frame (m : Mode) (s : State) : (unreadyOnAuthority m s).front.mated = s.front.mated ∧
    (unreadyOnAuthority m s).front.converters = s.front.converters ∧
    (unreadyOnAuthority m s).front.powerGood = s.front.powerGood ∧ (unreadyOnAuthority m s).front.straps = s.front.straps ∧
    (unreadyOnAuthority m s).front.slotValid = s.front.slotValid ∧
    (unreadyOnAuthority m s).front.slotChanges = s.front.slotChanges ∧
    (unreadyOnAuthority m s).front.partnerSlot = s.front.partnerSlot ∧
    (unreadyOnAuthority m s).front.partnerPresent = s.front.partnerPresent ∧
    (unreadyOnAuthority m s).front.lampTest = s.front.lampTest ∧
    (unreadyOnAuthority m s).front.identifySeconds = s.front.identifySeconds ∧
    (unreadyOnAuthority m s).front.identifyAt = s.front.identifyAt ∧
    (unreadyOnAuthority m s).front.coverOpen = s.front.coverOpen ∧ (unreadyOnAuthority m s).front.plusHeld = s.front.plusHeld ∧
    (unreadyOnAuthority m s).front.minusHeld = s.front.minusHeld ∧
    (unreadyOnAuthority m s).front.plusBlocked = s.front.plusBlocked ∧
    (unreadyOnAuthority m s).front.minusBlocked = s.front.minusBlocked ∧
    (unreadyOnAuthority m s).front.leverOpen = s.front.leverOpen ∧
    (unreadyOnAuthority m s).front.refusedShown = s.front.refusedShown ∧
    (unreadyOnAuthority m s).front.extractionWaiting = s.front.extractionWaiting ∧
    (unreadyOnAuthority m s).front.fsAttached = s.front.fsAttached ∧ (unreadyOnAuthority m s).supply = s.supply ∧
    (unreadyOnAuthority m s).modes = s.modes ∧ (unreadyOnAuthority m s).solver = s.solver ∧
    (unreadyOnAuthority m s).cycle = s.cycle ∧ (unreadyOnAuthority m s).change = s.change ∧
    (unreadyOnAuthority m s).seam = s.seam ∧ (unreadyOnAuthority m s).pair = s.pair ∧ (unreadyOnAuthority m s).diag = s.diag ∧
    (unreadyOnAuthority m s).islands = s.islands ∧ (unreadyOnAuthority m s).hub = s.hub ∧
    (unreadyOnAuthority m s).protection = s.protection ∧ (unreadyOnAuthority m s).network = s.network ∧
    (unreadyOnAuthority m s).doors = s.doors ∧ (unreadyOnAuthority m s).stations = s.stations ∧
    (unreadyOnAuthority m s).localIo = s.localIo ∧ (unreadyOnAuthority m s).nsp = s.nsp ∧
    (unreadyOnAuthority m s).firmware = s.firmware ∧ (unreadyOnAuthority m s).quilt = s.quilt ∧
    (unreadyOnAuthority m s).alarms = s.alarms ∧ (unreadyOnAuthority m s).free = s.free ∧
    (unreadyOnAuthority m s).pending = s.pending := by
  unfold unreadyOnAuthority
  split <;> simp

/-- Frame of `setMode`. -/
@[simp] theorem setMode_frame (m : Mode) (cause : Nat) (s : State) : (setMode m cause s).front.mated = s.front.mated ∧
    (setMode m cause s).front.converters = s.front.converters ∧ (setMode m cause s).front.powerGood = s.front.powerGood ∧
    (setMode m cause s).front.straps = s.front.straps ∧ (setMode m cause s).front.slotValid = s.front.slotValid ∧
    (setMode m cause s).front.slotChanges = s.front.slotChanges ∧ (setMode m cause s).front.partnerSlot = s.front.partnerSlot ∧
    (setMode m cause s).front.partnerPresent = s.front.partnerPresent ∧ (setMode m cause s).front.lampTest = s.front.lampTest ∧
    (setMode m cause s).front.identifySeconds = s.front.identifySeconds ∧
    (setMode m cause s).front.identifyAt = s.front.identifyAt ∧ (setMode m cause s).front.coverOpen = s.front.coverOpen ∧
    (setMode m cause s).front.plusHeld = s.front.plusHeld ∧ (setMode m cause s).front.minusHeld = s.front.minusHeld ∧
    (setMode m cause s).front.plusBlocked = s.front.plusBlocked ∧
    (setMode m cause s).front.minusBlocked = s.front.minusBlocked ∧ (setMode m cause s).front.leverOpen = s.front.leverOpen ∧
    (setMode m cause s).front.refusedShown = s.front.refusedShown ∧
    (setMode m cause s).front.extractionWaiting = s.front.extractionWaiting ∧
    (setMode m cause s).front.fsAttached = s.front.fsAttached ∧ (setMode m cause s).supply = s.supply ∧
    (setMode m cause s).modes.cause = s.modes.cause ∧ (setMode m cause s).modes.triggers = s.modes.triggers ∧
    (setMode m cause s).modes.commandResult = s.modes.commandResult ∧ (setMode m cause s).modes.search = s.modes.search ∧
    (setMode m cause s).modes.restartPending = s.modes.restartPending ∧
    (setMode m cause s).modes.loadStepsDone = s.modes.loadStepsDone ∧ (setMode m cause s).solver = s.solver ∧
    (setMode m cause s).cycle = s.cycle ∧ (setMode m cause s).change = s.change ∧ (setMode m cause s).seam = s.seam ∧
    (setMode m cause s).pair = s.pair ∧ (setMode m cause s).diag = s.diag ∧ (setMode m cause s).islands = s.islands ∧
    (setMode m cause s).hub = s.hub ∧ (setMode m cause s).protection = s.protection ∧ (setMode m cause s).network = s.network ∧
    (setMode m cause s).doors = s.doors ∧ (setMode m cause s).stations = s.stations ∧ (setMode m cause s).localIo = s.localIo ∧
    (setMode m cause s).nsp.shadow = s.nsp.shadow ∧ (setMode m cause s).nsp.inForce = s.nsp.inForce ∧
    (setMode m cause s).nsp.sessions = s.nsp.sessions ∧ (setMode m cause s).nsp.settings = s.nsp.settings ∧
    (setMode m cause s).firmware.minSecurity = s.firmware.minSecurity ∧
    (setMode m cause s).firmware.staging = s.firmware.staging ∧ (setMode m cause s).free = s.free ∧
    (setMode m cause s).pending = s.pending := by
  unfold setMode
  (repeat' split) <;> simp

/-- Frame of `declareFault`. -/
@[simp] theorem declareFault_frame (cause : Nat) (s : State) : (declareFault cause s).front = s.front ∧
    (declareFault cause s).supply = s.supply ∧ (declareFault cause s).modes = s.modes ∧
    (declareFault cause s).solver = s.solver ∧ (declareFault cause s).cycle = s.cycle ∧
    (declareFault cause s).change = s.change ∧ (declareFault cause s).pair.jersey = s.pair.jersey ∧
    (declareFault cause s).pair.highest = s.pair.highest ∧ (declareFault cause s).pair.standby = s.pair.standby ∧
    (declareFault cause s).pair.handover = s.pair.handover ∧ (declareFault cause s).diag = s.diag ∧
    (declareFault cause s).islands.islands = s.islands.islands ∧ (declareFault cause s).islands.reset = s.islands.reset ∧
    (declareFault cause s).islands.resetResult = s.islands.resetResult ∧ (declareFault cause s).hub = s.hub ∧
    (declareFault cause s).protection = s.protection ∧ (declareFault cause s).network.handed = s.network.handed ∧
    (declareFault cause s).network.delayFailures = s.network.delayFailures ∧
    (declareFault cause s).network.largestDelay = s.network.largestDelay ∧
    (declareFault cause s).network.time = s.network.time ∧ (declareFault cause s).doors = s.doors ∧
    (declareFault cause s).stations = s.stations ∧ (declareFault cause s).localIo = s.localIo ∧
    (declareFault cause s).nsp = s.nsp ∧ (declareFault cause s).firmware = s.firmware ∧ (declareFault cause s).quilt = s.quilt ∧
    (declareFault cause s).alarms = s.alarms ∧ (declareFault cause s).free = s.free ∧
    (declareFault cause s).pending = s.pending := by
  unfold declareFault
  dsimp only
  (repeat' split) <;> simp

/-- Frame of `latchCause`. -/
@[simp] theorem latchCause_frame (cause detail : Nat) (s : State) : (latchCause cause detail s).front = s.front ∧
    (latchCause cause detail s).supply = s.supply ∧ (latchCause cause detail s).modes.mode = s.modes.mode ∧
    (latchCause cause detail s).modes.transCause = s.modes.transCause ∧
    (latchCause cause detail s).modes.triggers = s.modes.triggers ∧
    (latchCause cause detail s).modes.commandResult = s.modes.commandResult ∧
    (latchCause cause detail s).modes.search = s.modes.search ∧
    (latchCause cause detail s).modes.restartPending = s.modes.restartPending ∧
    (latchCause cause detail s).modes.loadStepsDone = s.modes.loadStepsDone ∧ (latchCause cause detail s).solver = s.solver ∧
    (latchCause cause detail s).cycle = s.cycle ∧ (latchCause cause detail s).change = s.change ∧
    (latchCause cause detail s).seam = s.seam ∧ (latchCause cause detail s).pair = s.pair ∧
    (latchCause cause detail s).diag.latch = s.diag.latch ∧ (latchCause cause detail s).islands = s.islands ∧
    (latchCause cause detail s).hub = s.hub ∧ (latchCause cause detail s).protection = s.protection ∧
    (latchCause cause detail s).network = s.network ∧ (latchCause cause detail s).doors = s.doors ∧
    (latchCause cause detail s).stations = s.stations ∧ (latchCause cause detail s).localIo = s.localIo ∧
    (latchCause cause detail s).nsp = s.nsp ∧ (latchCause cause detail s).firmware.minSecurity = s.firmware.minSecurity ∧
    (latchCause cause detail s).firmware.staging = s.firmware.staging ∧ (latchCause cause detail s).quilt = s.quilt ∧
    (latchCause cause detail s).alarms = s.alarms ∧ (latchCause cause detail s).free = s.free ∧
    (latchCause cause detail s).pending = s.pending := by
  simp [latchCause]

/-- Frame of `dropPlan`. -/
@[simp] theorem dropPlan_frame (s : State) : (dropPlan s).front = s.front ∧ (dropPlan s).supply = s.supply ∧
    (dropPlan s).modes = s.modes ∧ (dropPlan s).solver.places = s.solver.places ∧ (dropPlan s).solver.store = s.solver.store ∧
    (dropPlan s).solver.before = s.solver.before ∧ (dropPlan s).solver.written = s.solver.written ∧
    (dropPlan s).solver.writtenLast = s.solver.writtenLast ∧ (dropPlan s).solver.bank0 = s.solver.bank0 ∧
    (dropPlan s).solver.bank1 = s.solver.bank1 ∧ (dropPlan s).solver.activeBank = s.solver.activeBank ∧
    (dropPlan s).solver.plan = s.solver.plan ∧ (dropPlan s).solver.rejoinTests = s.solver.rejoinTests ∧
    (dropPlan s).solver.failedLanes = s.solver.failedLanes ∧ (dropPlan s).solver.faulted = s.solver.faulted ∧
    (dropPlan s).solver.saturations = s.solver.saturations ∧ (dropPlan s).solver.lastPath = s.solver.lastPath ∧
    (dropPlan s).solver.mirror = s.solver.mirror ∧ (dropPlan s).cycle = s.cycle ∧ (dropPlan s).change = s.change ∧
    (dropPlan s).seam = s.seam ∧ (dropPlan s).pair = s.pair ∧ (dropPlan s).diag = s.diag ∧ (dropPlan s).islands = s.islands ∧
    (dropPlan s).hub = s.hub ∧ (dropPlan s).protection = s.protection ∧ (dropPlan s).network = s.network ∧
    (dropPlan s).doors = s.doors ∧ (dropPlan s).stations = s.stations ∧ (dropPlan s).localIo = s.localIo ∧
    (dropPlan s).nsp = s.nsp ∧ (dropPlan s).firmware = s.firmware ∧ (dropPlan s).quilt = s.quilt ∧
    (dropPlan s).alarms = s.alarms ∧ (dropPlan s).free = s.free ∧ (dropPlan s).pending = s.pending := by
  unfold dropPlan endPlan
  split <;> simp

/-- Frame of `enterFault`. -/
@[simp] theorem enterFault_frame (cause detail : Nat) (s : State) : (enterFault cause detail s).front.mated = s.front.mated ∧
    (enterFault cause detail s).front.converters = s.front.converters ∧
    (enterFault cause detail s).front.powerGood = s.front.powerGood ∧
    (enterFault cause detail s).front.straps = s.front.straps ∧
    (enterFault cause detail s).front.slotValid = s.front.slotValid ∧
    (enterFault cause detail s).front.slotChanges = s.front.slotChanges ∧
    (enterFault cause detail s).front.partnerSlot = s.front.partnerSlot ∧
    (enterFault cause detail s).front.partnerPresent = s.front.partnerPresent ∧
    (enterFault cause detail s).front.lampTest = s.front.lampTest ∧
    (enterFault cause detail s).front.identifySeconds = s.front.identifySeconds ∧
    (enterFault cause detail s).front.identifyAt = s.front.identifyAt ∧
    (enterFault cause detail s).front.coverOpen = s.front.coverOpen ∧
    (enterFault cause detail s).front.plusHeld = s.front.plusHeld ∧
    (enterFault cause detail s).front.minusHeld = s.front.minusHeld ∧
    (enterFault cause detail s).front.plusBlocked = s.front.plusBlocked ∧
    (enterFault cause detail s).front.minusBlocked = s.front.minusBlocked ∧
    (enterFault cause detail s).front.leverOpen = s.front.leverOpen ∧
    (enterFault cause detail s).front.refusedShown = s.front.refusedShown ∧
    (enterFault cause detail s).front.fsAttached = s.front.fsAttached ∧ (enterFault cause detail s).supply = s.supply ∧
    (enterFault cause detail s).modes.restartPending = s.modes.restartPending ∧
    (enterFault cause detail s).modes.loadStepsDone = s.modes.loadStepsDone ∧
    (enterFault cause detail s).solver.store = s.solver.store ∧ (enterFault cause detail s).solver.before = s.solver.before ∧
    (enterFault cause detail s).solver.plan = s.solver.plan ∧ (enterFault cause detail s).cycle.counter = s.cycle.counter ∧
    (enterFault cause detail s).cycle.hostWrites = s.cycle.hostWrites ∧ (enterFault cause detail s).change = s.change ∧
    (enterFault cause detail s).pair.jersey = s.pair.jersey ∧ (enterFault cause detail s).pair.highest = s.pair.highest ∧
    (enterFault cause detail s).pair.standby = s.pair.standby ∧
    (enterFault cause detail s).islands.islands = s.islands.islands ∧
    (enterFault cause detail s).islands.reset = s.islands.reset ∧
    (enterFault cause detail s).islands.resetResult = s.islands.resetResult ∧ (enterFault cause detail s).hub = s.hub ∧
    (enterFault cause detail s).protection = s.protection ∧ (enterFault cause detail s).network.handed = s.network.handed ∧
    (enterFault cause detail s).network.delayFailures = s.network.delayFailures ∧
    (enterFault cause detail s).network.largestDelay = s.network.largestDelay ∧
    (enterFault cause detail s).network.time = s.network.time ∧ (enterFault cause detail s).stations = s.stations ∧
    (enterFault cause detail s).localIo.zero = s.localIo.zero ∧ (enterFault cause detail s).localIo.span = s.localIo.span ∧
    (enterFault cause detail s).nsp.shadow = s.nsp.shadow ∧ (enterFault cause detail s).nsp.inForce = s.nsp.inForce ∧
    (enterFault cause detail s).nsp.sessions = s.nsp.sessions ∧ (enterFault cause detail s).nsp.settings = s.nsp.settings ∧
    (enterFault cause detail s).firmware.minSecurity = s.firmware.minSecurity ∧
    (enterFault cause detail s).firmware.staging = s.firmware.staging ∧ (enterFault cause detail s).free = s.free ∧
    (enterFault cause detail s).pending = s.pending := by
  unfold enterFault
  (repeat' split) <;> simp

/-- Frame of `enterFaults`. -/
@[simp] theorem enterFaults_frame (l : List (Nat × Nat)) (s : State) : (enterFaults l s).front.mated = s.front.mated ∧
    (enterFaults l s).front.converters = s.front.converters ∧ (enterFaults l s).front.powerGood = s.front.powerGood ∧
    (enterFaults l s).front.straps = s.front.straps ∧ (enterFaults l s).front.slotValid = s.front.slotValid ∧
    (enterFaults l s).front.slotChanges = s.front.slotChanges ∧ (enterFaults l s).front.partnerSlot = s.front.partnerSlot ∧
    (enterFaults l s).front.partnerPresent = s.front.partnerPresent ∧ (enterFaults l s).front.lampTest = s.front.lampTest ∧
    (enterFaults l s).front.identifySeconds = s.front.identifySeconds ∧
    (enterFaults l s).front.identifyAt = s.front.identifyAt ∧ (enterFaults l s).front.coverOpen = s.front.coverOpen ∧
    (enterFaults l s).front.plusHeld = s.front.plusHeld ∧ (enterFaults l s).front.minusHeld = s.front.minusHeld ∧
    (enterFaults l s).front.plusBlocked = s.front.plusBlocked ∧ (enterFaults l s).front.minusBlocked = s.front.minusBlocked ∧
    (enterFaults l s).front.leverOpen = s.front.leverOpen ∧ (enterFaults l s).front.refusedShown = s.front.refusedShown ∧
    (enterFaults l s).front.fsAttached = s.front.fsAttached ∧ (enterFaults l s).supply = s.supply ∧
    (enterFaults l s).modes.restartPending = s.modes.restartPending ∧
    (enterFaults l s).modes.loadStepsDone = s.modes.loadStepsDone ∧ (enterFaults l s).solver.store = s.solver.store ∧
    (enterFaults l s).solver.before = s.solver.before ∧ (enterFaults l s).solver.plan = s.solver.plan ∧
    (enterFaults l s).cycle.counter = s.cycle.counter ∧ (enterFaults l s).cycle.hostWrites = s.cycle.hostWrites ∧
    (enterFaults l s).change = s.change ∧ (enterFaults l s).pair.jersey = s.pair.jersey ∧
    (enterFaults l s).pair.highest = s.pair.highest ∧ (enterFaults l s).pair.standby = s.pair.standby ∧
    (enterFaults l s).islands.islands = s.islands.islands ∧ (enterFaults l s).islands.reset = s.islands.reset ∧
    (enterFaults l s).islands.resetResult = s.islands.resetResult ∧ (enterFaults l s).hub = s.hub ∧
    (enterFaults l s).protection = s.protection ∧ (enterFaults l s).network.handed = s.network.handed ∧
    (enterFaults l s).network.delayFailures = s.network.delayFailures ∧
    (enterFaults l s).network.largestDelay = s.network.largestDelay ∧ (enterFaults l s).network.time = s.network.time ∧
    (enterFaults l s).stations = s.stations ∧ (enterFaults l s).localIo.zero = s.localIo.zero ∧
    (enterFaults l s).localIo.span = s.localIo.span ∧ (enterFaults l s).nsp.shadow = s.nsp.shadow ∧
    (enterFaults l s).nsp.inForce = s.nsp.inForce ∧ (enterFaults l s).nsp.sessions = s.nsp.sessions ∧
    (enterFaults l s).nsp.settings = s.nsp.settings ∧ (enterFaults l s).firmware.minSecurity = s.firmware.minSecurity ∧
    (enterFaults l s).firmware.staging = s.firmware.staging ∧ (enterFaults l s).free = s.free ∧
    (enterFaults l s).pending = s.pending := by
  unfold enterFaults
  generalize sortBy (·.1) l = k
  induction k generalizing s with
  | nil => simp
  | cons a k ih => simp [ih]

/-- Frame of `disarmTrim`. -/
@[simp] theorem disarmTrim_frame (s : State) : (disarmTrim s).front = s.front ∧ (disarmTrim s).supply = s.supply ∧
    (disarmTrim s).modes = s.modes ∧ (disarmTrim s).solver = s.solver ∧ (disarmTrim s).cycle = s.cycle ∧
    (disarmTrim s).change = s.change ∧ (disarmTrim s).seam = s.seam ∧ (disarmTrim s).pair = s.pair ∧
    (disarmTrim s).diag = s.diag ∧ (disarmTrim s).islands = s.islands ∧ (disarmTrim s).hub = s.hub ∧
    (disarmTrim s).protection = s.protection ∧ (disarmTrim s).network = s.network ∧ (disarmTrim s).doors = s.doors ∧
    (disarmTrim s).stations = s.stations ∧ (disarmTrim s).localIo.zero = s.localIo.zero ∧
    (disarmTrim s).localIo.span = s.localIo.span ∧ (disarmTrim s).nsp = s.nsp ∧ (disarmTrim s).firmware = s.firmware ∧
    (disarmTrim s).alarms = s.alarms ∧ (disarmTrim s).free = s.free ∧ (disarmTrim s).pending = s.pending := by
  unfold disarmTrim
  split <;> simp

/-- Frame of `beginRestart`. -/
@[simp] theorem beginRestart_frame (kind : RestartKind) (s : State) : (beginRestart kind s).front = s.front ∧
    (beginRestart kind s).supply = s.supply ∧ (beginRestart kind s).modes.mode = s.modes.mode ∧
    (beginRestart kind s).modes.cause = s.modes.cause ∧ (beginRestart kind s).modes.transCause = s.modes.transCause ∧
    (beginRestart kind s).modes.triggers = s.modes.triggers ∧
    (beginRestart kind s).modes.commandResult = s.modes.commandResult ∧
    (beginRestart kind s).modes.loadStepsDone = s.modes.loadStepsDone ∧ (beginRestart kind s).solver = s.solver ∧
    (beginRestart kind s).cycle = s.cycle ∧ (beginRestart kind s).change = s.change ∧ (beginRestart kind s).seam = s.seam ∧
    (beginRestart kind s).pair = s.pair ∧ (beginRestart kind s).diag = s.diag ∧ (beginRestart kind s).islands = s.islands ∧
    (beginRestart kind s).hub = s.hub ∧ (beginRestart kind s).protection = s.protection ∧
    (beginRestart kind s).network = s.network ∧ (beginRestart kind s).doors = s.doors ∧
    (beginRestart kind s).stations = s.stations ∧ (beginRestart kind s).localIo.zero = s.localIo.zero ∧
    (beginRestart kind s).localIo.span = s.localIo.span ∧ (beginRestart kind s).nsp = s.nsp ∧
    (beginRestart kind s).firmware = s.firmware ∧ (beginRestart kind s).free = s.free ∧
    (beginRestart kind s).pending = s.pending := by
  simp [beginRestart]

/-- Frame of `writeCounters`. -/
@[simp] theorem writeCounters_frame (s : State) : (writeCounters s).front = s.front ∧ (writeCounters s).supply = s.supply ∧
    (writeCounters s).modes = s.modes ∧ (writeCounters s).solver = s.solver ∧ (writeCounters s).cycle = s.cycle ∧
    (writeCounters s).change = s.change ∧ (writeCounters s).seam = s.seam ∧ (writeCounters s).pair = s.pair ∧
    (writeCounters s).diag = s.diag ∧ (writeCounters s).islands = s.islands ∧ (writeCounters s).hub = s.hub ∧
    (writeCounters s).protection = s.protection ∧ (writeCounters s).network = s.network ∧ (writeCounters s).doors = s.doors ∧
    (writeCounters s).stations = s.stations ∧ (writeCounters s).localIo = s.localIo ∧ (writeCounters s).nsp = s.nsp ∧
    (writeCounters s).firmware = s.firmware ∧ (writeCounters s).alarms = s.alarms ∧ (writeCounters s).free = s.free ∧
    (writeCounters s).pending = s.pending := by
  simp [writeCounters]

/-- Frame of `countPowerCycle`. -/
@[simp] theorem countPowerCycle_frame (s : State) : (countPowerCycle s).front = s.front ∧
    (countPowerCycle s).supply = s.supply ∧ (countPowerCycle s).modes = s.modes ∧ (countPowerCycle s).solver = s.solver ∧
    (countPowerCycle s).cycle = s.cycle ∧ (countPowerCycle s).change = s.change ∧ (countPowerCycle s).seam = s.seam ∧
    (countPowerCycle s).pair = s.pair ∧ (countPowerCycle s).diag = s.diag ∧ (countPowerCycle s).islands = s.islands ∧
    (countPowerCycle s).hub = s.hub ∧ (countPowerCycle s).protection = s.protection ∧ (countPowerCycle s).network = s.network ∧
    (countPowerCycle s).doors = s.doors ∧ (countPowerCycle s).stations = s.stations ∧ (countPowerCycle s).localIo = s.localIo ∧
    (countPowerCycle s).nsp = s.nsp ∧ (countPowerCycle s).firmware = s.firmware ∧ (countPowerCycle s).alarms = s.alarms ∧
    (countPowerCycle s).free = s.free ∧ (countPowerCycle s).pending = s.pending := by
  simp [countPowerCycle]

/-- Frame of `enterKickstand`. -/
@[simp] theorem enterKickstand_frame (selfCheckOk : Bool) (cause : Nat) (s : State) :
    (enterKickstand selfCheckOk cause s).front.mated = s.front.mated ∧
    (enterKickstand selfCheckOk cause s).front.converters = s.front.converters ∧
    (enterKickstand selfCheckOk cause s).front.powerGood = s.front.powerGood ∧
    (enterKickstand selfCheckOk cause s).front.straps = s.front.straps ∧
    (enterKickstand selfCheckOk cause s).front.slotValid = s.front.slotValid ∧
    (enterKickstand selfCheckOk cause s).front.slotChanges = s.front.slotChanges ∧
    (enterKickstand selfCheckOk cause s).front.partnerSlot = s.front.partnerSlot ∧
    (enterKickstand selfCheckOk cause s).front.partnerPresent = s.front.partnerPresent ∧
    (enterKickstand selfCheckOk cause s).front.lampTest = s.front.lampTest ∧
    (enterKickstand selfCheckOk cause s).front.identifySeconds = s.front.identifySeconds ∧
    (enterKickstand selfCheckOk cause s).front.identifyAt = s.front.identifyAt ∧
    (enterKickstand selfCheckOk cause s).front.coverOpen = s.front.coverOpen ∧
    (enterKickstand selfCheckOk cause s).front.plusHeld = s.front.plusHeld ∧
    (enterKickstand selfCheckOk cause s).front.minusHeld = s.front.minusHeld ∧
    (enterKickstand selfCheckOk cause s).front.plusBlocked = s.front.plusBlocked ∧
    (enterKickstand selfCheckOk cause s).front.minusBlocked = s.front.minusBlocked ∧
    (enterKickstand selfCheckOk cause s).front.leverOpen = s.front.leverOpen ∧
    (enterKickstand selfCheckOk cause s).front.refusedShown = s.front.refusedShown ∧
    (enterKickstand selfCheckOk cause s).front.fsAttached = s.front.fsAttached ∧
    (enterKickstand selfCheckOk cause s).supply = s.supply ∧
    (enterKickstand selfCheckOk cause s).modes.restartPending = s.modes.restartPending ∧
    (enterKickstand selfCheckOk cause s).modes.loadStepsDone = s.modes.loadStepsDone ∧
    (enterKickstand selfCheckOk cause s).solver.store = s.solver.store ∧
    (enterKickstand selfCheckOk cause s).solver.before = s.solver.before ∧
    (enterKickstand selfCheckOk cause s).solver.plan = s.solver.plan ∧
    (enterKickstand selfCheckOk cause s).cycle.counter = s.cycle.counter ∧
    (enterKickstand selfCheckOk cause s).cycle.hostWrites = s.cycle.hostWrites ∧
    (enterKickstand selfCheckOk cause s).change = s.change ∧ (enterKickstand selfCheckOk cause s).pair.jersey = s.pair.jersey ∧
    (enterKickstand selfCheckOk cause s).pair.highest = s.pair.highest ∧
    (enterKickstand selfCheckOk cause s).pair.standby = s.pair.standby ∧ (enterKickstand selfCheckOk cause s).hub = s.hub ∧
    (enterKickstand selfCheckOk cause s).protection = s.protection ∧
    (enterKickstand selfCheckOk cause s).network.handed = s.network.handed ∧
    (enterKickstand selfCheckOk cause s).network.delayFailures = s.network.delayFailures ∧
    (enterKickstand selfCheckOk cause s).network.largestDelay = s.network.largestDelay ∧
    (enterKickstand selfCheckOk cause s).network.time = s.network.time ∧
    (enterKickstand selfCheckOk cause s).stations = s.stations ∧
    (enterKickstand selfCheckOk cause s).localIo.zero = s.localIo.zero ∧
    (enterKickstand selfCheckOk cause s).localIo.span = s.localIo.span ∧
    (enterKickstand selfCheckOk cause s).nsp.shadow = s.nsp.shadow ∧
    (enterKickstand selfCheckOk cause s).nsp.inForce = s.nsp.inForce ∧
    (enterKickstand selfCheckOk cause s).nsp.sessions = s.nsp.sessions ∧
    (enterKickstand selfCheckOk cause s).nsp.settings = s.nsp.settings ∧
    (enterKickstand selfCheckOk cause s).firmware.minSecurity = s.firmware.minSecurity ∧
    (enterKickstand selfCheckOk cause s).firmware.staging = s.firmware.staging ∧
    (enterKickstand selfCheckOk cause s).free = s.free ∧ (enterKickstand selfCheckOk cause s).pending = s.pending := by
  unfold enterKickstand
  (repeat' split) <;> simp

end Sys2Proof.Machine
end

