-- ==== Sys2Proof/Laws/Store.lean ====
section
/-!
SUPPORT. Laws of the sparse stores: what a read gives after a write, the canonical form that every operation keeps, and
that two canonical stores that read alike are equal.
-/
namespace Sys2Proof.Machine

variable {α : Type} [DecidableEq α]

omit [DecidableEq α] in
@[simp] theorem mapVal_nil (d : α) (k : Nat) : mapVal d k [] = d := rfl

/-- A write leaves every other key as it was. -/
theorem mapVal_mapPut_other (d : α) (k j : Nat) (v : α) (m : SMap α) (h : j ≠ k) :
    mapVal d j (mapPut d k v m) = mapVal d j m := by
  induction m with
  | nil => by_cases hv : v = d <;> simp [mapPut, mapVal, hv, Ne.symm h]
  | cons p m ih =>
    obtain ⟨i, w⟩ := p
    unfold mapPut
    split
    · split <;> simp [mapVal, Ne.symm h]
    · split
      · split
        · simp_all [mapVal, Ne.symm h]
        · simp_all [mapVal, Ne.symm h]
      · simp [mapVal, ih]

/-- A write of a value that must be listed is what a read gives. -/
theorem mapVal_mapPut_listed (d : α) (k : Nat) (v : α) (m : SMap α) (h : v ≠ d) : mapVal d k (mapPut d k v m) = v := by
  induction m with
  | nil => simp [mapPut, mapVal, h]
  | cons p m ih =>
    obtain ⟨i, w⟩ := p
    simp only [mapPut, h, if_false]
    split
    · simp [mapVal]
    · split
      · simp [mapVal]
      · simp_all [mapVal]

/-- A key below every listed one reads as the default. -/
theorem mapVal_below (d : α) (k lo : Nat) (m : SMap α) (h : mapWfFrom d lo m = true) (hk : k < lo) : mapVal d k m = d := by
  induction m generalizing lo with
  | nil => rfl
  | cons p m ih =>
    obtain ⟨i, w⟩ := p
    simp only [mapWfFrom, Bool.and_eq_true, decide_eq_true_eq] at h
    have : i ≠ k := by omega
    simp only [mapVal, this, if_false]
    exact ih (i + 1) h.2 (by omega)

/-- The bound of a canonical store may be lowered. -/
theorem mapWfFrom_mono (d : α) (lo lo' : Nat) (m : SMap α) (h : mapWfFrom d lo m = true) (hl : lo' ≤ lo) :
    mapWfFrom d lo' m = true := by
  cases m with
  | nil => rfl
  | cons p m =>
    obtain ⟨i, w⟩ := p
    simp only [mapWfFrom, Bool.and_eq_true, decide_eq_true_eq] at h ⊢
    exact ⟨⟨by omega, h.1.2⟩, h.2⟩

/-- A write keeps the canonical form above a bound. -/
theorem mapWfFrom_mapPut (d : α) (k lo : Nat) (v : α) (m : SMap α) (h : mapWfFrom d lo m = true) (hk : lo ≤ k) :
    mapWfFrom d lo (mapPut d k v m) = true := by
  induction m generalizing lo with
  | nil => by_cases hv : v = d <;> simp [mapPut, mapWfFrom, hv, hk]
  | cons p m ih =>
    obtain ⟨i, w⟩ := p
    have h' := h
    simp only [mapWfFrom, Bool.and_eq_true, decide_eq_true_eq] at h'
    unfold mapPut
    split
    · split
      · exact h
      · simp only [mapWfFrom, Bool.and_eq_true, decide_eq_true_eq]
        exact ⟨⟨hk, by assumption⟩, ⟨by omega, h'.1.2⟩, h'.2⟩
    · split
      · subst_vars
        split
        · exact mapWfFrom_mono d _ _ m h'.2 (by omega)
        · simp only [mapWfFrom, Bool.and_eq_true, decide_eq_true_eq]
          exact ⟨⟨h'.1.1, by assumption⟩, h'.2⟩
      · simp only [mapWfFrom, Bool.and_eq_true, decide_eq_true_eq]
        exact ⟨h'.1, ih (i + 1) h'.2 (by omega)⟩

/-- A write keeps the canonical form. -/
theorem mapWf_mapPut (d : α) (k : Nat) (v : α) (m : SMap α) (h : mapWf d m = true) : mapWf d (mapPut d k v m) = true :=
  mapWfFrom_mapPut d k 0 v m h (Nat.zero_le k)

/-- A change of one key keeps the canonical form. -/
theorem mapWf_mapMod (d : α) (k : Nat) (f : α → α) (m : SMap α) (h : mapWf d m = true) : mapWf d (mapMod d k f m) = true :=
  mapWf_mapPut d k _ m h

@[simp] theorem mapWf_nil (d : α) : mapWf d ([] : SMap α) = true := rfl

/-- In a canonical store a read gives what was written. -/
theorem mapVal_mapPut_from (d : α) (k lo : Nat) (v : α) (m : SMap α) (h : mapWfFrom d lo m = true) :
    mapVal d k (mapPut d k v m) = v := by
  by_cases hv : v = d
  · induction m generalizing lo with
    | nil => simp [mapPut, hv]
    | cons p m ih =>
      obtain ⟨i, w⟩ := p
      simp only [mapWfFrom, Bool.and_eq_true, decide_eq_true_eq] at h
      unfold mapPut
      split
      · have : i ≠ k := by omega
        simp only [hv, mapVal, this, if_false]
        exact mapVal_below d k (i + 1) m h.2 (by omega)
      · split
        · subst_vars
          simpa using mapVal_below v i (i + 1) m h.2 (by omega)
        · rename_i hik
          simp only [mapVal, hik, if_false]
          exact ih (i + 1) h.2
  · exact mapVal_mapPut_listed d k v m hv

/-- In a canonical store a read gives what was written. -/
theorem mapVal_mapPut (d : α) (k : Nat) (v : α) (m : SMap α) (h : mapWf d m = true) : mapVal d k (mapPut d k v m) = v :=
  mapVal_mapPut_from d k 0 v m h

/-- The later of two writes of listed values to one key stands alone. -/
theorem mapPut_mapPut_listed (d : α) (k : Nat) (v w : α) (m : SMap α) (hv : v ≠ d) (hw : w ≠ d) :
    mapPut d k w (mapPut d k v m) = mapPut d k w m := by
  induction m with
  | nil => simp [mapPut, hv, hw]
  | cons p m ih =>
    obtain ⟨i, x⟩ := p
    by_cases h1 : k < i
    · simp [mapPut, h1, hv, hw]
    · by_cases h2 : i = k
      · subst h2; simp [mapPut, hv, hw]
      · simp [mapPut, h1, h2, ih]

/-- A key that a canonical store lists is not below its bound. -/
theorem mapVal_ext_from (d : α) (lo : Nat) (m n : SMap α) (hm : mapWfFrom d lo m = true) (hn : mapWfFrom d lo n = true)
    (h : ∀ k, mapVal d k m = mapVal d k n) : m = n := by
  induction m generalizing lo n with
  | nil =>
    cases n with
    | nil => rfl
    | cons q n =>
      obtain ⟨j, w⟩ := q
      simp only [mapWfFrom, Bool.and_eq_true, decide_eq_true_eq] at hn
      have := h j
      simp [mapVal] at this
      exact absurd this.symm hn.1.2
  | cons p m ih =>
    obtain ⟨i, v⟩ := p
    simp only [mapWfFrom, Bool.and_eq_true, decide_eq_true_eq] at hm
    cases n with
    | nil =>
      have := h i
      simp [mapVal] at this
      exact absurd this hm.1.2
    | cons q n =>
      obtain ⟨j, w⟩ := q
      simp only [mapWfFrom, Bool.and_eq_true, decide_eq_true_eq] at hn
      have hij : i = j := by
        rcases Nat.lt_trichotomy i j with hlt | heq | hgt
        · have := h i
          have hj : j ≠ i := by omega
          simp only [mapVal, hj, if_true, if_false] at this
          rw [mapVal_below d i (j + 1) n hn.2 (by omega)] at this
          exact absurd this hm.1.2
        · exact heq
        · have := h j
          have hi : i ≠ j := by omega
          simp only [mapVal, hi, if_true, if_false] at this
          rw [mapVal_below d j (i + 1) m hm.2 (by omega)] at this
          exact absurd this.symm hn.1.2
      subst hij
      have hvw : v = w := by simpa [mapVal] using h i
      subst hvw
      have : m = n := by
        refine ih (i + 1) n hm.2 hn.2 fun k => ?_
        by_cases hk : i = k
        · subst hk
          rw [mapVal_below d i (i + 1) m hm.2 (by omega), mapVal_below d i (i + 1) n hn.2 (by omega)]
        · simpa [mapVal, hk] using h k
      rw [this]

/-- Two canonical stores that read alike at every key are equal data. -/
theorem mapVal_ext (d : α) (m n : SMap α) (hm : mapWf d m = true) (hn : mapWf d n = true)
    (h : ∀ k, mapVal d k m = mapVal d k n) : m = n :=
  mapVal_ext_from d 0 m n hm hn h

/-- A fold of writes keeps the canonical form. -/
theorem mapWf_foldl {β : Type} (d : α) (g : SMap α → β → SMap α) (hg : ∀ m b, mapWf d m = true → mapWf d (g m b) = true)
    (l : List β) (m : SMap α) (h : mapWf d m = true) : mapWf d (l.foldl g m) = true := by
  induction l generalizing m with
  | nil => exact h
  | cons b l ih => exact ih (g m b) (hg m b h)

/-- Removing entries keeps the canonical form. -/
theorem mapWfFrom_filter (d : α) (q : Nat × α → Bool) (lo : Nat) (m : SMap α) (h : mapWfFrom d lo m = true) :
    mapWfFrom d lo (m.filter q) = true := by
  induction m generalizing lo with
  | nil => rfl
  | cons p m ih =>
    obtain ⟨i, w⟩ := p
    simp only [mapWfFrom, Bool.and_eq_true, decide_eq_true_eq] at h
    by_cases hq : q (i, w) = true
    · simp only [List.filter_cons, hq, if_true, mapWfFrom, Bool.and_eq_true, decide_eq_true_eq]
      exact ⟨h.1, ih (i + 1) h.2⟩
    · simp only [List.filter_cons, hq]
      exact mapWfFrom_mono d _ _ _ (ih (i + 1) h.2) (by omega)

/-- Removing entries keeps the canonical form. -/
theorem mapWf_filter (d : α) (q : Nat × α → Bool) (m : SMap α) (h : mapWf d m = true) : mapWf d (m.filter q) = true :=
  mapWfFrom_filter d q 0 m h

end Sys2Proof.Machine
end

