-- ==== Sys2Proof/Laws/State.lean ====
section
/-!
SUPPORT. Reads of the state after its field updates: what an update of one store gives back, that it leaves every other key and
every other store as it is, and that it keeps the canonical form.
-/
namespace Sys2Proof.Machine

/-! ### `island` and `modIsland` -/

@[simp] theorem modIsland_islands (n : Nat) (f : Island → Island) (s : State) :
    (modIsland n f s).islands.islands = mapMod {} n f s.islands.islands := rfl
theorem island_modIsland (n : Nat) (f : Island → Island) (s : State) (h : mapWf {} s.islands.islands = true) :
    island n (modIsland n f s) = f (island n s) := mapVal_mapPut _ _ _ _ h
theorem island_modIsland_listed (n : Nat) (f : Island → Island) (s : State) (h : f (island n s) ≠ {}) :
    island n (modIsland n f s) = f (island n s) := mapVal_mapPut_listed _ _ _ _ h
theorem island_modIsland_other (n k : Nat) (f : Island → Island) (s : State) (h : k ≠ n) : island k (modIsland n f s) = island k s :=
  mapVal_mapPut_other _ _ _ _ _ h
theorem modIsland_wf (n : Nat) (f : Island → Island) (s : State) (h : mapWf {} s.islands.islands = true) :
    mapWf {} (modIsland n f s).islands.islands = true := mapWf_mapMod _ _ _ _ h
@[simp] theorem crossing_modIsland (k n : Nat) (f : Island → Island) (s : State) : crossing k (modIsland n f s) = crossing k s := rfl
@[simp] theorem port_modIsland (k n : Nat) (f : Island → Island) (s : State) : port k (modIsland n f s) = port k s := rfl
@[simp] theorem channel_modIsland (k n : Nat) (f : Island → Island) (s : State) : channel k (modIsland n f s) = channel k s := rfl
@[simp] theorem station_modIsland (k n : Nat) (f : Island → Island) (s : State) : station k (modIsland n f s) = station k s := rfl
@[simp] theorem loom_modIsland (k n : Nat) (f : Island → Island) (s : State) : loom k (modIsland n f s) = loom k s := rfl
@[simp] theorem session_modIsland (k n : Nat) (f : Island → Island) (s : State) : session k (modIsland n f s) = session k s := rfl
@[simp] theorem laneAt_modIsland (k n : Nat) (f : Island → Island) (s : State) : laneAt k (modIsland n f s) = laneAt k s := rfl
@[simp] theorem arbiter_modIsland (k n : Nat) (f : Island → Island) (s : State) : arbiter k (modIsland n f s) = arbiter k s := rfl
@[simp] theorem lockAt_modIsland (k n : Nat) (f : Island → Island) (s : State) : lockAt k (modIsland n f s) = lockAt k s := rfl
@[simp] theorem analogIn_modIsland (k n : Nat) (f : Island → Island) (s : State) : analogIn k (modIsland n f s) = analogIn k s := rfl
@[simp] theorem analogOut_modIsland (k n : Nat) (f : Island → Island) (s : State) : analogOut k (modIsland n f s) = analogOut k s := rfl
@[simp] theorem safetyIn_modIsland (k n : Nat) (f : Island → Island) (s : State) : safetyIn k (modIsland n f s) = safetyIn k s := rfl
@[simp] theorem safetyOut_modIsland (k n : Nat) (f : Island → Island) (s : State) : safetyOut k (modIsland n f s) = safetyOut k s := rfl
@[simp] theorem storeAt_modIsland (a n : Nat) (f : Island → Island) (s : State) : storeAt a (modIsland n f s) = storeAt a s := rfl

/-! ### `crossing` and `modCrossing` -/

@[simp] theorem modCrossing_crossings (n : Nat) (f : Crossing → Crossing) (s : State) :
    (modCrossing n f s).islands.crossings = mapMod {} n f s.islands.crossings := rfl
theorem crossing_modCrossing (n : Nat) (f : Crossing → Crossing) (s : State) (h : mapWf {} s.islands.crossings = true) :
    crossing n (modCrossing n f s) = f (crossing n s) := mapVal_mapPut _ _ _ _ h
theorem crossing_modCrossing_listed (n : Nat) (f : Crossing → Crossing) (s : State) (h : f (crossing n s) ≠ {}) :
    crossing n (modCrossing n f s) = f (crossing n s) := mapVal_mapPut_listed _ _ _ _ h
theorem crossing_modCrossing_other (n k : Nat) (f : Crossing → Crossing) (s : State) (h : k ≠ n) : crossing k (modCrossing n f s) = crossing k s :=
  mapVal_mapPut_other _ _ _ _ _ h
theorem modCrossing_wf (n : Nat) (f : Crossing → Crossing) (s : State) (h : mapWf {} s.islands.crossings = true) :
    mapWf {} (modCrossing n f s).islands.crossings = true := mapWf_mapMod _ _ _ _ h
@[simp] theorem island_modCrossing (k n : Nat) (f : Crossing → Crossing) (s : State) : island k (modCrossing n f s) = island k s := rfl
@[simp] theorem port_modCrossing (k n : Nat) (f : Crossing → Crossing) (s : State) : port k (modCrossing n f s) = port k s := rfl
@[simp] theorem channel_modCrossing (k n : Nat) (f : Crossing → Crossing) (s : State) : channel k (modCrossing n f s) = channel k s := rfl
@[simp] theorem station_modCrossing (k n : Nat) (f : Crossing → Crossing) (s : State) : station k (modCrossing n f s) = station k s := rfl
@[simp] theorem loom_modCrossing (k n : Nat) (f : Crossing → Crossing) (s : State) : loom k (modCrossing n f s) = loom k s := rfl
@[simp] theorem session_modCrossing (k n : Nat) (f : Crossing → Crossing) (s : State) : session k (modCrossing n f s) = session k s := rfl
@[simp] theorem laneAt_modCrossing (k n : Nat) (f : Crossing → Crossing) (s : State) : laneAt k (modCrossing n f s) = laneAt k s := rfl
@[simp] theorem arbiter_modCrossing (k n : Nat) (f : Crossing → Crossing) (s : State) : arbiter k (modCrossing n f s) = arbiter k s := rfl
@[simp] theorem lockAt_modCrossing (k n : Nat) (f : Crossing → Crossing) (s : State) : lockAt k (modCrossing n f s) = lockAt k s := rfl
@[simp] theorem analogIn_modCrossing (k n : Nat) (f : Crossing → Crossing) (s : State) : analogIn k (modCrossing n f s) = analogIn k s := rfl
@[simp] theorem analogOut_modCrossing (k n : Nat) (f : Crossing → Crossing) (s : State) : analogOut k (modCrossing n f s) = analogOut k s := rfl
@[simp] theorem safetyIn_modCrossing (k n : Nat) (f : Crossing → Crossing) (s : State) : safetyIn k (modCrossing n f s) = safetyIn k s := rfl
@[simp] theorem safetyOut_modCrossing (k n : Nat) (f : Crossing → Crossing) (s : State) : safetyOut k (modCrossing n f s) = safetyOut k s := rfl
@[simp] theorem storeAt_modCrossing (a n : Nat) (f : Crossing → Crossing) (s : State) : storeAt a (modCrossing n f s) = storeAt a s := rfl

/-! ### `port` and `modPort` -/

@[simp] theorem modPort_ports (n : Nat) (f : Port → Port) (s : State) :
    (modPort n f s).network.ports = mapMod {} n f s.network.ports := rfl
theorem port_modPort (n : Nat) (f : Port → Port) (s : State) (h : mapWf {} s.network.ports = true) :
    port n (modPort n f s) = f (port n s) := mapVal_mapPut _ _ _ _ h
theorem port_modPort_listed (n : Nat) (f : Port → Port) (s : State) (h : f (port n s) ≠ {}) :
    port n (modPort n f s) = f (port n s) := mapVal_mapPut_listed _ _ _ _ h
theorem port_modPort_other (n k : Nat) (f : Port → Port) (s : State) (h : k ≠ n) : port k (modPort n f s) = port k s :=
  mapVal_mapPut_other _ _ _ _ _ h
theorem modPort_wf (n : Nat) (f : Port → Port) (s : State) (h : mapWf {} s.network.ports = true) :
    mapWf {} (modPort n f s).network.ports = true := mapWf_mapMod _ _ _ _ h
@[simp] theorem island_modPort (k n : Nat) (f : Port → Port) (s : State) : island k (modPort n f s) = island k s := rfl
@[simp] theorem crossing_modPort (k n : Nat) (f : Port → Port) (s : State) : crossing k (modPort n f s) = crossing k s := rfl
@[simp] theorem channel_modPort (k n : Nat) (f : Port → Port) (s : State) : channel k (modPort n f s) = channel k s := rfl
@[simp] theorem station_modPort (k n : Nat) (f : Port → Port) (s : State) : station k (modPort n f s) = station k s := rfl
@[simp] theorem loom_modPort (k n : Nat) (f : Port → Port) (s : State) : loom k (modPort n f s) = loom k s := rfl
@[simp] theorem session_modPort (k n : Nat) (f : Port → Port) (s : State) : session k (modPort n f s) = session k s := rfl
@[simp] theorem laneAt_modPort (k n : Nat) (f : Port → Port) (s : State) : laneAt k (modPort n f s) = laneAt k s := rfl
@[simp] theorem arbiter_modPort (k n : Nat) (f : Port → Port) (s : State) : arbiter k (modPort n f s) = arbiter k s := rfl
@[simp] theorem lockAt_modPort (k n : Nat) (f : Port → Port) (s : State) : lockAt k (modPort n f s) = lockAt k s := rfl
@[simp] theorem analogIn_modPort (k n : Nat) (f : Port → Port) (s : State) : analogIn k (modPort n f s) = analogIn k s := rfl
@[simp] theorem analogOut_modPort (k n : Nat) (f : Port → Port) (s : State) : analogOut k (modPort n f s) = analogOut k s := rfl
@[simp] theorem safetyIn_modPort (k n : Nat) (f : Port → Port) (s : State) : safetyIn k (modPort n f s) = safetyIn k s := rfl
@[simp] theorem safetyOut_modPort (k n : Nat) (f : Port → Port) (s : State) : safetyOut k (modPort n f s) = safetyOut k s := rfl
@[simp] theorem storeAt_modPort (a n : Nat) (f : Port → Port) (s : State) : storeAt a (modPort n f s) = storeAt a s := rfl

/-! ### `channel` and `modChannel` -/

@[simp] theorem modChannel_channels (n : Nat) (f : Channel → Channel) (s : State) :
    (modChannel n f s).doors.channels = mapMod {} n f s.doors.channels := rfl
theorem channel_modChannel (n : Nat) (f : Channel → Channel) (s : State) (h : mapWf {} s.doors.channels = true) :
    channel n (modChannel n f s) = f (channel n s) := mapVal_mapPut _ _ _ _ h
theorem channel_modChannel_listed (n : Nat) (f : Channel → Channel) (s : State) (h : f (channel n s) ≠ {}) :
    channel n (modChannel n f s) = f (channel n s) := mapVal_mapPut_listed _ _ _ _ h
theorem channel_modChannel_other (n k : Nat) (f : Channel → Channel) (s : State) (h : k ≠ n) : channel k (modChannel n f s) = channel k s :=
  mapVal_mapPut_other _ _ _ _ _ h
theorem modChannel_wf (n : Nat) (f : Channel → Channel) (s : State) (h : mapWf {} s.doors.channels = true) :
    mapWf {} (modChannel n f s).doors.channels = true := mapWf_mapMod _ _ _ _ h
@[simp] theorem island_modChannel (k n : Nat) (f : Channel → Channel) (s : State) : island k (modChannel n f s) = island k s := rfl
@[simp] theorem crossing_modChannel (k n : Nat) (f : Channel → Channel) (s : State) : crossing k (modChannel n f s) = crossing k s := rfl
@[simp] theorem port_modChannel (k n : Nat) (f : Channel → Channel) (s : State) : port k (modChannel n f s) = port k s := rfl
@[simp] theorem station_modChannel (k n : Nat) (f : Channel → Channel) (s : State) : station k (modChannel n f s) = station k s := rfl
@[simp] theorem loom_modChannel (k n : Nat) (f : Channel → Channel) (s : State) : loom k (modChannel n f s) = loom k s := rfl
@[simp] theorem session_modChannel (k n : Nat) (f : Channel → Channel) (s : State) : session k (modChannel n f s) = session k s := rfl
@[simp] theorem laneAt_modChannel (k n : Nat) (f : Channel → Channel) (s : State) : laneAt k (modChannel n f s) = laneAt k s := rfl
@[simp] theorem arbiter_modChannel (k n : Nat) (f : Channel → Channel) (s : State) : arbiter k (modChannel n f s) = arbiter k s := rfl
@[simp] theorem lockAt_modChannel (k n : Nat) (f : Channel → Channel) (s : State) : lockAt k (modChannel n f s) = lockAt k s := rfl
@[simp] theorem analogIn_modChannel (k n : Nat) (f : Channel → Channel) (s : State) : analogIn k (modChannel n f s) = analogIn k s := rfl
@[simp] theorem analogOut_modChannel (k n : Nat) (f : Channel → Channel) (s : State) : analogOut k (modChannel n f s) = analogOut k s := rfl
@[simp] theorem safetyIn_modChannel (k n : Nat) (f : Channel → Channel) (s : State) : safetyIn k (modChannel n f s) = safetyIn k s := rfl
@[simp] theorem safetyOut_modChannel (k n : Nat) (f : Channel → Channel) (s : State) : safetyOut k (modChannel n f s) = safetyOut k s := rfl
@[simp] theorem storeAt_modChannel (a n : Nat) (f : Channel → Channel) (s : State) : storeAt a (modChannel n f s) = storeAt a s := rfl

/-! ### `station` and `modStation` -/

@[simp] theorem modStation_stations (n : Nat) (f : Station → Station) (s : State) :
    (modStation n f s).stations.stations = mapMod {} n f s.stations.stations := rfl
theorem station_modStation (n : Nat) (f : Station → Station) (s : State) (h : mapWf {} s.stations.stations = true) :
    station n (modStation n f s) = f (station n s) := mapVal_mapPut _ _ _ _ h
theorem station_modStation_listed (n : Nat) (f : Station → Station) (s : State) (h : f (station n s) ≠ {}) :
    station n (modStation n f s) = f (station n s) := mapVal_mapPut_listed _ _ _ _ h
theorem station_modStation_other (n k : Nat) (f : Station → Station) (s : State) (h : k ≠ n) : station k (modStation n f s) = station k s :=
  mapVal_mapPut_other _ _ _ _ _ h
theorem modStation_wf (n : Nat) (f : Station → Station) (s : State) (h : mapWf {} s.stations.stations = true) :
    mapWf {} (modStation n f s).stations.stations = true := mapWf_mapMod _ _ _ _ h
@[simp] theorem island_modStation (k n : Nat) (f : Station → Station) (s : State) : island k (modStation n f s) = island k s := rfl
@[simp] theorem crossing_modStation (k n : Nat) (f : Station → Station) (s : State) : crossing k (modStation n f s) = crossing k s := rfl
@[simp] theorem port_modStation (k n : Nat) (f : Station → Station) (s : State) : port k (modStation n f s) = port k s := rfl
@[simp] theorem channel_modStation (k n : Nat) (f : Station → Station) (s : State) : channel k (modStation n f s) = channel k s := rfl
@[simp] theorem loom_modStation (k n : Nat) (f : Station → Station) (s : State) : loom k (modStation n f s) = loom k s := rfl
@[simp] theorem session_modStation (k n : Nat) (f : Station → Station) (s : State) : session k (modStation n f s) = session k s := rfl
@[simp] theorem laneAt_modStation (k n : Nat) (f : Station → Station) (s : State) : laneAt k (modStation n f s) = laneAt k s := rfl
@[simp] theorem arbiter_modStation (k n : Nat) (f : Station → Station) (s : State) : arbiter k (modStation n f s) = arbiter k s := rfl
@[simp] theorem lockAt_modStation (k n : Nat) (f : Station → Station) (s : State) : lockAt k (modStation n f s) = lockAt k s := rfl
@[simp] theorem analogIn_modStation (k n : Nat) (f : Station → Station) (s : State) : analogIn k (modStation n f s) = analogIn k s := rfl
@[simp] theorem analogOut_modStation (k n : Nat) (f : Station → Station) (s : State) : analogOut k (modStation n f s) = analogOut k s := rfl
@[simp] theorem safetyIn_modStation (k n : Nat) (f : Station → Station) (s : State) : safetyIn k (modStation n f s) = safetyIn k s := rfl
@[simp] theorem safetyOut_modStation (k n : Nat) (f : Station → Station) (s : State) : safetyOut k (modStation n f s) = safetyOut k s := rfl
@[simp] theorem storeAt_modStation (a n : Nat) (f : Station → Station) (s : State) : storeAt a (modStation n f s) = storeAt a s := rfl

/-! ### `loom` and `modLoom` -/

@[simp] theorem modLoom_loom (n : Nat) (f : Loom → Loom) (s : State) :
    (modLoom n f s).stations.loom = mapMod {} n f s.stations.loom := rfl
theorem loom_modLoom (n : Nat) (f : Loom → Loom) (s : State) (h : mapWf {} s.stations.loom = true) :
    loom n (modLoom n f s) = f (loom n s) := mapVal_mapPut _ _ _ _ h
theorem loom_modLoom_listed (n : Nat) (f : Loom → Loom) (s : State) (h : f (loom n s) ≠ {}) :
    loom n (modLoom n f s) = f (loom n s) := mapVal_mapPut_listed _ _ _ _ h
theorem loom_modLoom_other (n k : Nat) (f : Loom → Loom) (s : State) (h : k ≠ n) : loom k (modLoom n f s) = loom k s :=
  mapVal_mapPut_other _ _ _ _ _ h
theorem modLoom_wf (n : Nat) (f : Loom → Loom) (s : State) (h : mapWf {} s.stations.loom = true) :
    mapWf {} (modLoom n f s).stations.loom = true := mapWf_mapMod _ _ _ _ h
@[simp] theorem island_modLoom (k n : Nat) (f : Loom → Loom) (s : State) : island k (modLoom n f s) = island k s := rfl
@[simp] theorem crossing_modLoom (k n : Nat) (f : Loom → Loom) (s : State) : crossing k (modLoom n f s) = crossing k s := rfl
@[simp] theorem port_modLoom (k n : Nat) (f : Loom → Loom) (s : State) : port k (modLoom n f s) = port k s := rfl
@[simp] theorem channel_modLoom (k n : Nat) (f : Loom → Loom) (s : State) : channel k (modLoom n f s) = channel k s := rfl
@[simp] theorem station_modLoom (k n : Nat) (f : Loom → Loom) (s : State) : station k (modLoom n f s) = station k s := rfl
@[simp] theorem session_modLoom (k n : Nat) (f : Loom → Loom) (s : State) : session k (modLoom n f s) = session k s := rfl
@[simp] theorem laneAt_modLoom (k n : Nat) (f : Loom → Loom) (s : State) : laneAt k (modLoom n f s) = laneAt k s := rfl
@[simp] theorem arbiter_modLoom (k n : Nat) (f : Loom → Loom) (s : State) : arbiter k (modLoom n f s) = arbiter k s := rfl
@[simp] theorem lockAt_modLoom (k n : Nat) (f : Loom → Loom) (s : State) : lockAt k (modLoom n f s) = lockAt k s := rfl
@[simp] theorem analogIn_modLoom (k n : Nat) (f : Loom → Loom) (s : State) : analogIn k (modLoom n f s) = analogIn k s := rfl
@[simp] theorem analogOut_modLoom (k n : Nat) (f : Loom → Loom) (s : State) : analogOut k (modLoom n f s) = analogOut k s := rfl
@[simp] theorem safetyIn_modLoom (k n : Nat) (f : Loom → Loom) (s : State) : safetyIn k (modLoom n f s) = safetyIn k s := rfl
@[simp] theorem safetyOut_modLoom (k n : Nat) (f : Loom → Loom) (s : State) : safetyOut k (modLoom n f s) = safetyOut k s := rfl
@[simp] theorem storeAt_modLoom (a n : Nat) (f : Loom → Loom) (s : State) : storeAt a (modLoom n f s) = storeAt a s := rfl

/-! ### `session` and `modSession` -/

@[simp] theorem modSession_sessions (n : Nat) (f : Session → Session) (s : State) :
    (modSession n f s).nsp.sessions = mapMod {} n f s.nsp.sessions := rfl
theorem session_modSession (n : Nat) (f : Session → Session) (s : State) (h : mapWf {} s.nsp.sessions = true) :
    session n (modSession n f s) = f (session n s) := mapVal_mapPut _ _ _ _ h
theorem session_modSession_listed (n : Nat) (f : Session → Session) (s : State) (h : f (session n s) ≠ {}) :
    session n (modSession n f s) = f (session n s) := mapVal_mapPut_listed _ _ _ _ h
theorem session_modSession_other (n k : Nat) (f : Session → Session) (s : State) (h : k ≠ n) : session k (modSession n f s) = session k s :=
  mapVal_mapPut_other _ _ _ _ _ h
theorem modSession_wf (n : Nat) (f : Session → Session) (s : State) (h : mapWf {} s.nsp.sessions = true) :
    mapWf {} (modSession n f s).nsp.sessions = true := mapWf_mapMod _ _ _ _ h
@[simp] theorem island_modSession (k n : Nat) (f : Session → Session) (s : State) : island k (modSession n f s) = island k s := rfl
@[simp] theorem crossing_modSession (k n : Nat) (f : Session → Session) (s : State) : crossing k (modSession n f s) = crossing k s := rfl
@[simp] theorem port_modSession (k n : Nat) (f : Session → Session) (s : State) : port k (modSession n f s) = port k s := rfl
@[simp] theorem channel_modSession (k n : Nat) (f : Session → Session) (s : State) : channel k (modSession n f s) = channel k s := rfl
@[simp] theorem station_modSession (k n : Nat) (f : Session → Session) (s : State) : station k (modSession n f s) = station k s := rfl
@[simp] theorem loom_modSession (k n : Nat) (f : Session → Session) (s : State) : loom k (modSession n f s) = loom k s := rfl
@[simp] theorem laneAt_modSession (k n : Nat) (f : Session → Session) (s : State) : laneAt k (modSession n f s) = laneAt k s := rfl
@[simp] theorem arbiter_modSession (k n : Nat) (f : Session → Session) (s : State) : arbiter k (modSession n f s) = arbiter k s := rfl
@[simp] theorem lockAt_modSession (k n : Nat) (f : Session → Session) (s : State) : lockAt k (modSession n f s) = lockAt k s := rfl
@[simp] theorem analogIn_modSession (k n : Nat) (f : Session → Session) (s : State) : analogIn k (modSession n f s) = analogIn k s := rfl
@[simp] theorem analogOut_modSession (k n : Nat) (f : Session → Session) (s : State) : analogOut k (modSession n f s) = analogOut k s := rfl
@[simp] theorem safetyIn_modSession (k n : Nat) (f : Session → Session) (s : State) : safetyIn k (modSession n f s) = safetyIn k s := rfl
@[simp] theorem safetyOut_modSession (k n : Nat) (f : Session → Session) (s : State) : safetyOut k (modSession n f s) = safetyOut k s := rfl
@[simp] theorem storeAt_modSession (a n : Nat) (f : Session → Session) (s : State) : storeAt a (modSession n f s) = storeAt a s := rfl

/-! ### `laneAt` and `modLane` -/

@[simp] theorem modLane_places (n : Nat) (f : Lane → Lane) (s : State) :
    (modLane n f s).solver.places = mapMod {} n f s.solver.places := rfl
theorem laneAt_modLane (n : Nat) (f : Lane → Lane) (s : State) (h : mapWf {} s.solver.places = true) :
    laneAt n (modLane n f s) = f (laneAt n s) := mapVal_mapPut _ _ _ _ h
theorem laneAt_modLane_listed (n : Nat) (f : Lane → Lane) (s : State) (h : f (laneAt n s) ≠ {}) :
    laneAt n (modLane n f s) = f (laneAt n s) := mapVal_mapPut_listed _ _ _ _ h
theorem laneAt_modLane_other (n k : Nat) (f : Lane → Lane) (s : State) (h : k ≠ n) : laneAt k (modLane n f s) = laneAt k s :=
  mapVal_mapPut_other _ _ _ _ _ h
theorem modLane_wf (n : Nat) (f : Lane → Lane) (s : State) (h : mapWf {} s.solver.places = true) :
    mapWf {} (modLane n f s).solver.places = true := mapWf_mapMod _ _ _ _ h
@[simp] theorem island_modLane (k n : Nat) (f : Lane → Lane) (s : State) : island k (modLane n f s) = island k s := rfl
@[simp] theorem crossing_modLane (k n : Nat) (f : Lane → Lane) (s : State) : crossing k (modLane n f s) = crossing k s := rfl
@[simp] theorem port_modLane (k n : Nat) (f : Lane → Lane) (s : State) : port k (modLane n f s) = port k s := rfl
@[simp] theorem channel_modLane (k n : Nat) (f : Lane → Lane) (s : State) : channel k (modLane n f s) = channel k s := rfl
@[simp] theorem station_modLane (k n : Nat) (f : Lane → Lane) (s : State) : station k (modLane n f s) = station k s := rfl
@[simp] theorem loom_modLane (k n : Nat) (f : Lane → Lane) (s : State) : loom k (modLane n f s) = loom k s := rfl
@[simp] theorem session_modLane (k n : Nat) (f : Lane → Lane) (s : State) : session k (modLane n f s) = session k s := rfl
@[simp] theorem arbiter_modLane (k n : Nat) (f : Lane → Lane) (s : State) : arbiter k (modLane n f s) = arbiter k s := rfl
@[simp] theorem lockAt_modLane (k n : Nat) (f : Lane → Lane) (s : State) : lockAt k (modLane n f s) = lockAt k s := rfl
@[simp] theorem analogIn_modLane (k n : Nat) (f : Lane → Lane) (s : State) : analogIn k (modLane n f s) = analogIn k s := rfl
@[simp] theorem analogOut_modLane (k n : Nat) (f : Lane → Lane) (s : State) : analogOut k (modLane n f s) = analogOut k s := rfl
@[simp] theorem safetyIn_modLane (k n : Nat) (f : Lane → Lane) (s : State) : safetyIn k (modLane n f s) = safetyIn k s := rfl
@[simp] theorem safetyOut_modLane (k n : Nat) (f : Lane → Lane) (s : State) : safetyOut k (modLane n f s) = safetyOut k s := rfl
@[simp] theorem storeAt_modLane (a n : Nat) (f : Lane → Lane) (s : State) : storeAt a (modLane n f s) = storeAt a s := rfl

/-! ### `arbiter` and `modArbiter` -/

@[simp] theorem modArbiter_arbiters (n : Nat) (f : Arbiter → Arbiter) (s : State) :
    (modArbiter n f s).hub.arbiters = mapMod {} n f s.hub.arbiters := rfl
theorem arbiter_modArbiter (n : Nat) (f : Arbiter → Arbiter) (s : State) (h : mapWf {} s.hub.arbiters = true) :
    arbiter n (modArbiter n f s) = f (arbiter n s) := mapVal_mapPut _ _ _ _ h
theorem arbiter_modArbiter_listed (n : Nat) (f : Arbiter → Arbiter) (s : State) (h : f (arbiter n s) ≠ {}) :
    arbiter n (modArbiter n f s) = f (arbiter n s) := mapVal_mapPut_listed _ _ _ _ h
theorem arbiter_modArbiter_other (n k : Nat) (f : Arbiter → Arbiter) (s : State) (h : k ≠ n) : arbiter k (modArbiter n f s) = arbiter k s :=
  mapVal_mapPut_other _ _ _ _ _ h
theorem modArbiter_wf (n : Nat) (f : Arbiter → Arbiter) (s : State) (h : mapWf {} s.hub.arbiters = true) :
    mapWf {} (modArbiter n f s).hub.arbiters = true := mapWf_mapMod _ _ _ _ h
@[simp] theorem island_modArbiter (k n : Nat) (f : Arbiter → Arbiter) (s : State) : island k (modArbiter n f s) = island k s := rfl
@[simp] theorem crossing_modArbiter (k n : Nat) (f : Arbiter → Arbiter) (s : State) : crossing k (modArbiter n f s) = crossing k s := rfl
@[simp] theorem port_modArbiter (k n : Nat) (f : Arbiter → Arbiter) (s : State) : port k (modArbiter n f s) = port k s := rfl
@[simp] theorem channel_modArbiter (k n : Nat) (f : Arbiter → Arbiter) (s : State) : channel k (modArbiter n f s) = channel k s := rfl
@[simp] theorem station_modArbiter (k n : Nat) (f : Arbiter → Arbiter) (s : State) : station k (modArbiter n f s) = station k s := rfl
@[simp] theorem loom_modArbiter (k n : Nat) (f : Arbiter → Arbiter) (s : State) : loom k (modArbiter n f s) = loom k s := rfl
@[simp] theorem session_modArbiter (k n : Nat) (f : Arbiter → Arbiter) (s : State) : session k (modArbiter n f s) = session k s := rfl
@[simp] theorem laneAt_modArbiter (k n : Nat) (f : Arbiter → Arbiter) (s : State) : laneAt k (modArbiter n f s) = laneAt k s := rfl
@[simp] theorem lockAt_modArbiter (k n : Nat) (f : Arbiter → Arbiter) (s : State) : lockAt k (modArbiter n f s) = lockAt k s := rfl
@[simp] theorem analogIn_modArbiter (k n : Nat) (f : Arbiter → Arbiter) (s : State) : analogIn k (modArbiter n f s) = analogIn k s := rfl
@[simp] theorem analogOut_modArbiter (k n : Nat) (f : Arbiter → Arbiter) (s : State) : analogOut k (modArbiter n f s) = analogOut k s := rfl
@[simp] theorem safetyIn_modArbiter (k n : Nat) (f : Arbiter → Arbiter) (s : State) : safetyIn k (modArbiter n f s) = safetyIn k s := rfl
@[simp] theorem safetyOut_modArbiter (k n : Nat) (f : Arbiter → Arbiter) (s : State) : safetyOut k (modArbiter n f s) = safetyOut k s := rfl
@[simp] theorem storeAt_modArbiter (a n : Nat) (f : Arbiter → Arbiter) (s : State) : storeAt a (modArbiter n f s) = storeAt a s := rfl

/-! ### `lockAt` and `modLock` -/

@[simp] theorem modLock_locks (n : Nat) (f : Lock → Lock) (s : State) :
    (modLock n f s).hub.locks = mapMod {} n f s.hub.locks := rfl
theorem lockAt_modLock (n : Nat) (f : Lock → Lock) (s : State) (h : mapWf {} s.hub.locks = true) :
    lockAt n (modLock n f s) = f (lockAt n s) := mapVal_mapPut _ _ _ _ h
theorem lockAt_modLock_listed (n : Nat) (f : Lock → Lock) (s : State) (h : f (lockAt n s) ≠ {}) :
    lockAt n (modLock n f s) = f (lockAt n s) := mapVal_mapPut_listed _ _ _ _ h
theorem lockAt_modLock_other (n k : Nat) (f : Lock → Lock) (s : State) (h : k ≠ n) : lockAt k (modLock n f s) = lockAt k s :=
  mapVal_mapPut_other _ _ _ _ _ h
theorem modLock_wf (n : Nat) (f : Lock → Lock) (s : State) (h : mapWf {} s.hub.locks = true) :
    mapWf {} (modLock n f s).hub.locks = true := mapWf_mapMod _ _ _ _ h
@[simp] theorem island_modLock (k n : Nat) (f : Lock → Lock) (s : State) : island k (modLock n f s) = island k s := rfl
@[simp] theorem crossing_modLock (k n : Nat) (f : Lock → Lock) (s : State) : crossing k (modLock n f s) = crossing k s := rfl
@[simp] theorem port_modLock (k n : Nat) (f : Lock → Lock) (s : State) : port k (modLock n f s) = port k s := rfl
@[simp] theorem channel_modLock (k n : Nat) (f : Lock → Lock) (s : State) : channel k (modLock n f s) = channel k s := rfl
@[simp] theorem station_modLock (k n : Nat) (f : Lock → Lock) (s : State) : station k (modLock n f s) = station k s := rfl
@[simp] theorem loom_modLock (k n : Nat) (f : Lock → Lock) (s : State) : loom k (modLock n f s) = loom k s := rfl
@[simp] theorem session_modLock (k n : Nat) (f : Lock → Lock) (s : State) : session k (modLock n f s) = session k s := rfl
@[simp] theorem laneAt_modLock (k n : Nat) (f : Lock → Lock) (s : State) : laneAt k (modLock n f s) = laneAt k s := rfl
@[simp] theorem arbiter_modLock (k n : Nat) (f : Lock → Lock) (s : State) : arbiter k (modLock n f s) = arbiter k s := rfl
@[simp] theorem analogIn_modLock (k n : Nat) (f : Lock → Lock) (s : State) : analogIn k (modLock n f s) = analogIn k s := rfl
@[simp] theorem analogOut_modLock (k n : Nat) (f : Lock → Lock) (s : State) : analogOut k (modLock n f s) = analogOut k s := rfl
@[simp] theorem safetyIn_modLock (k n : Nat) (f : Lock → Lock) (s : State) : safetyIn k (modLock n f s) = safetyIn k s := rfl
@[simp] theorem safetyOut_modLock (k n : Nat) (f : Lock → Lock) (s : State) : safetyOut k (modLock n f s) = safetyOut k s := rfl
@[simp] theorem storeAt_modLock (a n : Nat) (f : Lock → Lock) (s : State) : storeAt a (modLock n f s) = storeAt a s := rfl

/-! ### `analogIn` and `modAi` -/

@[simp] theorem modAi_ai (n : Nat) (f : AnalogIn → AnalogIn) (s : State) :
    (modAi n f s).localIo.ai = mapMod {} n f s.localIo.ai := rfl
theorem analogIn_modAi (n : Nat) (f : AnalogIn → AnalogIn) (s : State) (h : mapWf {} s.localIo.ai = true) :
    analogIn n (modAi n f s) = f (analogIn n s) := mapVal_mapPut _ _ _ _ h
theorem analogIn_modAi_listed (n : Nat) (f : AnalogIn → AnalogIn) (s : State) (h : f (analogIn n s) ≠ {}) :
    analogIn n (modAi n f s) = f (analogIn n s) := mapVal_mapPut_listed _ _ _ _ h
theorem analogIn_modAi_other (n k : Nat) (f : AnalogIn → AnalogIn) (s : State) (h : k ≠ n) : analogIn k (modAi n f s) = analogIn k s :=
  mapVal_mapPut_other _ _ _ _ _ h
theorem modAi_wf (n : Nat) (f : AnalogIn → AnalogIn) (s : State) (h : mapWf {} s.localIo.ai = true) :
    mapWf {} (modAi n f s).localIo.ai = true := mapWf_mapMod _ _ _ _ h
@[simp] theorem island_modAi (k n : Nat) (f : AnalogIn → AnalogIn) (s : State) : island k (modAi n f s) = island k s := rfl
@[simp] theorem crossing_modAi (k n : Nat) (f : AnalogIn → AnalogIn) (s : State) : crossing k (modAi n f s) = crossing k s := rfl
@[simp] theorem port_modAi (k n : Nat) (f : AnalogIn → AnalogIn) (s : State) : port k (modAi n f s) = port k s := rfl
@[simp] theorem channel_modAi (k n : Nat) (f : AnalogIn → AnalogIn) (s : State) : channel k (modAi n f s) = channel k s := rfl
@[simp] theorem station_modAi (k n : Nat) (f : AnalogIn → AnalogIn) (s : State) : station k (modAi n f s) = station k s := rfl
@[simp] theorem loom_modAi (k n : Nat) (f : AnalogIn → AnalogIn) (s : State) : loom k (modAi n f s) = loom k s := rfl
@[simp] theorem session_modAi (k n : Nat) (f : AnalogIn → AnalogIn) (s : State) : session k (modAi n f s) = session k s := rfl
@[simp] theorem laneAt_modAi (k n : Nat) (f : AnalogIn → AnalogIn) (s : State) : laneAt k (modAi n f s) = laneAt k s := rfl
@[simp] theorem arbiter_modAi (k n : Nat) (f : AnalogIn → AnalogIn) (s : State) : arbiter k (modAi n f s) = arbiter k s := rfl
@[simp] theorem lockAt_modAi (k n : Nat) (f : AnalogIn → AnalogIn) (s : State) : lockAt k (modAi n f s) = lockAt k s := rfl
@[simp] theorem analogOut_modAi (k n : Nat) (f : AnalogIn → AnalogIn) (s : State) : analogOut k (modAi n f s) = analogOut k s := rfl
@[simp] theorem safetyIn_modAi (k n : Nat) (f : AnalogIn → AnalogIn) (s : State) : safetyIn k (modAi n f s) = safetyIn k s := rfl
@[simp] theorem safetyOut_modAi (k n : Nat) (f : AnalogIn → AnalogIn) (s : State) : safetyOut k (modAi n f s) = safetyOut k s := rfl
@[simp] theorem storeAt_modAi (a n : Nat) (f : AnalogIn → AnalogIn) (s : State) : storeAt a (modAi n f s) = storeAt a s := rfl

/-! ### `analogOut` and `modAo` -/

@[simp] theorem modAo_ao (n : Nat) (f : AnalogOut → AnalogOut) (s : State) :
    (modAo n f s).localIo.ao = mapMod {} n f s.localIo.ao := rfl
theorem analogOut_modAo (n : Nat) (f : AnalogOut → AnalogOut) (s : State) (h : mapWf {} s.localIo.ao = true) :
    analogOut n (modAo n f s) = f (analogOut n s) := mapVal_mapPut _ _ _ _ h
theorem analogOut_modAo_listed (n : Nat) (f : AnalogOut → AnalogOut) (s : State) (h : f (analogOut n s) ≠ {}) :
    analogOut n (modAo n f s) = f (analogOut n s) := mapVal_mapPut_listed _ _ _ _ h
theorem analogOut_modAo_other (n k : Nat) (f : AnalogOut → AnalogOut) (s : State) (h : k ≠ n) : analogOut k (modAo n f s) = analogOut k s :=
  mapVal_mapPut_other _ _ _ _ _ h
theorem modAo_wf (n : Nat) (f : AnalogOut → AnalogOut) (s : State) (h : mapWf {} s.localIo.ao = true) :
    mapWf {} (modAo n f s).localIo.ao = true := mapWf_mapMod _ _ _ _ h
@[simp] theorem island_modAo (k n : Nat) (f : AnalogOut → AnalogOut) (s : State) : island k (modAo n f s) = island k s := rfl
@[simp] theorem crossing_modAo (k n : Nat) (f : AnalogOut → AnalogOut) (s : State) : crossing k (modAo n f s) = crossing k s := rfl
@[simp] theorem port_modAo (k n : Nat) (f : AnalogOut → AnalogOut) (s : State) : port k (modAo n f s) = port k s := rfl
@[simp] theorem channel_modAo (k n : Nat) (f : AnalogOut → AnalogOut) (s : State) : channel k (modAo n f s) = channel k s := rfl
@[simp] theorem station_modAo (k n : Nat) (f : AnalogOut → AnalogOut) (s : State) : station k (modAo n f s) = station k s := rfl
@[simp] theorem loom_modAo (k n : Nat) (f : AnalogOut → AnalogOut) (s : State) : loom k (modAo n f s) = loom k s := rfl
@[simp] theorem session_modAo (k n : Nat) (f : AnalogOut → AnalogOut) (s : State) : session k (modAo n f s) = session k s := rfl
@[simp] theorem laneAt_modAo (k n : Nat) (f : AnalogOut → AnalogOut) (s : State) : laneAt k (modAo n f s) = laneAt k s := rfl
@[simp] theorem arbiter_modAo (k n : Nat) (f : AnalogOut → AnalogOut) (s : State) : arbiter k (modAo n f s) = arbiter k s := rfl
@[simp] theorem lockAt_modAo (k n : Nat) (f : AnalogOut → AnalogOut) (s : State) : lockAt k (modAo n f s) = lockAt k s := rfl
@[simp] theorem analogIn_modAo (k n : Nat) (f : AnalogOut → AnalogOut) (s : State) : analogIn k (modAo n f s) = analogIn k s := rfl
@[simp] theorem safetyIn_modAo (k n : Nat) (f : AnalogOut → AnalogOut) (s : State) : safetyIn k (modAo n f s) = safetyIn k s := rfl
@[simp] theorem safetyOut_modAo (k n : Nat) (f : AnalogOut → AnalogOut) (s : State) : safetyOut k (modAo n f s) = safetyOut k s := rfl
@[simp] theorem storeAt_modAo (a n : Nat) (f : AnalogOut → AnalogOut) (s : State) : storeAt a (modAo n f s) = storeAt a s := rfl

/-! ### `safetyIn` and `modSdi` -/

@[simp] theorem modSdi_sdi (n : Nat) (f : SafetyIn → SafetyIn) (s : State) :
    (modSdi n f s).localIo.sdi = mapMod {} n f s.localIo.sdi := rfl
theorem safetyIn_modSdi (n : Nat) (f : SafetyIn → SafetyIn) (s : State) (h : mapWf {} s.localIo.sdi = true) :
    safetyIn n (modSdi n f s) = f (safetyIn n s) := mapVal_mapPut _ _ _ _ h
theorem safetyIn_modSdi_listed (n : Nat) (f : SafetyIn → SafetyIn) (s : State) (h : f (safetyIn n s) ≠ {}) :
    safetyIn n (modSdi n f s) = f (safetyIn n s) := mapVal_mapPut_listed _ _ _ _ h
theorem safetyIn_modSdi_other (n k : Nat) (f : SafetyIn → SafetyIn) (s : State) (h : k ≠ n) : safetyIn k (modSdi n f s) = safetyIn k s :=
  mapVal_mapPut_other _ _ _ _ _ h
theorem modSdi_wf (n : Nat) (f : SafetyIn → SafetyIn) (s : State) (h : mapWf {} s.localIo.sdi = true) :
    mapWf {} (modSdi n f s).localIo.sdi = true := mapWf_mapMod _ _ _ _ h
@[simp] theorem island_modSdi (k n : Nat) (f : SafetyIn → SafetyIn) (s : State) : island k (modSdi n f s) = island k s := rfl
@[simp] theorem crossing_modSdi (k n : Nat) (f : SafetyIn → SafetyIn) (s : State) : crossing k (modSdi n f s) = crossing k s := rfl
@[simp] theorem port_modSdi (k n : Nat) (f : SafetyIn → SafetyIn) (s : State) : port k (modSdi n f s) = port k s := rfl
@[simp] theorem channel_modSdi (k n : Nat) (f : SafetyIn → SafetyIn) (s : State) : channel k (modSdi n f s) = channel k s := rfl
@[simp] theorem station_modSdi (k n : Nat) (f : SafetyIn → SafetyIn) (s : State) : station k (modSdi n f s) = station k s := rfl
@[simp] theorem loom_modSdi (k n : Nat) (f : SafetyIn → SafetyIn) (s : State) : loom k (modSdi n f s) = loom k s := rfl
@[simp] theorem session_modSdi (k n : Nat) (f : SafetyIn → SafetyIn) (s : State) : session k (modSdi n f s) = session k s := rfl
@[simp] theorem laneAt_modSdi (k n : Nat) (f : SafetyIn → SafetyIn) (s : State) : laneAt k (modSdi n f s) = laneAt k s := rfl
@[simp] theorem arbiter_modSdi (k n : Nat) (f : SafetyIn → SafetyIn) (s : State) : arbiter k (modSdi n f s) = arbiter k s := rfl
@[simp] theorem lockAt_modSdi (k n : Nat) (f : SafetyIn → SafetyIn) (s : State) : lockAt k (modSdi n f s) = lockAt k s := rfl
@[simp] theorem analogIn_modSdi (k n : Nat) (f : SafetyIn → SafetyIn) (s : State) : analogIn k (modSdi n f s) = analogIn k s := rfl
@[simp] theorem analogOut_modSdi (k n : Nat) (f : SafetyIn → SafetyIn) (s : State) : analogOut k (modSdi n f s) = analogOut k s := rfl
@[simp] theorem safetyOut_modSdi (k n : Nat) (f : SafetyIn → SafetyIn) (s : State) : safetyOut k (modSdi n f s) = safetyOut k s := rfl
@[simp] theorem storeAt_modSdi (a n : Nat) (f : SafetyIn → SafetyIn) (s : State) : storeAt a (modSdi n f s) = storeAt a s := rfl

/-! ### `safetyOut` and `modSdo` -/

@[simp] theorem modSdo_sdo (n : Nat) (f : SafetyOut → SafetyOut) (s : State) :
    (modSdo n f s).localIo.sdo = mapMod {} n f s.localIo.sdo := rfl
theorem safetyOut_modSdo (n : Nat) (f : SafetyOut → SafetyOut) (s : State) (h : mapWf {} s.localIo.sdo = true) :
    safetyOut n (modSdo n f s) = f (safetyOut n s) := mapVal_mapPut _ _ _ _ h
theorem safetyOut_modSdo_listed (n : Nat) (f : SafetyOut → SafetyOut) (s : State) (h : f (safetyOut n s) ≠ {}) :
    safetyOut n (modSdo n f s) = f (safetyOut n s) := mapVal_mapPut_listed _ _ _ _ h
theorem safetyOut_modSdo_other (n k : Nat) (f : SafetyOut → SafetyOut) (s : State) (h : k ≠ n) : safetyOut k (modSdo n f s) = safetyOut k s :=
  mapVal_mapPut_other _ _ _ _ _ h
theorem modSdo_wf (n : Nat) (f : SafetyOut → SafetyOut) (s : State) (h : mapWf {} s.localIo.sdo = true) :
    mapWf {} (modSdo n f s).localIo.sdo = true := mapWf_mapMod _ _ _ _ h
@[simp] theorem island_modSdo (k n : Nat) (f : SafetyOut → SafetyOut) (s : State) : island k (modSdo n f s) = island k s := rfl
@[simp] theorem crossing_modSdo (k n : Nat) (f : SafetyOut → SafetyOut) (s : State) : crossing k (modSdo n f s) = crossing k s := rfl
@[simp] theorem port_modSdo (k n : Nat) (f : SafetyOut → SafetyOut) (s : State) : port k (modSdo n f s) = port k s := rfl
@[simp] theorem channel_modSdo (k n : Nat) (f : SafetyOut → SafetyOut) (s : State) : channel k (modSdo n f s) = channel k s := rfl
@[simp] theorem station_modSdo (k n : Nat) (f : SafetyOut → SafetyOut) (s : State) : station k (modSdo n f s) = station k s := rfl
@[simp] theorem loom_modSdo (k n : Nat) (f : SafetyOut → SafetyOut) (s : State) : loom k (modSdo n f s) = loom k s := rfl
@[simp] theorem session_modSdo (k n : Nat) (f : SafetyOut → SafetyOut) (s : State) : session k (modSdo n f s) = session k s := rfl
@[simp] theorem laneAt_modSdo (k n : Nat) (f : SafetyOut → SafetyOut) (s : State) : laneAt k (modSdo n f s) = laneAt k s := rfl
@[simp] theorem arbiter_modSdo (k n : Nat) (f : SafetyOut → SafetyOut) (s : State) : arbiter k (modSdo n f s) = arbiter k s := rfl
@[simp] theorem lockAt_modSdo (k n : Nat) (f : SafetyOut → SafetyOut) (s : State) : lockAt k (modSdo n f s) = lockAt k s := rfl
@[simp] theorem analogIn_modSdo (k n : Nat) (f : SafetyOut → SafetyOut) (s : State) : analogIn k (modSdo n f s) = analogIn k s := rfl
@[simp] theorem analogOut_modSdo (k n : Nat) (f : SafetyOut → SafetyOut) (s : State) : analogOut k (modSdo n f s) = analogOut k s := rfl
@[simp] theorem safetyIn_modSdo (k n : Nat) (f : SafetyOut → SafetyOut) (s : State) : safetyIn k (modSdo n f s) = safetyIn k s := rfl
@[simp] theorem storeAt_modSdo (a n : Nat) (f : SafetyOut → SafetyOut) (s : State) : storeAt a (modSdo n f s) = storeAt a s := rfl

/-! ### The two seam lanes, and the clock -/

/-- Frame of `modLane`. -/
@[simp] theorem modLane_solver (p : Nat) (f : Lane → Lane) (s : State) :
    (modLane p f s).solver = { s.solver with places := mapMod {} p f s.solver.places } := rfl
@[simp] theorem seamLane_modSeamLane (l : Fin 2) (f : SeamLane → SeamLane) (s : State) :
    seamLane l (modSeamLane l f s) = f (seamLane l s) := by
  unfold seamLane modSeamLane
  split <;> simp_all
@[simp] theorem seamLane_modSeamLane_other (l k : Fin 2) (f : SeamLane → SeamLane) (s : State) (h : k ≠ l) :
    seamLane k (modSeamLane l f s) = seamLane k s := by
  unfold seamLane modSeamLane
  have := l.isLt
  have := k.isLt
  split <;> split <;> simp_all <;> omega
@[simp] theorem ring_modRing (r : Bool) (f : Ring → Ring) (s : State) : ring r (modRing r f s) = f (ring r s) := by
  cases r <;> rfl
@[simp] theorem ring_modRing_other (r : Bool) (f : Ring → Ring) (s : State) : ring (!r) (modRing r f s) = ring (!r) s := by
  cases r <;> rfl
@[simp] theorem atTime_now (t : Nat) (s : State) : (atTime t s).network.time.now = max s.network.time.now t := rfl
@[simp] theorem drawNat_free (s : State) : (drawNat s).2.free = s.free + 1 := rfl

end Sys2Proof.Machine
end

