-- ==== Sys2Proof/Laws/Lanes.lean ====
section
/-!
SUPPORT. Laws of the lanes: two updates of one lane, what an instruction on the lane's own registers does, and saturation in
the terms of Safety.lean (R90, R129–R131).
-/
namespace Sys2Proof.Machine
open Sys2Proof.Safety

/-- Two updates of a lane that keeps a partition are one. -/
theorem modLane_modLane (p : Nat) (f g : Lane → Lane) (s : State) (h : (f (laneAt p s)).running.isSome = true)
    (h2 : (g (f (laneAt p s))).running.isSome = true) : modLane p g (modLane p f s) = withLane p (g (f (laneAt p s))) s := by
  have h' : f (laneAt p s) ≠ {} := by
    intro hh
    rw [hh] at h
    simp at h
  have h2' : g (f (laneAt p s)) ≠ {} := by
    intro hh
    rw [hh] at h2
    simp at h2
  simp only [modLane, withLane, mapMod, laneAt] at *
  rw [mapVal_mapPut_listed _ _ _ _ h', mapPut_mapPut_listed _ _ _ _ _ h' h2']

/-- A line without a symbol in error is read as it stands (R245). -/
theorem decodeLine_intact (k line : Nat) (s : State) (h : upsetOf k line s = 0) : decodeLine k line s = s := by
  simp [decodeLine, h]

/-- Lines without a symbol in error are read as they stand (R245). -/
theorem decodeLines_intact (k : Nat) (s : State) :
    ∀ lines : List Nat, (∀ n ∈ lines, upsetOf k n s = 0) → decodeLines k lines s = s
  | [], _ => rfl
  | n :: l, h => by
    have ih := decodeLines_intact k s l fun m hm => h m (List.mem_cons_of_mem _ hm)
    simp only [decodeLines, List.foldl_cons, decodeLine_intact k n s (h n List.mem_cons_self)] at *
    exact ih

/-- An instruction whose lines are intact has its effect alone. -/
theorem runReading_intact (p : Place) (reads : Lane → List Word) (f : Lane → State → State) (s : State) (h : laneRuns p.val s = true)
    (hl : linesIntact p.val ((reads (laneAt p.val s)).map BitVec.toNat) s) :
    runReading p reads f s = .next (f (laneAt p.val s) s) := by
  have hd : decodeLines 0 ((reads (laneAt p.val s)).map fun a => a.toNat / 8) s = s := by
    apply decodeLines_intact
    intro n hn
    obtain ⟨a, ha, rfl⟩ := List.mem_map.1 hn
    exact hl.2 _ (List.mem_map_of_mem ha)
  simp only [runReading, h, if_true, decodeLine_intact _ _ _ hl.1, hd]
  cases hm : s.modes.mode <;> simp

/-- An instruction that reads no word and whose program line is intact has its effect alone. -/
theorem runAt_intact (p : Place) (f : Lane → State → State) (s : State) (h : laneRuns p.val s = true) (hl : linesIntact p.val [] s) :
    runAt p f s = .next (f (laneAt p.val s) s) := runReading_intact p _ f s h hl

/-- An instruction on the lane's own registers, read from an intact line, touches nothing but its lane. -/
theorem runRegs_lane (p : Place) (cost : Nat) (f : Lane → Lane) (s : State) (l : Lane) (h : laneRuns p.val s = true)
    (hi : linesIntact p.val [] s) (hl : laneAt p.val s = l) (hf : (f l).running = l.running) :
    runRegs p cost f s = .next (withLane p.val (spent cost (f l)) s) := by
  subst hl
  have h1 : (laneAt p.val s).running.isSome = true := by
    simp [laneRuns] at h
    exact h.2
  rw [runRegs, runAt_intact p _ s h hi]
  simp only [advance]
  rw [modLane_modLane _ _ _ _ (by rw [hf]; exact h1) (by simp [hf, h1])]
  rfl

/-- A result brought into its format (Table 4-2) is the nearer bound, and SAT tells that it lay outside. -/
theorem narrow_clamped (u : Bool) (v : Int) :
    narrow u v = (BitVec.ofInt 20 (clamped u v), decide (v < lowest u ∨ highest u < v)) := by
  have hm : formatMax u = highest u := rfl
  have hn : formatMin u = lowest u := rfl
  have hle : lowest u ≤ highest u := by cases u <;> decide
  simp only [narrow, clamped, hm, hn]
  split
  · rw [Int.min_eq_left (by omega), Int.max_eq_right hle]
    simp
    omega
  · split
    · rw [Int.min_eq_right (by omega), Int.max_eq_left (by omega)]
      simp
      omega
    · rw [Int.min_eq_right (by omega), Int.max_eq_right (by omega)]
      simp
      omega

/-- A lane after an arithmetic result. -/
theorem takeResult_narrow (u : Bool) (v : Int) (l : Lane) : takeResult (narrow u v) l = resulting u v l := by
  simp [takeResult, narrow_clamped, resulting]

end Sys2Proof.Machine
end

