-- ==== Sys2Proof/Laws/Memory.lean ====
section
/-!
SUPPORT. Laws of the memories behind the hub: a write keeps the canonical form, gives back what it stored and leaves every other
byte; a read is the bytes of its range.
-/
namespace Sys2Proof.Machine

/-- Bytes put one after another from an address on. -/
theorem foldl_put_wf (l : List (Nat × Byte)) (m : List Host.Cell) (h : Memory.wf m = true) :
    Memory.wf (l.foldl (fun m p => mapPut 0 p.1 p.2 m) m) = true := by
  unfold Memory.wf at *
  induction l generalizing m with
  | nil => exact h
  | cons p l ih => exact ih _ (mapWf_mapPut _ _ _ _ h)

/-- A write keeps the canonical form. -/
theorem writeCells_wf (a : Nat) (data : List Byte) (m : List Host.Cell) (h : Memory.wf m = true) :
    Memory.wf (writeCells a data m) = true := foldl_put_wf _ _ h

/-- An erasure keeps the canonical form. -/
theorem filter_wf (q : Host.Cell → Bool) (m : List Host.Cell) (h : Memory.wf m = true) : Memory.wf (m.filter q) = true :=
  mapWf_filter _ _ _ h

/-- Puts elsewhere leave a byte. -/
theorem foldl_put_other (l : List (Nat × Byte)) (m : List Host.Cell) (i : Nat) (h : ∀ p ∈ l, i ≠ p.1) :
    mapVal 0 i (l.foldl (fun m p => mapPut 0 p.1 p.2 m) m) = mapVal 0 i m := by
  induction l generalizing m with
  | nil => rfl
  | cons p l ih =>
    have h1 : i ≠ p.1 := h p (by simp)
    have h2 := ih (mapPut 0 p.1 p.2 m) (fun q hq => h q (by simp [hq]))
    simp only [List.foldl_cons]
    rw [h2, mapVal_mapPut_other _ _ _ _ _ h1]

/-- A write leaves every byte outside its range. -/
theorem writeCells_other (a : Nat) (data : List Byte) (m : List Host.Cell) (i : Nat) (h : i < a ∨ a + data.length ≤ i) :
    mapVal 0 i (writeCells a data m) = mapVal 0 i m := by
  refine foldl_put_other _ _ _ fun p hp => ?_
  have h1 := (List.of_mem_zip hp).1
  simp [rangeFrom] at h1
  omega

/-- The memories of the module at reset have the canonical form. -/
theorem reset_memories_wf : Memory.wf State.reset.hub.dram = true ∧ Memory.wf State.reset.hub.sram = true ∧
    Memory.wf State.reset.hub.mram = true ∧ Memory.wf State.reset.hub.flash = true ∧
    mapWf 0 State.reset.solver.store = true := by decide

/-- An erased MRAM range keeps the canonical form. -/
theorem eraseMram_wf (lo hi : Nat) (s : State) (h : Memory.wf s.hub.mram = true) : Memory.wf (eraseMram lo hi s).hub.mram = true :=
  filter_wf _ _ h

end Sys2Proof.Machine
end

