-- ==== Sys2Proof/Laws/Modes.lean ====
section
/-!
SUPPORT. Laws of mode changes, of the entry into FAULT and of alarms: what each shared operation does (R67, R72, R74, R80, R240,
R253).
-/
namespace Sys2Proof.Machine

/-- A mode transition: the new mode, its cause, the mode before and the instant; the rest of the sequencer stays. -/
@[simp] theorem setMode_modes (m : Mode) (c : Nat) (s : State) :
    (setMode m c s).modes.mode = m ∧ (setMode m c s).modes.transCause = c ∧ (setMode m c s).modes.previous = s.modes.mode ∧
    (setMode m c s).modes.enteredAt = s.network.time.now ∧ (setMode m c s).modes.cause = s.modes.cause ∧
    (setMode m c s).modes.kickstandInForce = s.modes.kickstandInForce ∧ (setMode m c s).modes.released = s.modes.released ∧
    (setMode m c s).modes.searchResult = s.modes.searchResult ∧ (setMode m c s).modes.restart = s.modes.restart ∧
    (setMode m c s).modes.checksPassed = s.modes.checksPassed ∧ (setMode m c s).modes.linkWaited = s.modes.linkWaited ∧
    (setMode m c s).modes.cold = s.modes.cold ∧ (setMode m c s).modes.stopAtEndOfLoad = s.modes.stopAtEndOfLoad := by
  have h (u : State) : (reachMode m u).modes.mode = u.modes.mode ∧ (reachMode m u).modes.transCause = u.modes.transCause ∧
      (reachMode m u).modes.previous = u.modes.previous ∧ (reachMode m u).modes.cause = u.modes.cause ∧
      (reachMode m u).modes.enteredAt = u.modes.enteredAt ∧
      (reachMode m u).modes.kickstandInForce = u.modes.kickstandInForce ∧
      (reachMode m u).modes.released = u.modes.released ∧ (reachMode m u).modes.searchResult = u.modes.searchResult ∧
      (reachMode m u).modes.restart = u.modes.restart ∧ (reachMode m u).modes.checksPassed = u.modes.checksPassed ∧
      (reachMode m u).modes.linkWaited = u.modes.linkWaited ∧ (reachMode m u).modes.cold = u.modes.cold ∧
      (reachMode m u).modes.stopAtEndOfLoad = u.modes.stopAtEndOfLoad := by
    unfold reachMode
    dsimp only
    (repeat' split) <;> simp
  unfold setMode
  dsimp only
  (repeat' split) <;> simp [h]

/-- In OFF there is no FAULT entry. -/
theorem enterFault_off (c d : Nat) (s : State) (h : s.modes.mode = .off) : enterFault c d s = s := by simp [enterFault, h]

/-- Elsewhere the module is in FAULT afterwards. -/
theorem enterFault_fault (c d : Nat) (s : State) (h : s.modes.mode ≠ .off) : (enterFault c d s).modes.mode = .fault := by
  unfold enterFault
  split
  · contradiction
  · simp; assumption
  · dsimp only
    split <;> simp

/-- The first FAULT entry: mode, cause, detail and cycle latched, the safe-state latch set, the solver stopped, the local outputs
under the supervisor, the flush begun. -/
theorem enterFault_first (c d : Nat) (s : State) (h : s.modes.mode ≠ .off) (h2 : s.modes.mode ≠ .fault) :
    (enterFault c d s).modes.mode = .fault ∧ (enterFault c d s).modes.cause = c ∧ (enterFault c d s).diag.detail = d ∧
    (enterFault c d s).diag.latch = true ∧ (enterFault c d s).diag.cycle = s.cycle.counter ∧
    (enterFault c d s).cycle.phase = .idle ∧ (enterFault c d s).modes.transCause = c ∧
    (enterFault c d s).localIo.underProgram = false ∧ (enterFault c d s).modes.previous = s.modes.mode ∧
    (enterFault c d s).solver.places = [] ∧ (enterFault c d s).quilt.flushing = true := by
  unfold enterFault
  split
  · contradiction
  · contradiction
  · dsimp only
    split <;> simp [latchCause, localSafe, stopSolver, startFlush] <;> split <;> simp_all

/-- The alarms after one is raised. -/
@[simp] theorem raiseAlarm_alarms (a : Alarm) (n : Nat) (s : State) :
    (raiseAlarm a n s).alarms = if (a, n) ∈ s.alarms then s.alarms else s.alarms ++ [(a, n)] := by
  unfold raiseAlarm
  split <;> simp_all [recordWith]

/-- The alarms after one is cleared. -/
@[simp] theorem clearAlarm_alarms (a : Alarm) (n : Nat) (s : State) :
    (clearAlarm a n s).alarms = s.alarms.filter (· ≠ (a, n)) := by
  unfold clearAlarm
  split
  · simp_all [recordWith]
  · rename_i h
    refine (List.filter_eq_self.2 ?_).symm
    intro x hx
    simp
    rintro rfl
    exact h hx

end Sys2Proof.Machine
end

