-- ==== Sys2Proof/Tests/Slice0.lean ====
section
/-!
SUPPORT. Own tests: ill-formed commands that the checks of WellFormed.lean refuse, single steps on small states with results
worked out from the manual, and for every statement states that meet the premises of each of its clauses.
-/
set_option maxRecDepth 100000
namespace Sys2Proof.Tests
open Sys2Proof.Machine Sys2Proof.Safety

/-- A module in a mode. -/
def inMode (m : Mode) : State := { State.reset with modes.mode := m }

/-- A module whose island 2 runs. -/
def up (n : Nat) (s : State) : State := modIsland n (fun i => { i with state := 1 }) s

/-- A crossing is open. -/
def opened (n : Nat) (s : State) : State := modCrossing n (fun x => { x with state := 2 }) s

/-- A request of session 3 that came over FS. -/
def request3 : NspReq :=
  { carrier := .fs, frameLength := 32, version := 1, flags := 0, session := 3, seq := 1, length := 0, index := 0, sub := 0
    status := 0, offset := 0, total := 0, reserved := 0, body := [], cmacOk := true }

/-! ### Premises of the statements: queue, start, supply, front -/

/-- StepRunsTheFrontCommand: a command waits; none waits; a hub access and a held request may start. -/
theorem premises_StepRunsTheFrontCommand :
    ({ State.reset with pending := [.start] } : State).pending = .start :: [] ∧ State.reset.pending = [] ∧
      heldReady State.reset = false ∧ State.reset.hub.waiting = [] ∧ slotOwned { State.reset with cycle.phase := .xch } = true ∧
      (let s : State := { State.reset with hub.waiting := [({ master := 0x58, write := false, address := 0, size := 1, data := [] }, 0)] };
        s.pending = [] ∧ slotOwned s = false ∧ s.hub.waiting ≠ []) ∧
      heldReady (modSession 3 (fun x => { x with held := [(opKeepalive, request3)] }) State.reset) = true := by decide

/-- CommandsStayInTheirParts, EveryCommandAnswersANextState: a command that answers. -/
theorem premises_CommandsStayInTheirParts :
    (∃ t, exec .lampTestEnd State.reset = .next t) ∧ Part.hub ∉ mayChange .lampTestEnd := ⟨⟨_, rfl⟩, by decide⟩

/-- StepsKeepCanonicalForm, LatchStaysSetInFault: states that meet the premises, with a step. -/
theorem premises_invariants :
    canonical State.reset ∧ (∃ t, step State.reset = .next t) ∧
      ({ inMode .fault with diag.latch := true } : State).diag.latch = true ∧ (inMode .fault).modes.mode = .fault :=
  ⟨⟨rfl, rfl, rfl, rfl, rfl, rfl, rfl, rfl, rfl, rfl, rfl, rfl, rfl, rfl⟩, ⟨_, rfl⟩, rfl, rfl⟩

/-- FaultIsLeftByRestartOnly: a restart leaves FAULT. -/
theorem premises_FaultIsLeftByRestartOnly :
    ∃ t, exec (.restartReset true 5) { inMode .fault with modes.restartPending := true } = .next t ∧
      t.modes.mode ≠ .fault := ⟨_, rfl, by decide⟩

/-- MinimumSecurityNeverFalls: a module in trial that may be confirmed. -/
theorem premises_MinimumSecurityNeverFalls :
    ({ inMode .solo with firmware.trial := true } : State).firmware.trial = true ∧ (inMode .solo).modes.mode = .solo := by decide

/-- StartFromPowerGood. -/
theorem premises_StartFromPowerGood :
    (let s : State := { State.reset with front.converters := true };
      s.modes.mode = .off ∧ s.front.converters = true) ∧
    ((inMode .kickstand).modes.mode = .kickstand ∧ (inMode .kickstand).modes.restartPending = false) ∧
    ((inMode .selftest).modes.mode = .selftest ∧ (inMode .selftest).modes.released < 6) ∧
    (let s : State := { inMode .selftest with modes.released := 7, front.slotValid := true };
      s.modes.mode = .selftest ∧ checkNeeds .slot ≤ s.modes.released ∧ s.modes.checksPassed = [] ∧
        (SelfCheck.slot = .slot → s.front.slotValid = true)) := by decide

/-- LoadAndPartnerSearch. -/
theorem premises_LoadAndPartnerSearch :
    (let s := { inMode .load with nsp.stored0.intact := false, nsp.stored1.intact := false };
      s.modes.mode = .load ∧ s.modes.loadStepsDone = false ∧ s.modes.linkWaited = false ∧ configValid s = false) ∧
    (let s : State := { inMode .load with
        nsp.stored0.values.nums := [(ekey 0x3001 0x01 0 0, 7)]
        protection.keys := [(ekey 0x3001 0x02 0 0, [1])] };
      configValid s = true ∧ s.change.slot0 = none ∧ s.change.slot1 = none ∧ s.modes.loadStepsDone = false ∧
        s.modes.linkWaited = false) ∧
    ((inMode .selftest).modes.mode = .selftest ∧ (inMode .selftest).modes.linkWaited = false) ∧
    (let s : State := { inMode .load with modes.loadStepsDone := true, modes.linkWaited := true, supply.charged := true };
      s.modes.search.running = false ∧ searchReady s = true ∧ s.modes.stopAtEndOfLoad = false) ∧
    (let s : State := { inMode .load with modes.loadStepsDone := true, modes.linkWaited := true, modes.stopAtEndOfLoad := true, supply.charged := true };
      s.modes.search.running = false ∧ searchReady s = true ∧ s.modes.stopAtEndOfLoad = true) ∧
    (let s : State := { inMode .load with modes.search.running := true, nsp.settings.nums := [(ekey 0x2003 0x01 0 0, 1)] };
      s.modes.search.running = true ∧ s.modes.search.byStart = false ∧ s.modes.search.heard = [] ∧
        setStartBehaviour s.nsp.settings = 1) ∧
    (let s : State := { inMode .load with
        modes.search.running := true
        modes.search.heard := [(.network, 5)]
        supply.charged := true };
      s.modes.search.heard = [(.network, 5)] ∧ s.supply.charged = true ∧ 5 ≤ 5 ∧ 5 ≤ 8) := by decide

/-- SupplyAndHoldUpBank. -/
theorem premises_SupplyAndHoldUpBank :
    (let s := State.reset;
      s.modes.mode = .off ∧ s.supply.rideThrough = false ∧ s.supply.powerFail = false ∧ (62000 : Int) < 62001) ∧
    (let s : State := { inMode .solo with supply.charged := true, supply.a := { state := 1, lowSamples := 1 } };
      s.modes.mode ≠ .off ∧ s.supply.rideThrough = false ∧ s.supply.powerFail = false ∧ s.supply.charged = true ∧
        s.supply.a.state = 1 ∧ s.supply.a.lowSamples = 1 ∧ s.supply.b.state ≠ 1 ∧ (8499 : Int) < 8500) ∧
    ({ State.reset with supply.a.qualifying := true } : State).supply.a.qualifying = true ∧
    ({ State.reset with supply.b.qualifying := true } : State).supply.b.qualifying = true ∧
    (let s : State := { inMode .solo with supply.rideThrough := true };
      s.supply.rideThrough = true ∧ s.modes.mode ≠ .off ∧ s.modes.mode ≠ .fault) ∧
    (46000 ≤ 46000 ∧ 45999 < 46000 ∧ (inMode .solo).modes.mode ≠ .off) ∧
    ((inMode .fault).modes.mode ≠ .off ∧ inputGood (inMode .fault) = false) ∧
    (let s : State := { inMode .fault with supply.powerFail := true, supply.a.state := 1 };
      s.supply.powerFail = true ∧ s.quilt.flushing = false ∧ inputGood s = true) := by decide

/-- HotSwapAndLevers. -/
theorem premises_HotSwapAndLevers :
    (let s : State := { inMode .solo with front.mated := true };
      s.modes.mode ≠ .off ∧ s.modes.mode ≠ .fault ∧ s.front.mated = true ∧ s.front.extraction ≠ .ready ∧
        s.supply.powerFail = false) ∧
    (let s := inMode .stop;
      s.front.leverOpen = false ∧ s.firmware.pairState = 0 ∧ s.modes.mode = .stop) ∧
    setExtractionWithoutPartner (inMode .solo).nsp.settings = 0 ∧
    (let s : State := { inMode .solo with nsp.settings.nums := [(ekey 0xA022 0x03 0 0, 1)] };
      setExtractionWithoutPartner s.nsp.settings ≠ 0 ∧ s.modes.mode = .solo) ∧
    (let s : State := { inMode .active with pair.partner.mode := some 4, pair.partner.sync := true };
      s.modes.mode = .active ∧ s.pair.partner.mode = some 4 ∧ s.pair.partner.sync = true) ∧
    (let s : State := { inMode .stop with front.extraction := .preparing };
      s.front.extraction = .preparing ∧ solving s.modes.mode = false ∧ s.front.extractionWaiting = false ∧
        s.modes.mode ≠ .off ∧ s.quilt.queue = [] ∧ s.quilt.lostDue = 0) := by decide

/-! ### Premises: front panel, local channels -/

/-- FrontPanelAndTrim. -/
theorem premises_FrontPanelAndTrim :
    nspUp (inMode .solo) = true ∧
    (let s := inMode .solo;
      s.modes.mode ≠ .off ∧ s.front.coverOpen = false) ∧
    (let s : State := { inMode .solo with front.coverOpen := true, front.plusHeld := true, localIo.target := 8 };
      s.modes.mode ≠ .off ∧ s.front.coverOpen = true ∧ s.front.plusBlocked = false ∧ s.front.minusBlocked = false ∧
        1 ≤ s.localIo.target ∧ s.localIo.target ≤ 8 ∧ 0 ≤ mapVal 0 s.localIo.target s.localIo.zero ∧
        mapVal 0 s.localIo.target s.localIo.zero ≤ 0 ∧ s.front.plusHeld = true) ∧
    (1 ≤ (0x20 : BitVec 8).toNat ∧ (0x20 : BitVec 8).toNat ≤ 0x20 ∧ (inMode .solo).localIo.target = 0) ∧
    (let s : State := { inMode .solo with localIo.target := 8, localIo.ai := [(8, { samples := [159990] })] };
      160000 - meanOf ((analogIn s.localIo.target s).samples.map Int.ofNat) = 10) ∧
    ((8000 : Int) ≠ 0 ∧ (-8000 : Int) ≤ 8000 ∧ (8000 : Int) ≤ 8000) := by decide

/-- LocalAnalogueChannels. -/
theorem premises_LocalAnalogueChannels :
    islandUp 8 (up 8 State.reset) = true ∧
    (let s : State := { up 8 State.reset with
        localIo.ai := [(8, { failLow := true, current := 143999 })]
        nsp.inForce.nums := [(ekey 0x9010 0x04 8 0, 1)] };
      islandUp 8 s = true ∧ (analogIn 8 s).failLow = true ∧ (analogIn 8 s).failed = false ∧ (analogIn 8 s).current < 144000) ∧
    (let s : State := { up 8 State.reset with localIo.ao := [(1, { applied := 144000, readback := 139999 })] };
      (analogOut 1 s).shortfall = false ∧ Int.ofNat (analogOut 1 s).readback + 4000 < (analogOut 1 s).applied) ∧
    (let s : State := { up 8 State.reset with
        localIo.ao := [(1, { applied := 144000, readback := 140000, shortfall := true, shortfalls := 1 })] };
      (analogOut 1 s).shortfall = true ∧ (analogOut 1 s).shortfalls ≠ 0 ∧
        (Int.ofNat (analogOut 1 s).readback - (analogOut 1 s).applied).natAbs ≤ 4000) ∧
    (let s : State := { up 8 State.reset with localIo.underProgram := true, localIo.posted := [(0x0F047, 5)] };
      s.localIo.underProgram = true ∧ s.localIo.posted = [(0x0F040 + 7, 5)]) ∧
    solving (up 8 (inMode .solo)).modes.mode = true := by decide

/-- LocalSafetyChannels. -/
theorem premises_LocalSafetyChannels :
    islandUp 8 (up 8 State.reset) = true ∧ (0x80 : BitVec 8).getLsbD 7 = true ∧
    (let s : State := { up 8 State.reset with localIo.sdi := [(8, { filtering := true, level := true })] };
      (safetyIn 8 s).filtering = true ∧ (safetyIn 8 s).fault = 0 ∧ (safetyIn 8 s).level = true) ∧
    (let s : State := { up 8 State.reset with localIo.discrepant := [3] };
      3 ∈ s.localIo.discrepant) ∧
    (let s : State := { up 8 State.reset with localIo.sdi := [(1, { causeAbsent := true, fault := 3 })] };
      (safetyIn 1 s).causeAbsent = true ∧ (safetyIn 1 s).fault = 3) ∧
    (let s : State := { up 8 State.reset with localIo.sdo := [(1, { applied := true }), (4, { fault := 2 })] };
      s.localIo.supplyLow = false ∧ (safetyOut 1 s).applied = true ∧ (safetyOut 4 s).fault = 2) ∧
    (let s : State := { up 8 (inMode .solo) with
        localIo.sdo := [(1, { applied := true })]
        nsp.inForce.nums := [(ekey 0x9050 0x02 1 0, 1)] };
      cfgDarkTest s.nsp.inForce 1 = true ∧ (safetyOut 1 s).applied = true ∧ s.modes.mode ≠ .off ∧ s.modes.mode ≠ .fault) ∧
    (let s : State := { up 8 State.reset with
        localIo.underProgram := true
        diag.latch := false
        localIo.posted := [(0x0F050, 8)] };
      s.localIo.underProgram = true ∧ s.diag.latch = false ∧ s.localIo.posted = [(0x0F050, 8)] ∧
        (8 : Word).getLsbD 3 = true ∧ (safetyOut 4 s).fault = 0) := by decide

/-! ### Premises: modes and cycle -/

/-- ModeCommands. -/
theorem premises_ModeCommands :
    (let s : State := { inMode .stop with modes.transCause := 0x000B };
      s.modes.transCause = 0x000B ∧ s.protection.unlocked = false ∧ s.modes.restartPending = false ∧
        s.modes.search.running = false) ∧
    (inMode .solo).modes.mode ≠ .stop ∧ (inMode .solo).firmware.pairState = 0 ∧ Trigger.stop ∉ (inMode .solo).modes.triggers ∧
    (let s : State := { inMode .active with pair.partner.mode := some 4, pair.partner.sync := true };
      s.pair.partner.mode = some 4 ∧ s.pair.partner.sync = true ∧ Trigger.handover .command ∉ s.modes.triggers) ∧
    (inMode .active).pair.partner.sync = false ∧
    ((inMode .provision).supply.powerFail = false ∧ (inMode .provision).modes.restartPending = false) ∧
    (let s : State := { inMode .fault with
        modes.autoRestartArmed := true
        nsp.settings.nums := [(ekey 0x2003 0x03 0 0, 1)] };
      s.modes.autoRestartArmed = true ∧ s.modes.restartPending = false ∧ s.modes.autoRestarts = [] ∧
        0 < setAutoRestartLimit s.nsp.settings) ∧
    (let s : State := { inMode .stop with modes.restartPending := true };
      s.modes.restartPending = true ∧ s.modes.mode ≠ .off ∧ s.supply.powerFail = false) := by decide

/-- An image with two plans, tandem 0 joined in both, and a partition of class C on it. -/
def image2 : Image :=
  { identity := 9, isaRev := 3, costRev := 3, code := [], partitions := [], functions := [], plans := [[.joined], [.joined]]
    constants := [], stateMap := [] }

/-- A solo module in a phase of its cycle, with that image. -/
def inPhase (p : Phase) : State := { inMode .solo with cycle.phase := p, solver.bank0 := some image2 }

/-- A lane runs partition 5 at a place, within its window of two words at 0x90000. -/
def running (p : Nat) (l : Lane) : State :=
  { inPhase .solve with
    solver.places := [(p, { l with running := some 5 })]
    cycle.admitted0 := { paths := [(5, 100)], plans := [{ windows := [(p, [(0x50000, 0x50003), (0x70000, 0x70001), (0x80000, 0x90001)])] }] } }

/-- CycleRunsAndFails. -/
theorem premises_CycleRunsAndFails :
    (solving (inPhase .waiting).modes.mode = true ∧ (inPhase .waiting).cycle.phase = .waiting ∧
      (inPhase .waiting).cycle.startAt + 1000 * cfgMinimumCycle (inPhase .waiting).nsp.inForce ≤
        max (inPhase .waiting).network.time.now 0) ∧
    (let s : State := { inPhase .waiting with nsp.inForce.nums := [(ekey 0x2030 5 0 0, 2)] };
      max s.network.time.now 1999 < s.cycle.startAt + 1000 * cfgMinimumCycle s.nsp.inForce ∧
        s.cycle.startAt + 1000 * cfgMinimumCycle s.nsp.inForce ≤ max s.network.time.now 2000) ∧
    ((inPhase .xch).cycle.phase = .xch ∧ (inPhase .xch).hub.waiting = []) ∧
    ((inPhase .solve).cycle.phase = .solve ∧ ∀ p ∈ (inPhase .solve).solver.places, p.2.running = none) ∧
    (let s : State := { inPhase .output with modes.solvedSinceStart := true };
      s.modes.solvedSinceStart = true ∧ s.cycle.released = false ∧ s.diag.disagreed = false ∧ s.diag.streams = [] ∧
        s.pair.boundaryDue = false) ∧
    (let s : State := { inPhase .output with cycle.outputQueued := true };
      s.cycle.phase = .output ∧ s.cycle.outputQueued = true ∧ s.pair.weftOpen = false ∧ s.modes.triggers = [] ∧
        s.solver.rejoinTests = [] ∧ max s.network.time.now (cycleLimit s) ≤ cycleLimit s ∧
        cycleLimit s < max s.network.time.now (cycleLimit s + 1)) ∧
    (let s : State := { inPhase .output with cycle.outputQueued := true, modes.mode := .handover };
      s.cycle.phase = .output ∧ s.cycle.outputQueued = true ∧ s.pair.weftOpen = false ∧ s.solver.rejoinTests = [] ∧
        max s.network.time.now (cycleLimit s) ≤ cycleLimit s) ∧
    (let s := running 0 { window := 1024, path := 100 };
      laneRuns 0 s = true ∧ linesIntact 0 [] s ∧ streamFree 0 s ∧ s.modes.mode ≠ .off ∧ s.modes.mode ≠ .fault ∧
        planStateOf 0 s = .joined ∧ (laneAt 0 s).path ≤ mapVal 0 ((laneAt 0 s).running.getD 0) (admitted s).paths ∧ 1024 ≤ (laneAt 0 s).window ∧
        (laneAt 0 s).sigLead = (laneAt 0 s).sigTrail) ∧
    (let s := running 0 { path := 101 };
      mapVal 0 ((laneAt 0 s).running.getD 0) (admitted s).paths < (laneAt 0 s).path) ∧
    (let s := running 16 { path := 101 };
      laneRuns 16 s = true ∧ linesIntact 16 [] s ∧ mapVal 0 ((laneAt 16 s).running.getD 0) (admitted s).paths < (laneAt 16 s).path) ∧
    (let q : Snapshot := { lead := 1, trail := 2 };
      q.lead ≠ q.trail ∧ mapVal [] 3 ([(3, [q])] : SMap (List Snapshot)) = q :: [] ∧
        mapVal [] 3 (inPhase .solve).diag.verdicts = []) := by decide

/-- CycleRunsAndFails: no session holds a request. -/
theorem premises_CycleRunsAndFails_held (n : Nat) : (session n (inPhase .xch)).held = [] := rfl

/-- PlanRequests. -/
theorem premises_PlanRequests :
    activeImage (inPhase .solve) = some image2 ∧ (inPhase .solve).modes.triggers = [] ∧ (inPhase .solve).solver.failedLanes = 0 ∧
      image2.plans.length ≤ (2 : BitVec 8).toNat ∧
      ((0 : BitVec 8).toNat < image2.plans.length ∧ (0 : BitVec 8).toNat = (inPhase .solve).solver.plan) ∧
      ((1 : BitVec 8).toNat < image2.plans.length ∧ (1 : BitVec 8).toNat ≠ (inPhase .solve).solver.plan) ∧
      (let s : State := { inPhase .solve with solver.rejoinTests := [2, 3] };
        (2 : Fin 16) ∈ s.solver.rejoinTests ∧ streamFree 2 s ∧ s.solver.rejoinTests.erase 2 ≠ []) ∧
      (let s : State := { inPhase .output with solver.rejoinTests := [2], cycle.outputQueued := true };
        streamFree 2 s ∧ s.solver.rejoinTests = [2] ∧ s.cycle.outputQueued = true) := by decide

/-! ### Premises: instructions -/

/-- RegisterInstructions, ArithmeticSaturates: a lane that runs, with a divisor and without. -/
theorem premises_ArithmeticSaturates :
    laneRuns 0 (running 0 { wb := 3 }) = true ∧ linesIntact 0 [] (running 0 { wb := 3 }) ∧ wordVal false (laneAt 0 (running 0 { wb := 3 })).wb ≠ 0 ∧
      wordVal true (laneAt 0 (running 0 {})).wb = 0 := by decide

/-- RegisterInstructions: the scale and the quality test. -/
theorem premises_RegisterInstructions :
    (let s : State := { running 0 {} with solver.store := [(0x90001, 100)] };
      laneRuns 0 s = true ∧ linesIntact 0 ((List.range 4).map fun k => ((0x90000 : Word) + BitVec.ofNat 20 k).toNat) s ∧
        wordVal false (readWord 0 0x90000 s) ≠ wordVal false (readWord 0 (0x90000 + 1) s)) ∧
    ((let o : WordOperand := { word := 0x90000 }; o.stride) = none) ∧
    linesIntact 16 [(BitVec.ofNat 20 (qualityWord (pointAt 0x00010 0)) : Word).toNat] (running 16 {}) ∧
    qualityOf (pointAt 0x00010 0) (readWord 16 (BitVec.ofNat 20 (qualityWord (pointAt 0x00010 0))) (running 16 {})) = 0 := by
  decide

/-- LoadsAndBitLogic: a word that is shared and already written, inside and outside the window; a line past correction. -/
theorem premises_LoadsAndBitLogic :
    (let s : State := { running 0 {} with solver.before := [(0x90000, some 4), (0xA0000, some 5)] };
      laneRuns 0 s = true ∧ linesIntact 0 [0x90000, 0xA0000] s ∧ mapVal none 0x90000 s.solver.before = some 4 ∧
        inWindow 0 0x90000 s = true ∧
        mapVal none 0xA0000 s.solver.before = some 5 ∧ inWindow 0 0xA0000 s = false ∧
        mapVal none 0x90001 s.solver.before = none) ∧
    (let s : State := { running 0 {} with diag.upsets := [(0x90000 / 8, 3)] };
      laneRuns 0 s = true ∧ linesIntact 0 [] s ∧ s.modes.mode ≠ .off ∧ s.modes.mode ≠ .fault ∧
        upsetOf 0 ((0x90000 : Word).toNat / 8) s = 3 ∧ 3 ≤ 3) ∧
    (let line := fetchLine (laneAt 0 (running 0 {})).pc (running 0 {});
      let lost : State := { running 0 {} with diag.upsets := [(lineKey 1 line, 3)] };
      let bent : State := { running 0 {} with diag.upsets := [(lineKey 1 line, 2)] };
      laneRuns 0 lost = true ∧ 3 ≤ upsetOf 1 line lost ∧ lost.modes.mode ≠ .off ∧ lost.modes.mode ≠ .fault ∧
        laneRuns 0 bent = true ∧ 1 ≤ upsetOf 1 line bent ∧ upsetOf 1 line bent ≤ 2) := by decide

/-- StoresStayInTheWindow: on a tandem and on a solo, inside and outside the window. -/
theorem premises_StoresStayInTheWindow :
    (laneRuns 0 (running 0 {}) = true ∧
      linesIntact 0 ((List.range 4).map fun k => ((0x90001 : Word) + BitVec.ofNat 20 k).toNat) (running 0 {}) ∧
      inWindow 0 0x90001 (running 0 {}) = true ∧ inWindow 0 0x90002 (running 0 {}) = false ∧
      (running 0 {}).modes.mode ≠ .off ∧ (running 0 {}).modes.mode ≠ .fault ∧ mapWf {} (running 0 {}).solver.places = true) ∧
    (laneRuns 16 (running 16 {}) = true ∧ inWindow 16 0x90001 (running 16 {}) = true ∧
      inWindow 16 0x90002 (running 16 {}) = false ∧ mapWf {} (running 16 {}).solver.places = true ∧
      mapWf 0 (running 16 {}).solver.store = true) := by decide

/-- EdgesReportChanges: the edge bit set and clear, in the first cycle and later. -/
theorem premises_EdgesReportChanges :
    (let s : State := { running 0 { acc := true } with solver.store := [(0x80000, 2)] };
      laneRuns 0 s = true ∧ linesIntact 0 [0x80000] s ∧ inWindow 0 0x80000 s = true ∧ (storeAt 0x80000 s).getLsbD 1 = true ∧
        (storeAt 0x80000 s).getLsbD 0 = false ∧
        (s.modes.edgeFirst || decide (edgeNumber 0x80000 0 ∈ s.change.maskEdges)) = false) ∧
      ({ running 0 {} with modes.edgeFirst := true } : State).modes.edgeFirst = true := by decide

/-- TimersAdvanceAndSwitch: a timer at rest, and one that runs one step before its preset. -/
theorem premises_TimersAdvanceAndSwitch :
    (let s := running 0 { acc := true };
      laneRuns 0 s = true ∧ linesIntact 0 ((List.range 4).map fun k => 0x50000 + k) s ∧ 0x50000 % 4 = 0 ∧ mapWf 0 s.solver.store = true ∧
        (∀ k < 4, inWindow 0 (0x50000 + k) s = true) ∧ (storeAt 0x50000 s).getLsbD 19 = false ∧
        (storeAt 0x50000 s).getLsbD 17 = false ∧ (storeAt 0x50001 s).toNat = 0) ∧
    (let s : State := { running 0 { acc := true } with solver.store := [(0x50000, 0xA0000), (0x50001, 5), (0x50002, 4)] };
      laneRuns 0 s = true ∧ (storeAt 0x50000 s).getLsbD 19 = true ∧ (storeAt 0x50000 s).getLsbD 18 = false ∧
        (storeAt 0x50000 s).getLsbD 17 = true ∧ (storeAt 0x50000 s).getLsbD 14 = false ∧
        (storeAt 0x50000 s).getLsbD 13 = false ∧ (storeAt 0x50001 s).toNat = 5 ∧ (storeAt 0x50002 s).toNat = 4) := by decide

/-- CountersCountRisingEdges: at the upper bound of the format. -/
theorem premises_CountersCountRisingEdges :
    (let s : State := { running 0 { acc := true } with solver.store := [(0x70000, 0x7FFFF)] };
      laneRuns 0 s = true ∧ linesIntact 0 [0x70000, 0x70001] s ∧ mapWf 0 s.solver.store = true ∧ inWindow 0 0x70000 s = true ∧ inWindow 0 (0x70000 + 1) s = true ∧
        (storeAt 0x70000 s).toInt = 524287 ∧ clamped false (524287 + 1) = 524287) := by decide

/-- BranchStack: empty, with one entry, full. -/
theorem premises_BranchStack :
    laneRuns 0 (running 0 {}) = true ∧ linesIntact 0 [] (running 0 {}) ∧ (laneAt 0 (running 0 {})).branch = [] ∧
      (laneAt 0 (running 0 { branch := [true] })).branch = true :: [] ∧
      16 ≤ (laneAt 16 (running 16 { branch := List.replicate 16 false })).branch.length := by decide

/-- ControlFlow: a call, a loop, the end of a partition on a solo and a break on a tandem. -/
theorem premises_ControlFlow :
    (laneAt 0 (running 0 { calls := [(7, 0)] })).calls = (7, 0) :: [] ∧
    (let e : LoopEntry := { remaining := 2, index := 0, body := 3 };
      (laneAt 0 (running 0 { loops := [e] })).loops = e :: [] ∧ 1 < e.remaining) ∧
    (let l := laneAt 16 (running 16 {});
      l.branch = [] ∧ l.calls = [] ∧ l.loops = [] ∧ l.waiting = [] ∧ l.running = some 5 ∧ l.sat = false ∧
        (running 16 {}).modes.mode ≠ .fault) ∧
    (laneAt 0 (running 0 { branch := [true] })).branch ≠ [] := by decide

/-- PostsReachTheOutputs: a post on a solo and on a tandem. -/
theorem premises_PostsReachTheOutputs :
    (let s : State := { running 16 { posts := [{ address := 0x0F040, value := 1, passed := true }] } with
        localIo.underProgram := true };
      laneRuns 16 s = true ∧ linesIntact 16 [] s ∧ s.localIo.underProgram = true ∧ mapWf {} s.solver.places = true ∧
        (laneAt 16 s).posts = [{ address := BitVec.ofNat 20 (0x0F040 + 0), value := 1, passed := true }]) ∧
    (let s : State := { running 0 { sigLead := 1, posts := [{ address := 0x0F047, value := 1, passed := false }] } with
        localIo.underProgram := true };
      laneRuns 0 s = true ∧ linesIntact 0 [] s ∧ streamFree 0 s ∧ (laneAt 0 s).posts = [{ address := BitVec.ofNat 20 (0x0F040 + 7), value := 1, passed := false }] ∧
        (laneAt 0 s).sigLead ≠ (laneAt 0 s).sigTrail ∧ s.modes.mode ≠ .off ∧ s.modes.mode ≠ .fault) ∧
    (laneAt 0 (running 0 {})).sigLead = (laneAt 0 (running 0 {})).sigTrail := by decide

/-! ### Premises: mirror, online change and redundant pair -/

/-- A journal record of some words. -/
def record (n : Nat) : MirrorRecord := { cycle := 7, words := List.replicate n (0x60000, 1) }

/-- MirrorEngine: nothing to write, a record that fits and one that fills the journal, a base that completes. -/
theorem premises_MirrorEngine :
    (fallbackWrites State.reset = none ∧ State.reset.solver.mirror.writing = none) ∧
    (let m : Mirror := { writing := some (record 1) };
      let s : State := { State.reset with change.fallback := some m };
      s.change.fallback = some m ∧ m.writing = some (record 1)) ∧
    (let m : Mirror := { writing := some (record 1) };
      m.writing = some (record 1) ∧ ((m.journal ++ [record 1]).map mirrorBytes).sum ≤ journalRoom) ∧
    (let m : Mirror := { journal := [{ cycle := 6, words := [] }], writing := some (record 1) };
      m.newBase = none ∧ journalRoom = 1441792 ∧ ((m.journal ++ [record 1]).map mirrorBytes).sum = 37) ∧
    (let s : State := { State.reset with solver.mirror.newBase := some (9, record 1), pair.resyncBase := true };
      s.solver.mirror.newBase = some (9, record 1) ∧ s.change.state = .empty ∧ s.pair.resyncBase = true) ∧
    ({ State.reset with change.state := .switched } : State).change.state = .switched := by decide

/-- MirrorEngine: a journal whose last record fills its room. -/
theorem premises_MirrorEngine_full (n : Nat) (h : 288400 ≤ n) :
    let m : Mirror := { journal := [{ cycle := 6, words := List.replicate n (0, 0) }], writing := some (record 1) }
    m.newBase = none ∧ journalRoom < ((m.journal ++ [record 1]).map mirrorBytes).sum := by
  refine ⟨rfl, ?_⟩
  simp only [List.cons_append, List.nil_append, List.map_cons, List.map_nil, List.sum_cons, List.sum_nil, mirrorBytes,
    record, List.length_replicate, journalRoom]
  omega

/-- An image of one partition of class C whose only instruction is END (R92, R139, Table 5-8). -/
def endImage : Image :=
  { image2 with
    code := [(0, 0x0400000000)]
    partitions := [{ number := 5, name := "P", cls := .c, entry := 0, last := 0, places := [0, 0] }]
    plans := List.replicate 2 (List.replicate 16 .joined) }

/-- A module in a change state that loads an image, with a minimum cycle of 50,000 µs. -/
def changing (m : Mode) (c : ChangeState) : State :=
  { inMode m with
    solver.bank0 := some endImage
    change.state := c
    change.loadingImage := some endImage
    nsp.inForce := { nums := [(ekey 0x2030 0x05 0 0, 50000)] }
    cycle.admitted0 := { xch := 100000, plans := [{ admitted := 1000000 }, { admitted := 1000000 }] } }

/-- OnlineChange: the load, its end both ways, the standby's answer, a discard, the commands. -/
theorem premises_OnlineChange :
    ((changing .active .empty).modes.mode = .active ∧ (changing .active .empty).change.state = .empty) ∧
    (changing .change .undoPending).change.state = .undoPending ∧
    (admitChange endImage { changing .solo .loading with cycle.admitted0 := {} }).1.refused = true ∧
    imageLost { changing .solo .loading with hub.transitLost := true } = true ∧
    imageLost (changing .solo .loading) = false ∧
    ((admitChange endImage (changing .solo .loading)).1.refused = false ∧ (changing .solo .loading).pair.partner.mode ≠ some 4 ∧
      (changing .solo .loading).modes.mode = .solo) ∧
    (let s : State := { changing .active .loading with pair.partner.mode := some 4 };
      s.change.state = .loading ∧ s.change.loadingImage = some endImage ∧ (admitChange endImage s).1.refused = false ∧
        s.pair.partner.mode = some 4) ∧
    ((changing .active .loaded).change.state = .loaded ∧ (changing .active .loaded).modes.mode = .active ∧
      (1 : BitVec 32) ≠ shadowId (changing .active .loaded)) ∧
    ((changing .solo .switched).change.state = .switched ∧
      setConfirmationDeadline (changing .solo .switched).nsp.settings ≠ 0) ∧
    (let s : State := { changing .solo .switched with nsp.settings.nums := [(ekey 0x2040 0x08 0 0, 0)] };
      setConfirmationDeadline s.nsp.settings = 0) ∧
    (changing .solo .ready).change.state ≠ .switched := by decide

/-- A seam lane on a module whose island 7 runs. -/
def withSeam (x : SeamLane) : State := up 7 { inMode .active with seam.lane0 := x }

/-- A pair message of slot 1 of pair 0. -/
def fromPartner (kind mode : Nat) (arg : PairArg) : PairMsg :=
  { kind := kind, mode := mode, slot := 1, sync := false, seamUp := true, networkUp := true, stopByCommand := false
    weftSuspended := false, pairId := 0, jersey := 3, cycle := 8, seq := 1, send := 5, arg := arg }

/-- A weft frame of cycle 8 without entries. -/
def weft (flags : BitVec 8) : WeftFrame :=
  { format := 1, flags := flags, plan := 0, cycle := 8, jersey := 3, start := 0, image := 0, shadow := 0, generation := 0
    words := [], commands := [], slices := [], nextJersey := 4, sliceStart := 0 }

/-- A block on a seam lane. -/
def seamBlock (type : Nat) (payload : List Byte) : SeamBlock :=
  { type := type, last := true, laneSeq := 0, tag := 8, offset := 0, payload := payload }

/-- SeamSending: each precedence, a full buffer, the end of a block with the frame released and not. -/
theorem premises_SeamSending :
    (seamLane 0 (withSeam { sending := some (seamBlock 2 []) })).sending.isSome = true ∧
    (let s := withSeam { lock := true, control := [fromPartner 1 5 .none] };
      (seamLane 0 s).sending = none ∧ (seamLane 0 s).lock = true ∧ islandUp 7 s = true ∧
        (seamLane 0 s).control = fromPartner 1 5 .none :: [] ∧ (seamLane 0 s).unacked.length < 256) ∧
    (let u : Unacked := { block := seamBlock 2 [], sends := 1 };
      let s := withSeam { lock := true, resend := [0], unacked := [u] };
      (seamLane 0 s).control = [] ∧ (seamLane 0 s).resend = 0 :: [] ∧
        (seamLane 0 s).unacked.find? (fun u => u.block.laneSeq == 0) = some u) ∧
    (let s : State := { withSeam { lock := true, inService := true, weftReady := true } with seam.weftTx := [seamBlock 1 []] };
      (seamLane 0 s).control = [] ∧ (seamLane 0 s).resend = [] ∧ (seamLane 0 s).inService = true ∧
        (seamLane 0 s).unacked.length < 256 ∧ s.seam.weftTx = seamBlock 1 [] :: [] ∧ (seamLane 0 s).weftReady = true) ∧
    (let s : State := { withSeam { lock := true, inService := true } with seam.serviceBlocks := [seamBlock 3 [7]] };
      (seamLane 0 s).control = [] ∧ (seamLane 0 s).resend = [] ∧ s.seam.weftTx = [] ∧
        s.seam.serviceBlocks = seamBlock 3 [7] :: []) ∧
    (let s : State := { withSeam { lock := true, inService := true } with seam.serviceTx := [.resyncEnd] };
      s.seam.weftTx = [] ∧ s.seam.serviceBlocks = [] ∧ s.seam.serviceTx = .resyncEnd :: []) ∧
    (let s := withSeam { lock := true, unacked := List.replicate 256 { block := seamBlock 2 [], sends := 1 } };
      (seamLane 0 s).sending = none ∧ (seamLane 0 s).resend = [] ∧ 256 ≤ (seamLane 0 s).unacked.length) ∧
    (let s : State := { withSeam { lock := true, sending := some (seamBlock 1 []) } with
        pair.weftOpen := true, pair.lastWeft := some (weft 0), cycle.releasedCycle := some 8 };
      (seamLane 0 s).sending.isSome = true ∧ (seamLane (otherLane 0) s).sending = none ∧ s.seam.weftTx = [] ∧
        s.seam.serviceTx = [] ∧ s.seam.serviceBlocks = [] ∧ s.seam.lane0.control = [] ∧ s.seam.lane1.resend = [] ∧ s.pair.weftOpen = true ∧ s.pair.lastWeft = some (weft 0) ∧
        cycleReleased (weft 0).cycle s = true) ∧
    cycleReleased (weft 0).cycle (withSeam {}) = false := by decide

/-- SeamSending: the last block of a service transfer. -/
theorem premises_SeamSending_last (x : Service) :
    (serviceBlock x { inMode .active with seam.serviceOffset := (Config.serviceBytes x).length }).last = true :=
  decide_eq_true (Nat.le_add_right _ _)

/-- SeamReception: no lock, a closed crossing, a bad block below and at the limit, a duplicate, a control block and a whole frame in order. -/
theorem premises_SeamReception :
    (seamLane 0 (withSeam {})).lock = false ∧
    (let s := withSeam { lock := true };
      (seamLane 0 s).lock = true ∧ islandUp 7 s = true ∧ crossingOpen 10 s = false) ∧
    (let s := opened 10 (withSeam { lock := true });
      (seamLane 0 s).lock = true ∧ islandUp 7 s = true ∧ crossingOpen 10 s = true ∧
        (recentErrors (seamLane 0 s).crcTimes (max s.network.time.now 0)).length < 64) ∧
    (let s := opened 10 (withSeam { lock := true, crcTimes := List.replicate 64 0 });
      64 ≤ (recentErrors (seamLane 0 s).crcTimes (max s.network.time.now 0)).length ∧ (seamLane 0 s).failed = false) ∧
    isDuplicate 0xFFFF (seamLane 0 (opened 10 (withSeam { lock := true }))) = true ∧
    (let s := opened 10 (withSeam { lock := true });
      let b := seamBlock 2 (pairBytes (fromPartner 1 5 .none));
      b.laneSeq = (seamLane 0 s).rxNext ∧ (seamLane 0 s).rxAhead = [] ∧ (seamLane 0 s).ackOwed < 7 ∧ b.type = 2 ∧
        (parsePair b.payload).kind ≠ 8) ∧
    (let u : Unacked := { block := seamBlock 2 [], sends := 3 };
      let s := withSeam { lock := true, ackOwed := 1, unacked := [u] };
      (seamLane 0 s).ackOwed ≠ 0 ∧ (seamLane 0 s).unacked.find? (fun u => u.block.laneSeq == 0) = some u ∧ u.sends < 4 ∧
        (seamLane 0 s).unacked.find? (fun u => u.block.laneSeq == 1) = none) ∧
    (let u : Unacked := { block := seamBlock 2 [], sends := 4 };
      4 ≤ u.sends ∧ (seamLane 0 (withSeam { unacked := [u] })).failed = false) := by decide

/-- A weft frame without entries as its bytes: 56 bytes, CRC-32 and four bytes of padding (Table 8-4). -/
def weftPayload : List Byte :=
  let h : List Byte := [1, 0, 0, 0, 8, 0, 0, 0] ++ List.replicate 48 0
  h ++ leBytes 4 (crc32 h).toNat ++ [0, 0, 0, 0]

/-- SeamReception: a whole weft frame at a synchronised standby. -/
theorem premises_SeamReception_frame :
    (let s : State := opened 10 (up 7 { inMode .standby with seam.lane0.lock := true, pair.standby := .synchronised });
      let b := seamBlock 1 weftPayload;
      b.type = 1 ∧ b.last = true ∧ b.offset = 0 ∧ b.payload ≠ [] ∧ s.modes.mode = .standby ∧
        s.pair.standby = .synchronised ∧ s.pair.frames = [] ∧ s.pair.boundaries = [] ∧ s.seam.rxFrames = []) ∧
    (parseWeft weftPayload).map (fun f => f.flags.getLsbD 3) = some false := by decide

/-- SeamLaneService. -/
theorem premises_SeamLaneService :
    (seamLane 0 (withSeam {})).lock = false ∧ islandUp 7 (withSeam {}) = true ∧
    ((seamLane 0 (withSeam { lock := true })).lock = true ∧ (seamLane 0 (withSeam { lock := true })).failed = false) ∧
    (let s := withSeam { lock := true, failed := true, helloAccepted := true };
      (seamLane 0 s).failed = true ∧ (seamLane 0 s).lock = true ∧ (seamLane 0 s).helloAccepted = true) ∧
    (let s : State := { withSeam { lock := true } with nsp.stored0 := { intact := true, values := { nums := [(ekey 0x3001 1 0 0, 77)] } } };
      let m : PairMsg := { fromPartner 7 5 (.formats 1 1 0) with pairId := 77 };
      (seamLane 0 s).lock = true ∧ (seamLane 0 s).helloAccepted = false ∧ some m.slot = partnerSlotOf s ∧
        m.pairId = pairIdentity s ∧ m.pairId ≠ 0 ∧ m.arg = .formats 1 1 0 ∧ newLink s = true ∧ s.firmware.pairState = 0 ∧
        s.pair.handover = none ∧ nspUp s = true ∧ solving s.modes.mode = true ∧ 5 ≤ m.mode ∧ m.mode ≤ 8 ∧
        s.pair.jersey < m.jersey ∧ ({ m with jersey := 0 } : PairMsg).jersey ≤ s.pair.jersey ∧
        commonFormat s.firmware.main.weftLo s.firmware.main.weftHi s = s.firmware.main.weftHi ∧ commonFormat 9 9 s = 0 ∧
        some ({ m with slot := 2 } : PairMsg).slot ≠ partnerSlotOf s) := by decide

/-- PairMessagesSentAndDropped. -/
theorem premises_PairMessagesSentAndDropped :
    (sendsHeartbeats (withSeam { inService := true }) = true ∧ seamUp (withSeam { inService := true }) = true) ∧
    (sendsHeartbeats (inMode .fault) = false ∧ (inMode .fault).modes.mode = .fault) ∧
    (0 < ({ inMode .fault with pair.faultRepeats := 3 } : State).pair.faultRepeats ∧ State.reset.pair.faultRepeats = 0) ∧
    (nspUp (inMode .active) = true ∧ { fromPartner 1 5 .none with pairId := 1 }.pairId ≠ pairIdentity (inMode .active) ∧
      some ({ fromPartner 1 5 .none with slot := 3 } : PairMsg).slot ≠ partnerSlotOf (inMode .active)) := by decide

/-- A standby with a checkpoint of cycle 7. -/
def synced (x : StandbyState) : State :=
  { inMode .standby with
    pair.standby := x
    pair.checkpoint := some { cycle := 7, jersey := 3, plan := 0, start := 0, image := 0, generation := 0, commands := [], boundaryAt := 0 } }

/-- PairMessagesActed: messages accepted, and the loss of a path. -/
theorem premises_PairMessagesActed :
    (nspUp (inMode .standby) = true ∧ messageAccepted .network (fromPartner 1 5 .none) true (inMode .standby) = true) ∧
    (messageAccepted .seam (fromPartner 1 5 .none) true (inMode .active) = true ∧
      (inMode .active).pair.jersey < (fromPartner 1 5 .none).jersey) ∧
    (let h : Handover := { cycle := 8, nextJersey := 3 };
      let s : State := { inMode .handover with pair.handover := some h };
      s.modes.mode = .handover ∧ s.pair.handover = some h ∧ h.endedAt = none ∧ (fromPartner 4 5 .none).kind = 4 ∧
        (fromPartner 4 5 .none).jersey = h.nextJersey ∧ messageAccepted .seam (fromPartner 4 5 .none) true s = true) ∧
    (let m := fromPartner 2 10 (.fault 0x1101);
      (synced .synchronised).modes.mode = .standby ∧ (synced .synchronised).pair.standby = .synchronised ∧
        (synced .synchronised).pair.committing = none ∧ m.kind = 2 ∧ m.arg = .fault 0x1101 ∧
        (synced .synchronised).pair.checkpoint.map (·.jersey) = some m.jersey ∧
        holdsCycle (m.cycle - 1) (synced .synchronised) = true ∧
        holdsCycle (({ m with cycle := 9 } : PairMsg).cycle - 1) (synced .synchronised) = false ∧
        messageAccepted .network m true (synced .synchronised) = true) ∧
    (synced .unsynchronised).pair.seamPath.up = false ∧
    ({ synced .unsynchronised with pair.seamPath.up := true } : State).pair.seamPath.up = true ∧
    (let s : State := { synced .unsynchronised with pair.seamPath.up := true, pair.netPath.up := true, pair.declared := true };
      (pathOf .seam s).up = true ∧ s.pair.netPath.up = true ∧ s.pair.standby ≠ .synchronised ∧ s.pair.declared = true) ∧
    (synced .unsynchronised).pair.declared = false ∧
    (let s : State := { inMode .active with pair.seamPath.up := true, pair.netPath.up := true };
      (pathOf .seam s).up = true ∧ (pathOf .network s).up = true) ∧
    (let s : State := { synced .synchronised with pair.netPath.up := true };
      (pathOf .network s).up = true ∧ (pathOf .seam s).up = false) := by decide

/-- CommitsAndHandover. -/
theorem premises_CommitsAndHandover :
    (let s : State := { synced .synchronised with pair.frames := [weft 0] };
      let m := fromPartner 2 5 (.boundary 64 false);
      s.modes.mode = .standby ∧ s.pair.standby = .synchronised ∧ messageAccepted .seam m true s = true ∧
        m.arg = .boundary 64 false ∧ m.mode = 5 ∧ s.pair.checkpoint.map (·.cycle + 1) = some (weft 0).cycle ∧
        m.cycle = (weft 0).cycle ∧ s.pair.frames = [weft 0] ∧ s.pair.boundaries = [] ∧ s.pair.committing = none ∧
        (weft 0).flags.getLsbD 3 = false ∧ (weft 8).flags.getLsbD 3 = true) ∧
    (let s : State := { synced .synchronised with pair.committing := some (weft 0, 5) };
      s.pair.committing = some (weft 0, 5) ∧ s.modes.mode = .standby ∧ s.pair.standby = .synchronised ∧ s.pair.frames = [] ∧
        (weft 0).flags &&& 0x57 = 0 ∧ s.change.confirmDue = false) ∧
    (let h : Handover := { cycle := 8, nextJersey := 3, endedAt := some 4 };
      let s : State := { inMode .handover with pair.handover := some h };
      s.modes.mode = .handover ∧ s.pair.handover = some h ∧ h.endedAt.isSome = true ∧ h.confirmed = false ∧
        s.front.extractionWaiting = false ∧ s.nsp.commit ≠ .held) := by decide

/-- Resynchronisation. -/
theorem premises_Resynchronisation :
    (let s : State := { synced .unsynchronised with seam.lane0.inService := true };
      s.modes.mode = .standby ∧ s.pair.standby = .unsynchronised ∧ seamUp s = true ∧ pairRefused s = false ∧
        s.front.leverOpen = false ∧ s.pair.resyncAccepted = false ∧ s.firmware.main.cfgLo ≤ s.firmware.main.cfgHi) ∧
    ({ synced .unsynchronised with front.leverOpen := true } : State).front.leverOpen = true ∧
    ((inMode .active).modes.mode = .active ∧ (fromPartner 6 4 .none).mode = 4 ∧
      messageAccepted .seam (fromPartner 6 4 .none) true (inMode .active) = true) ∧
    ((synced .resynchronising).modes.mode = .standby ∧ (synced .resynchronising).pair.standby = .resynchronising) ∧
    ((inMode .solo).pair.standby = .none ∧ (inMode .solo).pair.partner.mode = none) := by decide
/-! ### Premises: diagnostics, hub and islands -/

/-- The island counts of a healthy module (Table 12-1): islands 1 to 7 and 9. -/
def healthy : List Nat := [5000, 8000, 12000, 1562, 800, 2500, 1562, 160]

/-- SupervisorAndWatchdog. -/
theorem premises_SupervisorAndWatchdog :
    (supervisorUp (inMode .solo) = true ∧ healthy.length = 8 ∧
      (∀ p ∈ ([1, 2, 3, 4, 5, 6, 7, 9] : List Nat).zip healthy, inBand p.1 p.2 = true) ∧
      islandUp 1 (up 1 (inMode .solo)) = true) ∧
    (let c := [5201, 8000, 12000, 1562, 800, 2500, 1562, 160];
      (1, 5201) ∈ ([1, 2, 3, 4, 5, 6, 7, 9] : List Nat).zip c ∧ islandUp 1 (up 1 (inMode .solo)) = true ∧
        judged 1 (up 1 (inMode .solo)) = true ∧ judged 1 (inMode .solo) = true ∧ inBand 1 5201 = false ∧ inBand 1 5200 = true) ∧
    (let ppm : List Int := [30000, 0, 0, 0, 0, 0, 0, 0, 0];
      ppm.length = 9 ∧ (1, (30000 : Int)) ∈ (rangeFrom 1 9).zip ppm ∧
        setDeviationLimit State.reset.nsp.settings 1 ≠ 0 ∧ setDeviationLimit State.reset.nsp.settings 1 < (30000 : Int).natAbs) ∧
    ((200 : Nat) < (201 : Int).natAbs ∧ (-200 : Int).natAbs ≤ 200 ∧ inBand 9 160 = true) ∧
    (let mv := [800, 1200, 1800, 3300, 5000, 3300];
      mv.length = 6 ∧ ∀ p ∈ (rangeFrom 1 6).zip mv, (railBand p.1).1 ≤ p.2 ∧ p.2 ≤ (railBand p.1).2) ∧
    (let s : State := { inMode .solo with diag.rails := [(1, { low := 1 })] };
      let mv := [759, 1200, 1800, 3300, 5251, 3300];
      (1, 759) ∈ (rangeFrom 1 6).zip mv ∧ 0 < (mapVal {} 1 s.diag.rails : Rail).low ∧ 759 < (railBand 1).1) ∧
    (let s : State := { inMode .solo with diag.rails := [(5, { high := 1 })] };
      0 < (mapVal {} 5 s.diag.rails : Rail).high ∧ (railBand 5).2 < 5251) ∧
    (let s : State := { inMode .solo with diag.hot := [(2, 1)] };
      let c : List Int := [40, 125, 109, 110];
      c.length = 4 ∧ (2, (125 : Int)) ∈ (rangeFrom 1 4).zip c ∧ 1 ≤ mapVal 0 2 s.diag.hot) ∧
    ((inMode .solo).diag.watchdogHeld = false ∧ mapWf {} (inMode .solo).islands.islands = true) ∧
    ({ inMode .fault with diag.watchdogHeld := true } : State).diag.watchdogHeld = true := by decide

/-- ScrubbingAndTraining. -/
theorem premises_ScrubbingAndTraining :
    (let s : State := { up 1 (inMode .solo) with diag.scrubData := { rewrites := [4], corrected := [(0, 2)] } };
      scrubs 0 s = true ∧ (scrubber 0 s).rewrites = 4 :: [] ∧ 2 ≤ mapVal 0 (scrubber 0 s).next (scrubber 0 s).corrected) ∧
    (let s := up 2 (inMode .solo);
      scrubs 2 s = true ∧ (scrubber 2 s).rewrites = [] ∧ mapWf 0 s.diag.upsets = true ∧
        (scrubber 2 s).next + scrubWidth 2 < scrubLines 2) ∧
    (let s : State := { up 2 (inMode .solo) with diag.scrubSram := { started := true } };
      upsetOf 2 (scrubber 2 s).next s = 0 ∧ (scrubber 2 s).started = true ∧ (scrubber 2 s).next + scrubWidth 2 < scrubLines 2) ∧
    (scrubWidth 3 = 2 ∧ upsetOf 3 ((scrubber 3 (inMode .solo)).next + 1) (inMode .solo) = 0) ∧
    (let s : State := { up 2 (inMode .solo) with diag.scrubSram := { next := scrubLines 2 - scrubWidth 2, started := true }, network.time.now := scrubBound 2 + 1 };
      scrubs 2 s = true ∧ (scrubber 2 s).rewrites = [] ∧ (scrubber 2 s).started = true ∧ upsetOf 2 (scrubber 2 s).next s = 0 ∧
        scrubLines 2 ≤ (scrubber 2 s).next + scrubWidth 2 ∧
        scrubBound 2 < s.network.time.now - (scrubber 2 s).passStart) ∧
    ({ State.reset with hub.channels := 2 } : State).hub.channels.getLsbD 1 = true ∧
    ({ State.reset with hub.channels := 2 } : State).hub.channels.getLsbD 0 = false := by decide

/-- A module whose hub runs, with both DRAM channels in service. -/
def hubUp (s : State) : State := up 2 { s with hub.channels := 3 }

/-- HubAccesses: a master with a fixed path and one with a checker; the data store in the solve and in the XCH phase; a closed
crossing; an address that the rules refuse; an arbiter register. -/
theorem premises_HubAccesses :
    (let s := hubUp (inMode .solo);
      islandUp 2 s = true ∧ isMaster 0x53 = true ∧ noChainWaits s ∧ reaches 0x53 0x300000000 s ∧
        checkAccess 0x53 false 0x300000000 4 s = none ∧ accepted false 0x300000000 4 = true ∧ accessIntact 0x300000000 4 s ∧
        targetOf 0x300000000 = .sram ∧ checkAccess 0x53 true 0x300000000 1 s = none ∧
        accepted true 0x300000000 1 = true ∧ accessIntact 0x300000000 1 s) ∧
    (let s := opened 6 (hubUp (inMode .solo));
      reaches 0x53 0x0 s ∧ checkAccess 0x53 true 0x0 1 s = none ∧ accepted true 0x0 1 = true ∧ targetOf 0x0 = .dram ∧
        accessIntact 0x0 1 s ∧ windowClosed 3 s = false ∧ dramDown 0x0 1 s = false ∧
        windowClosed 3 (hubUp (inMode .solo)) = true) ∧
    (let s := hubUp (inMode .solo);
      reaches 0x52 0x340800000 s ∧ checkAccess 0x52 true 0x340800000 1 s = none ∧ accepted true 0x340800000 1 = true ∧
        accessIntact 0x340800000 1 s ∧ targetOf 0x340800000 = .mram) ∧
    (let s : State := opened 1 (hubUp (inPhase .xch));
      reaches 0x55 0x310000000 s ∧ checkAccess 0x55 true 0x310000000 4 s = none ∧ accepted true 0x310000000 4 = true ∧
        accessIntact 0x310000000 4 s ∧ targetOf 0x310000000 = .dataStore ∧ slotOwned s = true ∧ ownsSlot 0x55 = false ∧
        windowClosed 1 s = false) ∧
    (let w : HubAccess := { master := 0x55, write := true, address := 0x310000000, size := 4, data := [1, 0, 0, 0] };
      let s : State := { opened 1 (hubUp (inPhase .xch)) with hub.waiting := [(w, 0)] };
      checkAccess 0x55 true 0x310000000 w.data.length s = none ∧ accessIntact 0x310000000 w.data.length s ∧
        mapWf 0 s.solver.store = true ∧ (∀ n < 16, (session n s).held = []) ∧ s.hub.locks = []) ∧
    (let s := hubUp (inMode .solo);
      reaches 0x55 0x310000000 s ∧ checkAccess 0x55 false 0x310000000 1 s = none ∧ accepted false 0x310000000 1 = false ∧
        (dmaEngine (0x55 - 0x40) s).running = false) ∧
    (let s := hubUp (inMode .solo);
      reaches 0x50 0x340F00000 s ∧ (checkAccess 0x50 false 0x340F00000 4 s).isSome = true ∧
        (dmaEngine (0x50 - 0x40) s).running = false) ∧
    (let s := hubUp (inMode .solo);
      portKind 0 5 = 0 ∧ min ((0 : BitVec 32).toNat % 16) 13 ≠ portBase 0 5 ∧ reaches 0x55 (0xF00001000 + 4 * 5) s ∧
        checkAccess 0x55 true (0xF00001000 + 4 * 5) 4 s = none) := by decide

/-- A copy of 20 bytes within SRAM, the last of its chain, as its descriptor in DRAM (Table 10-12). -/
def copyChain (s : State) : State :=
  { s with
    hub.dram := writeCells 0 (leBytes 5 0x300000000 ++ leBytes 5 0x300000100 ++ leBytes 4 20 ++ [0x10]) s.hub.dram
    hub.dma := [(4, { running := true })] }

/-- DebugAndDma. -/
theorem premises_DebugAndDma :
    (let s : State := { hubUp (inMode .stop) with protection.lifecycle := .inService };
      islandUp 2 s = true ∧ noChainWaits s ∧ s.protection.lifecycle = .inService ∧ inProtected 0x340F00000 4 = true ∧
        inLocked 0x400000000 4 s = true ∧ s.protection.unlocked = false) ∧
    (let s := hubUp (inMode .stop);
      s.protection.lifecycle = .provision ∧ checkAccess 0x58 true 0x300000000 1 s = none ∧
        accepted true 0x300000000 1 = true ∧ targetOf 0x300000000 = .sram ∧ accessIntact 0x300000000 1 s) ∧
    (let s := hubUp (inMode .stop);
      noChainWaits s ∧ (dmaEngine 4 s).running = false ∧ (dmaEngine 4 s).buffer = [] ∧ descriptorPlace 0x10 = false ∧
        descriptorPlace 0x20 = true ∧ dramDown 0x20 32 s = false ∧ (descriptorAt 0x20 s).flags.getLsbD 1 = false) ∧
    (let s := copyChain (hubUp (inMode .stop));
      let d := descriptorOf 4 s;
      noChainWaits s ∧ (dmaEngine 4 s).running = true ∧ (dmaEngine 4 s).waitingLock = false ∧ (dmaEngine 4 s).ending = none ∧
        (dmaEngine 4 s).buffer = [] ∧ (dmaEngine 4 s).behind = [] ∧ (dmaEngine 4 s).posted = 0 ∧ (dmaEngine 4 s).moved = 0 ∧
        accessIntact d.source d.length s ∧ accessIntact d.dest d.length s ∧ (dmaEngine 4 s).lockHeld = none ∧ targetOf (dmaEngine 4 s).current = .dram ∧
        descriptorPlace (dmaEngine 4 s).current = true ∧ d.flags.getLsbD 3 = false ∧ d.flags.getLsbD 4 = true ∧
        0 < d.length ∧ d.length ≤ 20 ∧ targetOf d.source = .sram ∧ targetOf d.dest = .sram ∧
        accepted false d.source d.length = true ∧ accepted true d.dest d.length = true ∧
        checkAccess 0x44 false d.source d.length s = none ∧ checkAccess 0x44 true d.dest d.length s = none) ∧
    (let s : State := { copyChain (hubUp (inMode .stop)) with
        hub.dma := [(4, { running := true, posted := 20, buffer := [{ address := 0x300000100, data := [7] }] })] };
      (dmaEngine 4 s).buffer = { address := 0x300000100, data := [7] } :: [] ∧ (descriptorOf 4 s).length ≤ (dmaEngine 4 s).posted ∧
        (dmaEngine 4 s).behind = [] ∧ targetOf (dmaEngine 4 s).current = .dram ∧ (descriptorOf 4 s).flags.getLsbD 4 = true ∧
        targetOf 0x300000100 = .sram ∧ accepted true 0x300000100 1 = true ∧ accessIntact 0x300000100 1 s ∧
        checkAccess 0x44 true 0x300000100 1 s = none) ∧
    (let s : State := { copyChain (hubUp (inMode .stop)) with
        hub.dma := [(4, { running := true, posted := 20, buffer := [{ address := 0x300000100, data := [7] }] })]
        protection.active := [(65, { base := 0x30000000, limit := 0x30027FFF, attr := 0x80000001 })] };
      (checkAccess 0x44 true 0x300000100 1 s).isSome = true) := by
  decide

/-- ArbitrationAndLocks: no arbiter holds a request after reset. -/
theorem premises_ArbitrationAndLocks_none (n : Nat) : (arbPort 0 n (arbiter 0 (inMode .solo))).requests = [] := by
  simp [arbPort, arbiter, inMode, State.reset, mapVal, portReset]

/-- ArbitrationAndLocks. -/
theorem premises_ArbitrationAndLocks :
    (let p : PortRequest := { port := 1, master := (portMasters 0 1).headD 0, lines := 40, tick := 4 };
      let q : PortRequest := { port := 5, master := (portMasters 0 5).headD 0, lines := 2, tick := 4 };
      p.port ≠ q.port ∧ portKind 0 1 ≠ 3 ∧ portKind 0 5 = 0 ∧ p.master ∈ portMasters 0 1 ∧ q.master ∈ portMasters 0 5 ∧
        portLevel 0 5 (arbiter 0 (inMode .solo)) < portLevel 0 1 (arbiter 0 (inMode .solo)) ∧ p.tick < 5 ∧ q.tick < 5 ∧
        (arbiter 0 (inMode .solo)).grant = none) ∧
    (let g : ArbGrant := { port := 5, start := 3, request := { master := 0x44, lines := 2, tick := 1 }, burst := 2 };
      let p : PortRequest := { port := 0, master := (portMasters 0 0).headD 0, lines := 1, tick := 4 };
      let s : State := { inMode .solo with hub.arbiters := [(0, { grant := some g })] };
      (arbiter 0 s).grant = some g ∧ portKind 0 0 = 2 ∧ p.master ∈ portMasters 0 0 ∧ p.tick ≤ 4 ∧ g.port < 16 ∧
        portKind 0 5 ≠ 2 ∧ g.start ≤ 5 ∧ mapWf {} s.hub.arbiters = true ∧
        (arbPort 0 5 (arbiter 0 { s with hub.arbiters := [(0, { ports := [(5, { baseShadow := 3 })] })] })).baseShadow ≠
          portBase 0 5) ∧
    (let g : ArbGrant := { port := 0, start := 3, request := { master := 0x44, lines := 2, tick := 1 }, burst := 2 };
      let s : State := { inMode .solo with hub.arbiters := [(0, { grant := some g })] };
      (arbiter 0 s).grant = some g ∧ portKind 0 g.port = 2 ∧ s.modes.mode ≠ .off ∧ s.modes.mode ≠ .fault) := by decide

/-- ArbitrationAndLocks: the locks. -/
theorem premises_ArbitrationAndLocks_locks :
    (waitsForLock 0x44 (inMode .solo) = false ∧ mayName 0x44 64 = true ∧ mayName 0x44 63 = false ∧
      holdsAbove 0x44 64 (inMode .solo) = false ∧ (lockAt 64 (inMode .solo)).owner = none) ∧
    (let s : State := { inMode .solo with hub.locks := [(64, { owner := some 0x45, queue := [0x46] }), (70, { owner := some 0x44 })] };
      (lockAt 64 s).owner = some 0x45 ∧ holdsAbove 0x44 71 s = false ∧ holdsAbove 0x44 64 s = true ∧
        waitsForLock 0x44 s = false ∧ (lockAt 64 s).queue = 0x46 :: [] ∧ 0x46 ∈ (lockAt 64 s).queue ∧
        (lockAt 70 s).queue = [] ∧ mapWf {} s.hub.locks = true ∧ 0x44 ∉ (lockAt 64 s).queue ∧
        writesOutstanding 0x45 s = false ∧ (∀ p ∈ s.hub.locks, p.2.owner = some 0x46 → p.2.releasing = false)) ∧
    (let s : State := { inMode .solo with
        hub.locks := [(64, { owner := some 0x45 })]
        hub.dma := [(5, { running := true, buffer := [{ address := 0x300000000, data := [7] }] })] };
      (lockAt 64 s).owner = some 0x45 ∧ writesOutstanding 0x45 s = true) ∧
    (let s : State := { inMode .solo with nsp.sessions := [(2, { phase := .isOpen })] };
      (session 2 s).phase = .isOpen ∧ selectedLock 2 s = 64 ∧ waitsForLock 0x82 s = false ∧ holdsAbove 0x82 64 s = false ∧
        (lockAt 64 s).owner = none ∧ (session 3 s).phase ≠ .isOpen) ∧
    (let s : State := { inMode .solo with nsp.sessions := [(2, { phase := .isOpen })], hub.locks := [(64, { owner := some 0x82, queue := [0x46] })] };
      (lockAt 64 s).owner = some 0x82 ∧ (lockAt 64 s).queue = 0x46 :: [] ∧ writesOutstanding 0x82 s = false) := by decide

/-- CrossingsAndIslandResets. -/
theorem premises_CrossingsAndIslandResets :
    ((crossing 1 State.reset).state = 0 ∧ sidesUp 1 State.reset = false ∧ mapWf {} State.reset.islands.crossings = true) ∧
    (let s := modCrossing 1 (fun c => { c with state := 1 }) (up 1 (up 2 (inMode .stop)));
      (crossing 1 s).state = 1 ∧ sidesUp 1 s = true ∧ othersOpen 1 s = true ∧ (crossing 1 s).state ≠ 0) ∧
    (let s := modCrossing 12 (fun c => { c with state := 1 }) (up 2 (up 9 (inMode .stop)));
      (crossing 12 s).state = 1 ∧ sidesUp 12 s = true ∧ othersOpen 12 s = false) ∧
    (windowClosed 3 State.reset = true ∧ windowClosed 2 State.reset = false) ∧
    ((inMode .solo).modes.mode ≠ .stop ∧ (inMode .stop).islands.reset = none) ∧
    (let s : State := up 4 { inMode .stop with islands.reset := some (4, .scheduled) };
      s.islands.reset = some (4, .scheduled) ∧ s.islands.reset.isSome = true ∧ islandUp 4 s = true ∧ supervisorUp s = true ∧
        mapWf {} s.islands.islands = true) ∧
    (let s : State := { inMode .stop with islands.reset := some (7, .asserted) };
      s.islands.reset = some (7, .asserted) ∧ staysHeld 7 s = false) ∧
    (let s : State := { inMode .fault with islands.reset := some (7, .asserted), diag.watchdogHeld := true };
      s.islands.reset = some (7, .asserted) ∧ staysHeld 7 s = true ∧ mapWf {} s.islands.islands = true) ∧
    (let s : State := { inMode .stop with islands.reset := some (5, .loopback) };
      s.islands.reset = some (5, .loopback) ∧ staysHeld 5 s = false ∧ mapWf {} s.islands.islands = true) := by decide

/-- A module in a mode, in service, whose session 2 is open for party 1 with every right. -/
def serviced (m : Mode) : State :=
  { inMode m with
    protection.lifecycle := .inService
    protection.parties := [(1, { enabled := true, rights := 15 }), (2, { enabled := true, rights := 15 })]
    nsp.sessions := [(2, { phase := .isOpen, party := 1 })] }

/-- The proposal of a cold restart by a party. -/
def coldRestart (p : Nat) : Proposal :=
  { number := 1, index := 0x2001, sub := 2, sel1 := 0, sel2 := 0, value := [1], proposer := p, digest := 9, madeAt := 0 }

/-- TwoPartyProposals. -/
theorem premises_TwoPartyProposals :
    (let s := serviced .stop;
      (session 2 s).phase = .isOpen ∧ rw2Fits 0x200102 [1] = true ∧ s.modes.mode ≠ .provision ∧
        s.protection.lifecycle = .inService ∧ rw2Mode 2 0x200102 1 s = true ∧
        mayTakePart (session 2 s).party 0 0x200102 s = true ∧ rw2Conflict 0x200102 1 s = false ∧
        s.protection.proposals.length < 8) ∧
    (let s : State := { serviced .stop with protection.parties := [] };
      rw2Mode 2 0x200102 1 s = true ∧ mayTakePart (session 2 s).party 0 0x200102 s = false) ∧
    (serviced .standby).modes.mode = .standby ∧
    ((serviced .provision).modes.mode = .provision ∧ rw2Fits 0x300102 (List.replicate 16 1) = true) ∧
    (∀ p ∈ (serviced .stop).protection.proposals, p.number ≠ 1) ∧
    (let s : State := { serviced .stop with protection.proposals := [coldRestart 2] };
      s.protection.proposals = [coldRestart 2] ∧ max s.network.time.now 0 < (coldRestart 2).madeAt + 60000000000 ∧
        s.supply.powerFail = false ∧ s.modes.restartPending = false ∧ hasRight (session 2 s).party 1 s = true ∧
        (session 2 s).party ≠ (coldRestart 2).proposer ∧ (session 2 s).party = (coldRestart 1).proposer) ∧
    ({ serviced .stop with protection.stage := .proposed } : State).protection.stage = .proposed := by decide

/-- RuleSetCommits. -/
theorem premises_RuleSetCommits :
    (let s : State := { inMode .stop with protection.stage := .waiting };
      s.protection.stage = .waiting ∧ solving s.modes.mode = false) ∧
    ({ inMode .stop with protection.stage := .draining } : State).protection.stage = .draining ∧
    ((inMode .stop).protection.stage = .open ∧ (inMode .stop).protection.stage ≠ .draining) := by decide
/-! ### Premises: network, stations, doors -/

/-- A module whose network island runs, with a port 1. -/
def onNet (m : Mode) (p : Port) : State := up 4 { inMode m with network.ports := [(1, p)] }

/-- A frame for ring A of the module, of another source. -/
def toModule : EthFrame :=
  { source := Config.ringMac false + 1, dest := Config.ringMac false, hsrSeq := 7, supervision := false, priority := none
    etherType := 0x0806, length := 64, payload := [], mark := 0 }

/-- RingsAndLinks: a frame of another source is not the module's own. -/
theorem premises_RingsAndLinks_source : toModule.source ≠ Config.ringMac (ringOf 1) := by
  show Config.ringMac false + 1 ≠ Config.ringMac false
  generalize Config.ringMac false = m
  bv_omega

/-- RingsAndLinks: a copy that has come before. -/
theorem premises_RingsAndLinks_seen :
    isSeen (ring false { State.reset with network.ringA.seen := [(toModule.source, 7, [2])] }) toModule = true := by
  simp [isSeen, ring, toModule]

/-- RingsAndLinks. -/
theorem premises_RingsAndLinks :
    (islandUp 4 (onNet .solo { link := 1 }) = true ∧ (port 1 (onNet .solo { link := 1 })).link ≠ 0 ∧ 1528 < 1529) ∧
    (toModule.length ≤ 1528 ∧ toModule.etherType ≠ 0x88F7 ∧ toModule.supervision = false ∧
      passesOn toModule (onNet .solo { link := 1 }) = true ∧ crossingOpen 7 (onNet .solo { link := 1 }) = false ∧
      crossingOpen 7 (opened 7 (onNet .solo { link := 1 })) = true ∧ (ring false (onNet .solo { link := 1 })).seen = []) ∧
    (let s : State := { opened 7 (onNet .solo {}) with nsp.inForce.nums := [(ekey 0x1021 1 0 0, 77)] };
      nspUp s = true ∧ crossingOpen 7 s = true ∧ (77 : BitVec 32) ≠ 0 ∧ ringAddress s.nsp.inForce false = 77 ∧ ringAddress s.nsp.inForce true ≠ 77) := by decide

/-- A frame on a port, in a launch group or in none. -/
def txFrame (l : Option (Nat × Nat)) : TxFrame :=
  { ring := false, dest := none, etherType := 0x88B6, priority := none, length := 100, payload := [], launch := l }

/-- GatesAndLaunches. -/
theorem premises_GatesAndLaunches :
    (islandUp 4 (onNet .solo { link := 1 }) = true ∧ (port 1 (onNet .solo { link := 1 })).link = 1) ∧
    (let s := onNet .solo { link := 1, pendingGates := some ({}, 500) };
      (port 1 s).pendingGates = some ({}, 500) ∧ 500 ≤ timeAt s (max s.network.time.now 500) ∧
        timeAt s (max s.network.time.now 499) < 500) ∧
    (let s := onNet .solo { link := 1, bank0 := [txFrame (some (1, 500))] };
      (port 1 s).bank0 = [txFrame (some (1, 500))] ∧ (port 1 s).bank1 = [] ∧ (txFrame (some (1, 500))).launch = some (1, 500) ∧
        timeAt s (max s.network.time.now 499) ≤ 500 ∧ 500 ≤ timeAt s (max s.network.time.now 499) + guardNs 1 ∧
        500 ≤ timeAt s (max s.network.time.now 500) ∧ frameFree s (txFrame (some (1, 500))) = true ∧
        (port 1 s).line = none ∧ s.modes.mode ≠ .handover) ∧
    (let s := onNet .solo { link := 1, line := some (txFrame none) };
      (port 1 s).line = some (txFrame none) ∧ (port 1 s).bank0 = [] ∧ (port 1 s).bank1 = [] ∧ (port 1 s).queues = []) := by
  decide

/-- A module whose time base is in some state. -/
def timed (m : Mode) (x : TimeBase) : State := up 6 (up 4 { inMode m with network.time := x })

/-- TimeBase. -/
theorem premises_TimeBase :
    (let s := timed .solo { state := 2, selected := 1, domainA := { good := true } };
      domainRuns 1 s = true ∧ s.network.time.selected = 1 ∧ s.network.time.state = 2 ∧
        ((100 : Int) - s.network.time.offset).natAbs ≤ 100 ∧ 1000000 < ((1000001 : Int) - s.network.time.offset).natAbs ∧
        (domainOf 1 s).good = true ∧ (domainOf (otherDomain 1) s).good = false ∧ s.network.time.selected ≠ 2) ∧
    (let s := timed .stop { state := 1, selected := 1, within := 7 };
      s.network.time.state = 1 ∧ 7 ≤ s.network.time.within ∧ s.modes.mode = .stop) ∧
    (timed .solo { state := 3 }).network.time.state = 3 ∧
    (let s : State := { timed .solo { state := 2, selected := 2, now := 10000000000, domainA := { good := true } } with
        nsp.settings.nums := [(ekey 0x6020 4 0 0, 1)] };
      setPreferredDomain s.nsp.settings = 1 ∧ setRevertive s.nsp.settings = true ∧ (domainOf 1 s).good = true ∧
        (domainOf 1 s).goodSince + 10000000000 ≤ s.network.time.now ∧ s.network.time.selected = otherDomain 1 ∧
        (offsetFrom 1 s).natAbs ≤ 1000000) ∧
    (let s := timed .stop { selected := 1, domainA := { good := true } };
      s.modes.mode = .stop ∧ s.network.time.selected = 1 ∧ (domainOf 1 s).good = true) ∧
    (let s : State := { timed .solo {} with network.ports := [(1, { link := 1 })] };
      linkCarries (port 1 s) = true ∧ islandUp 4 s = true ∧ (cfgDomainPorts s.nsp.inForce 1).testBit 0 = true ∧
        domainRuns 1 s = true ∧ (domainOf 1 s).good = false ∧ 255 ≤ cfgPriority1 s.nsp.inForce 1) ∧
    cfgPriority1 { nums := [(ekey 0x6021 8 1 0, 254)] } 1 < 255 := by decide

/-- A module whose network island runs behind an open crossing, after step 5 of LOAD. -/
def heard (m : Mode) : State := opened 7 { timed m { state := 2 } with modes.loadStepsDone := true }

/-- A module with station 5 configured on ring A, in class S, as some record. -/
def withStation (m : Mode) (x : Station) : State :=
  { heard m with
    nsp.inForce.nums := [(ekey 0x8010 2 5 0, 1)]
    stations.stations := [(5, x)] }

/-- A frame of station 5. -/
def fromStation (kind : Nat) (payload : List Byte) : StationFrame :=
  { ring := false, source := 9, kind := kind, station := 5, seq := 3, session := 2, jersey := 4, cycle := 0, state := 0
    time := 0, payload := payload }

/-- StationFrames. -/
theorem premises_StationFrames :
    (islandUp 4 (timed .active {}) = true ∧ crossingOpen 7 (timed .active {}) = false) ∧
    (let s := opened 7 (timed .load {});
      islandUp 4 s = true ∧ crossingOpen 7 s = true ∧ s.modes.loadStepsDone = false) ∧
    (let s := withStation .active { session := some 2, seq := some 3 };
      islandUp 4 s = true ∧ crossingOpen 7 s = true ∧ s.modes.loadStepsDone = true ∧ isConfigured 5 s = true ∧ formOk kindAnnounce (fromStation 1 []) s = true ∧
        formOk kindInput (fromStation 2 []) s = true ∧ formOk kindEvent (fromStation 4 (List.replicate 16 0)) s = true ∧
        formOk kindLeaving (fromStation 5 []) s = true ∧ (station 5 s).session = some (fromStation 2 []).session ∧
        (station 5 s).seq = some (fromStation 2 []).seq) ∧
    (let s := withStation .active {};
      (station 5 s).session = none ∧ kindInput ≠ kindAnnounce ∧ formOk kindAnnounce (fromStation 1 []) s = true) ∧
    (let s := withStation .active { session := some 2, seq := some 2, state := .dropped };
      (station 5 s).session = some (fromStation 2 []).session ∧ (station 5 s).seq = some 2 ∧
        1 ≤ ((fromStation 2 []).seq - 2).toNat ∧ ((fromStation 2 []).seq - 2).toNat ≤ 32767 ∧
        (delayCheck (cfgStationClass s.nsp.inForce 5) (fromStation 2 []).time (timeAt s 0) s).2 = true ∧
        bufferLost 5 s = false ∧ s.modes.mode ≠ .standby ∧ s.pair.jersey < (fromStation 2 []).jersey ∧
        (loom (cfgStationClass s.nsp.inForce 5) s).intake.length < 1024) := by decide

/-- An INPUT frame as a buffer holds it, received at some instant. -/
def inputAt (t : Nat) : InputFrame := { cycle := 0, state := 0, jersey := 0, payload := [], stamp := t }

/-- StationDeadlinesAndGuests: the timeout at its instant and before, guests with and without a slot. -/
theorem premises_StationDeadlinesAndGuests :
    (let s := withStation .active { state := .inService, latest := some (inputAt 0) };
      islandUp 4 s = true ∧ (station 5 s).state = .inService ∧ (station 5 s).latest = some (inputAt 0) ∧
        (inputAt 0).stamp + 1000000 * cfgInputTimeout s.nsp.inForce 5 = 10000000) ∧
    ((station 5 (withStation .active {})).state = .absent ∧ (station 5 (withStation .active { state := .joining })).state = .joining) ∧
    (let s := heard .active;
      islandUp 4 s = true ∧ crossingOpen 7 s = true ∧ s.modes.loadStepsDone = true ∧ isConfigured 5 s = false ∧ formOk kindAnnounce (fromStation 1 []) s = true ∧ guestChecked s = false ∧
        slotOf 9 s = none ∧ freeSlot s = some 0 ∧ guest 0 s = none) ∧
    (let s : State := { heard .active with nsp.inForce.nums := [(ekey 0x2030 7 0 0, 0), (ekey 0x8030 8 0 0, 1)] };
      guestChecked s = true ∧ freeSlot s = none) ∧
    (let x : Guest := { ring := false, source := 9, number := 5, type := 0, serial := 0, auth := false };
      let s : State := { heard .active with stations.guests := [(0, some x)] };
      formOk kindInput (fromStation 2 []) s = true ∧ slotOf (fromStation 2 []).source s = some 0 ∧ guest 0 s = some x ∧
        x.number = (fromStation 2 []).station ∧ x.auth = false) := by decide

/-- A report, and an event of its key. -/
def aReport : LoomReport := { key := 8, reporter := 1, stamp := 0, severity := 2, arg := 0 }

/-- EventLoom. -/
theorem premises_EventLoom :
    (let s : State := { inMode .active with stations.loom := [(1, { intake := [aReport], events := [newEvent aReport] })] };
      mapWf {} s.stations.loom = true ∧ (∀ d, d < 1 → (loom d s).intake = []) ∧ (loom 1 s).intake = aReport :: [] ∧
        (loom 1 s).events.any (·.key == aReport.key) = true ∧ classCode .a = 1 ∧ (loom 1 s).events = [newEvent aReport] ∧
        (loom 1 s).ring.length < 1024 ∧ (9 : BitVec 32) ≠ (newEvent aReport).key) ∧
    (let s : State := { inMode .active with
        stations.loom := [(0, { intake := [aReport] })]
        nsp.sessions := [(2, { phase := .isOpen })] };
      (loom 0 s).intake = aReport :: [] ∧ (loom 0 s).events.any (·.key == aReport.key) = false ∧
        (loom 0 s).events.length < setOpenSlots s.nsp.settings 0 ∧ (loom 0 s).opened = [] ∧
        0 < setEventBudget s.nsp.settings 0 ∧ (session 2 s).phase = .isOpen ∧ loomClass 2 s = 0) ∧
    (let s : State := { inMode .active with nsp.settings.nums := [(ekey 0x8040 5 0 0, 0)] };
      setOpenSlots s.nsp.settings 0 ≤ (loom 0 s).events.length) := by decide

/-- Descriptor bytes of receive object 0: an 11-bit identifier 0x100, classic frames of 2 bytes without an envelope
(Table 14-4). -/
def rxObject : List Byte := leBytes 4 0x100 ++ leBytes 4 0x7FF ++ leBytes 4 0x40010000 ++ leBytes 4 0 ++ leBytes 4 0

/-- A module with door channel 1 in a mode, as some record, with an object. -/
def withDoor (m : Mode) (mode : Int) (x : Channel) : State :=
  up 5 { inMode m with
    nsp.inForce.nums := [(ekey 0x7000 2 1 0, mode), (ekey 0x7020 1 1 0, 1)]
    nsp.inForce.blobs := [(ekey 0x7010 2 1 0, rxObject)]
    doors.channels := [(1, x)]
    modes.loadStepsDone := true }

/-- A CAN frame. -/
def canFrame (id : BitVec 29) (data : List Byte) : CanFrame :=
  { ide := false, fdf := false, brs := false, remote := false, id := id, data := data }

/-- DoorReception: a frame of no object, one that object 0 takes, one of the wrong length. -/
theorem premises_DoorReception :
    busLive 1 (withDoor .active 1 {}) = false ∧
    (let s := withDoor .active 1 { state := 1, recCount := 95 };
      busLive 1 s = true ∧ crossingOpen 8 s = false ∧ crossingOpen 8 (opened 8 s) = true ∧
        reservedId s.nsp.inForce 1 (canFrame 0x101 []) = false ∧
        (offeredObjects s.nsp.inForce 1).find? (fun x => matchesObject x.2.2 (canFrame 0x101 [])) = none ∧
        (offeredObjects s.nsp.inForce 1).find? (fun x => matchesObject x.2.2 (canFrame 0x100 [1, 2])) =
          some (1, 0, parseDesc rxObject) ∧
        (parseDesc rxObject).envelope = false ∧ frameLength (parseDesc rxObject) = 2 ∧
        checkDoor (parseDesc rxObject) (doorObject 1 0 s) [1] true 0 0 = .rejected ∧ 95 ≤ (channel 1 s).recCount) ∧
    checkDoor { parseDesc rxObject with envelope := true, fdf := true } { seq := 5, seqValid := true }
      ([0x10, 5] ++ List.replicate 9 0 ++ [2] ++ List.replicate 12 0) true 0 0 = .duplicate := by decide

/-- A queued door message. -/
def doorMsg (x : Option Nat) : DoorMsg :=
  { home := 1, object := 0, twin := false, seq := 1, data := [1, 2], id := 0x100, launch := none, expiry := x, cycle := 0 }

/-- DoorSending. -/
theorem premises_DoorSending :
    (let s : State := { withDoor .active 1 { state := 1, queue := [doorMsg (some 500)], tecCount := 248 } with
        cycle.releasedCycle := some 0 };
      doorSends s = true ∧ onBus (channel 1 s) = true ∧ (channel 1 s).sending = none ∧ (channel 1 s).queue = [doorMsg (some 500)] ∧
        (channel 1 s).twinQueue = [] ∧ (doorMsg (some 500)).launch = none ∧ cycleReleased (doorMsg (some 500)).cycle s = true ∧
        cfgChannelMode s.nsp.inForce 1 ≠ 2 ∧ (channel 1 s).state = 1 ∧ 247 < (channel 1 s).tecCount ∧
        queuedMessage 1 0 s = some (doorMsg (some 500)) ∧ 500 ≤ timeAt s (max s.network.time.now 500) ∧
        timeAt s (max s.network.time.now 499) < 500 ∧ (doorObject 1 0 s).acked ≠ some (doorMsg none).seq ∧
        mapWf {} s.doors.channels = true) ∧
    (let s := withDoor .active 1 { state := 1, sending := some (doorMsg none), queue := [doorMsg none] };
      busLive 1 s = true ∧ (channel 1 s).sending = some (doorMsg none) ∧ (doorMsg none).home = 1 ∧ (doorMsg none).twin = false) ∧
    (let s := withDoor .active 1 {};
      islandUp 5 s = true ∧ channelUsed (pairConfig s) 1 = true ∧ (channel 1 s).state = 0 ∧ (channel 1 s).tecCount < 96 ∧
        (channel 1 s).recCount < 96) ∧
    ((channel 1 (withDoor .active 1 { state := 4 })).state = 4 ∧ (channel 1 (withDoor .active 1 { state := 3 })).state = 3 ∧
      96 ≤ (channel 1 (withDoor .active 1 { tecCount := 96 })).tecCount) := by decide

/-- DoorTimeAndService: mastership, another master, a column with an exclusive receive cell. -/
theorem premises_DoorTimeAndService :
    (busLive 1 (withDoor .active 2 { state := 1 }) = true ∧ takesMastership 1 (withDoor .active 2 { state := 1 }) = true ∧
      takesMastership 1 (withDoor .stop 2 { state := 1 }) = false) ∧
    (let s := withDoor .active 2 { state := 1 };
      0 ≤ cfgCycleCountMax s.nsp.inForce 1 ∧ (channel 1 s).time.master ≠ 1 ∧ (channel 1 s).service = none ∧
        crossingOpen 8 (opened 8 s) = true ∧ timeChannel s.nsp.inForce 1 = true ∧ timeChannel s.nsp.inForce 2 = false) ∧
    (let s : State := { withDoor .active 2 { state := 1 } with
        nsp.inForce.blobs := [(ekey 0x7010 2 1 0, rxObject), (ekey 0x7021 1 1 0, leBytes 4 0 ++ leBytes 4 0x40000000),
          (ekey 0x7021 2 1 0, leBytes 4 0 ++ leBytes 4 9)] };
      cfgChannelMode s.nsp.inForce 1 = 2 ∧ columnMark s.nsp.inForce 1 1 ≠ 0 ∧
        (matrixCell s.nsp.inForce 1 (channel 1 s).time.cycleCount 1).1 = 1 ∧
        (doorDesc s.nsp.inForce 1 (matrixCell s.nsp.inForce 1 (channel 1 s).time.cycleCount 1).2).dir = 1) := by decide
/-! ### Premises: NSP, firmware and quilt -/

/-- An open session 3 of party 1 with the right to propose, over the front service connector. -/
def inSession (m : Mode) (x : Session) : State :=
  up 2 { inMode m with
    front.fsAttached := true
    protection.lifecycle := .inService
    protection.parties := [(1, { enabled := true, rights := 1 })]
    nsp.sessions := [(3, { x with phase := .isOpen, party := 1, carrier := some .fs })] }

/-- No other session holds a request. -/
theorem nothing_held (m : Mode) (x : Session) (h : x.held = []) (n : Nat) : (session n (inSession m x)).held = [] := by
  show (mapVal ({} : Session) n [(3, { x with phase := .isOpen, party := 1, carrier := some .fs })]).held = []
  simp only [mapVal]
  split
  · exact h
  · rfl

/-- A request with a body. -/
def requestBody (b : List Byte) : NspReq := { request3 with frameLength := 32 + b.length, length := b.length, body := b }

/-- NspFrameChecks. -/
theorem premises_NspFrameChecks :
    carrierUp .fs (inMode .solo) = false ∧
    (carrierUp .fs (inSession .solo {}) = true ∧ unanswerable .fs (inSession .solo {}) = false ∧
      badFrame { request3 with version := 2 } = true ∧ badFrame request3 = false) ∧
    (let r : NspReply := { op := 1, session := 3, seq := 1, status := 0 };
      let s := inSession .solo { recent := [(1, some r)] };
      request3.session < 16 ∧ (session 3 s).phase = .isOpen ∧ sameSource (session 3 s).carrier (.door 1) = false ∧
        sameSource (session 3 s).carrier request3.carrier = true ∧ request3.cmacOk = true ∧ isReply request3 = false ∧
        (session 3 s).recent = (request3.seq, some r) :: [] ∧ (∀ p ∈ (session 3 (inSession .solo {})).recent, p.1 ≠ request3.seq)) ∧
    (let d : NspReply := { op := 2, session := 3, seq := 0, status := 0 };
      let s := inSession .solo { deferred := [(true, d)] };
      seqAhead request3.seq (session 3 s).highest = true ∧ (session 3 s).deferred = [(true, d)] ∧
        seqAhead 0x8000 (session 3 s).highest = false) := by decide

/-- SessionReads, SessionWrites: a request that starts at once. -/
theorem premises_startsAtOnce (m : Mode) (b : List Byte) (hb : b.length ≤ 7)
    (hm : nspUp (inSession m {}) = true) : startsAtOnce (requestBody b) (inSession m {}) := by
  have e : 24 + b.length + 8 = 32 + b.length := by omega
  refine ⟨⟨?_, rfl, ?_⟩, by show 3 < 16; omega, rfl, rfl, rfl, ?_, ?_, ?_, rfl, nothing_held m {} rfl⟩
  · simp only [carrierUp, requestBody, request3, hm]
    rfl
  · have h1 : ¬ 32 + b.length < 24 := by omega
    have h2 : ¬ 1472 < 32 + b.length := by omega
    have h3 : ¬ 1440 < b.length := by omega
    simp [badFrame, requestBody, request3, e, h1, h2, h3]
  · show (0 : BitVec 8).getLsbD 0 = false
    decide
  · intro p hp
    cases hp
  · show seqAhead 1 0 = true
    decide

/-- SessionReads. -/
theorem premises_SessionReads :
    (nspUp (inSession .solo {}) = true ∧ nspUp (inSession .standby {}) = true ∧
      (inSession .solo {}).protection.lifecycle = .inService ∧ badFields opKeepalive request3 = false) ∧
    (badFields opRead { request3 with index := 0x2000, sub := 1 } = false ∧ entryAt 0x2000 0x7F = none ∧
      (entryAt 0x2000 0x01).isSome = true ∧ badFields opDescribe { request3 with index := 0x2000, sub := 1 } = false) ∧
    (let q := requestBody [1, 0x00, 0x20, 0x01];
      badFields opGroupRead q = false ∧ q.body = [1, 0x00, 0x20, 0x01]) ∧
    (let q := { request3 with offset := 0x60000, total := 2 };
      let s := opened 1 (inSession .solo {});
      badFields opDataRead q = false ∧ dataRefusal opDataRead q = none ∧ windowClosed 1 s = false ∧ s.modes.mode ≠ .standby ∧
        slotOwned s = false ∧ slotOwned { s with cycle.phase := .xch } = true) := by
  decide

/-- SessionReads: no line of the data store has a symbol in error. -/
theorem premises_SessionReads_lines (n : Nat) : upsetOf 0 n (opened 1 (inSession .solo {})) = 0 := rfl

/-- SessionWrites. -/
theorem premises_SessionWrites :
    (let q := { requestBody [1] with index := 0x1010, sub := 5 };
      badFields opWrite q = false ∧ isSelector (q.index.toNat * 256 + q.sub.toNat) = false ∧
        hasRight (session 3 (inSession .solo {})).party 0 (inSession .solo {}) = true ∧ q.body = [1] ∧
        shadowFrozen (inSession .solo {}) = false) ∧
    (let s : State := { inSession .solo {} with protection.parties := [(1, { enabled := true })] };
      (session 3 s).party ≠ 0 ∧ hasRight (session 3 s).party 0 s = false ∧ hasRight (session 3 s).party 1 s = false) ∧
    (badFields opWrite { requestBody [1] with index := 0x2000, sub := 1 } = false ∧
      isSelector (0x2000 * 256 + 1) = false ∧ isSelector (0x2000 * 256 + 0x7F) = false) ∧
    badFields opGroupWrite (requestBody [1, 0x10, 0x80, 0x01, 2, 5, 0]) = false ∧
    (let q := { requestBody [1, 0, 0] with offset := 0x60000, total := 1 };
      badFields opDataWrite q = false ∧ dataRefusal opDataWrite q = none ∧
        (∀ h ∈ hostWritesOf false q.offset q.total q.body, isWritable (inSession .solo {}).nsp.inForce h.address = true) ∧
        (inSession .solo {}).cycle.hostWrites.length + 1 ≤ 4096) ∧
    (let q := { requestBody [1, 0, 0, 1, 0, 0] with offset := 0x100, total := 1 };
      badFields opDataMasked q = false ∧ dataRefusal opDataMasked q = none ∧
        ∃ h ∈ hostWritesOf true q.offset q.total q.body, isWritable (inSession .solo {}).nsp.inForce h.address = false) ∧
    (badFields opClose request3 = false ∧ badFields opAbort request3 = false ∧ mapWf {} (inSession .solo {}).nsp.sessions = true) := by
  decide

/-- An OPEN of a party. -/
def openOf (p : Byte) : NspReq :=
  { request3 with session := 0xFF, frameLength := 44, length := 20, body := p :: List.replicate 19 0 }

/-- SessionsOpenAndEnd. -/
theorem premises_SessionsOpenAndEnd :
    (let s := inSession .solo {};
      carrierUp .fs s = true ∧ badFrame (openOf 1) = false ∧ isReply (openOf 1) = false ∧ badFields opOpen (openOf 1) = false ∧
        slice 1 3 (openOf 1).body = [0, 0, 0] ∧ mayOpen (byteAt 0 (openOf 1).body).toNat .fs s = true ∧
        mayOpen (byteAt 0 (openOf 2).body).toNat .fs s = false ∧ freeSession s = some 0) ∧
    freeSession { inMode .solo with nsp.sessions := (List.range 16).map fun n => (n, { phase := .isOpen }) } = none ∧
    (let s : State := { inSession .solo {} with
        nsp.sessions := [(3, { phase := .opening, party := 1, carrier := some .fs })]
        nsp.failedProves := [(1, [5, 4])] };
      (session 3 s).phase = .opening ∧ sameSource (session 3 s).carrier request3.carrier = true ∧
        badFields opProve request3 = false ∧ ({ request3 with cmacOk := false } : NspReq).cmacOk = false ∧
        mapWf {} s.nsp.sessions = true ∧ (∀ p ∈ s.nsp.sessions, p.2.deferred = []) ∧
        mapVal [] (session 3 s).party s.nsp.failedProves = 5 :: 4 :: [] ∧
        max s.network.time.now 9 - 4 ≤ 60000000000) ∧
    ((session 3 (inSession .solo {})).phase = .isOpen ∧ (session 4 (inSession .solo {})).phase ≠ .isOpen) ∧
    (nspUp (inMode .solo) = true ∧ shadowFrozen (inMode .solo) = false ∧
      shadowFrozen { inMode .solo with nsp.commit := .held } = true) := by decide

/-- A firmware image of one byte for this module: magic, header version, module type, architecture revision, security version
`v`, every hardware revision, formats 1, length, signature algorithm 1 (Table 18-2). -/
def imageFile (v : Nat) : List Byte :=
  [0x53, 0x4C, 0x46, 0x57, 0x01, 0x60] ++ leBytes 2 Config.architectureRevision.toNat ++ leBytes 4 0 ++ leBytes 4 v ++
    [0x00, 0xFF] ++ leBytes 4 0 ++ leBytes 2 1 ++ leBytes 2 1 ++ leBytes 2 1 ++ leBytes 2 1 ++ leBytes 2 1 ++ leBytes 4 1 ++
    [1] ++ List.replicate 27 0 ++ List.replicate 97 0

/-- The architecture revision of that image is the module's. -/
theorem imageFile_archRev (v : Nat) : (parseHeader (imageFile v)).archRev = Config.architectureRevision.toNat := by
  have h := Config.architectureRevision.isLt
  simp only [parseHeader, imageFile, leBytes, Machine.fieldLe, slice, ofLe, List.cons_append, List.nil_append, List.drop_succ_cons, List.drop_zero,
    List.take_succ_cons, List.take_zero, BitVec.toNat_ofNat]
  omega

/-- FirmwareAndPairUpdate: the image passes its form, its type and its hardware revision. -/
theorem premises_FirmwareAndPairUpdate_header :
    badForm (imageFile 0) = false ∧ byteAt 5 (imageFile 0) = 0x60 ∧ byteAt 16 (imageFile 0) ≤ Config.hardwareRevision ∧
      Config.hardwareRevision ≤ byteAt 17 (imageFile 0) ∧ byteAt 36 (imageFile 0) ≤ 1 ∧
      (parseHeader (imageFile 0)).security < 1 := by
  refine ⟨rfl, rfl, ?_, ?_, by decide, by decide⟩
  · have e : byteAt 16 (imageFile 0) = 0 := rfl
    rw [e]
    bv_omega
  · have e : byteAt 17 (imageFile 0) = 0xFF := rfl
    rw [e]
    bv_omega

/-- FirmwareAndPairUpdate: the image passes every check. -/
theorem premises_FirmwareAndPairUpdate_verdict : stagingVerdict (imageFile 0) true true true (inMode .stop) = 0 := by
  have h := premises_FirmwareAndPairUpdate_header
  unfold stagingVerdict
  simp only [imageFile_archRev, h.1, h.2.1, ne_eq, not_true, or_self, if_false, Bool.false_eq_true]
  rw [if_neg (by have := h.2.2; simp only [not_or, BitVec.not_lt]; exact ⟨this.1, this.2.1⟩)]
  rfl

/-- FirmwareAndPairUpdate. -/
theorem premises_FirmwareAndPairUpdate :
    (let s := inMode .stop;
      s.firmware.staging = 0 ∧ (session 2 s).transfer = none ∧ stagingMode s = true ∧ s.firmware.trial = false ∧
        s.firmware.slot0.role = .empty ∧ stagingMode (inMode .off) = false ∧ s.firmware.pairState = 0) ∧
    (let s : State := { inMode .stop with firmware.staging := 2, firmware.bySession := some 2 };
      s.firmware.staging = 2 ∧ imageLost { s with hub.transitLost := true } = true ∧ imageLost s = false ∧ s.firmware.target = 0 ∧
        s.firmware.bySession.isSome = true ∧ s.firmware.slot1.role ≠ .staged ∧
        stagingVerdict [] true true true s ≠ 0) ∧
    (let s : State := { inMode .stop with firmware.slot0.role := .staged };
      updateRuns s = false ∧ s.firmware.slot0.role = .staged) ∧
    (let s : State := { inMode .standby with firmware.trial := true, firmware.pairState := 1 };
      s.firmware.trial = true ∧ s.modes.mode = .standby ∧ s.firmware.pairState = 1 ∧ updateRuns s = true) := by decide

/-- A record of the quilt. -/
def aRecord : QuiltRecord := { severity := 1, length := 24, seq := 0, seconds := 0, powerCycles := 0, body := .lost 1 }

/-- QuiltRecorder. -/
theorem premises_QuiltRecorder :
    ((inMode .solo).front.powerGood = false ∧ (inMode .solo).quilt.flushing = false ∧ (inMode .solo).quilt.buffer = []) ∧
    (let s : State := { inMode .fault with quilt.buffer := [aRecord], quilt.flushing := true, front.powerGood := true, modes.cause := 0x1103 };
      s.quilt.buffer = [aRecord] ∧ s.quilt.queue = [] ∧ s.quilt.lostDue = 0 ∧ s.quilt.blocks = [] ∧ s.quilt.flushing = true ∧
        recordsBytes s.quilt.buffer < 65536 ∧ s.modes.cause = 0x1103 ∧ s.supply.powerFail = false ∧
        s.quilt.counters.1.writes ≤ s.quilt.counters.2.writes) ∧
    (let b : QuiltBlock := { seq := 4, severity := 1, openedAt := 0, isOpen := true, records := [] };
      let s : State := { inMode .fault with quilt.buffer := [aRecord], quilt.flushing := true, quilt.blocks := [(2, some b)] };
      openBlock aRecord.severity s.quilt = some (2, b) ∧ 32 + recordsBytes b.records + aRecord.length ≤ 4096) ∧
    ((session 3 (inSession .solo {})).phase = .isOpen ∧ (session 4 (inSession .solo {})).phase ≠ .isOpen) := by decide
/-! ### Ill-formed commands -/

/-- An image without a plan. -/
def noPlan : Image := { endImage with plans := [] }

/-- Numbers wider than their field and lists of the wrong length (Table 8-1, Table 8-3, R241 to R243, R405). -/
theorem test_wellFormed_numbers_and_lists :
    wellFormed (.selftestCheckDone .seam true (2 ^ 32)) = false ∧ wellFormed (.clockMonitorInterval [1]) = false ∧
    wellFormed (.clockDeviationCheck []) = false ∧ wellFormed (.railSample [1, 2, 3, 4, 5]) = false ∧
    wellFormed (.junctionRead [40]) = false ∧ wellFormed (.supervisorReadback 0 []) = false ∧ wellFormed (.aiSample [0]) = false ∧
    wellFormed (.hello 0 { fromPartner 7 5 .none with kind := 256 }) = false ∧
    wellFormed (.heartbeat .seam { fromPartner 1 5 .none with mode := 256 } true 0) = false ∧
    wellFormed (.seamBlockReceived 0 (seamBlock 2 (List.replicate 1025 0)) true 0) = false := by decide

/-- Images, transfers and frames that no format allows (R92, R96, Table 15-1, R356). -/
theorem test_wellFormed_images_and_frames :
    wellFormed (.changeImageWrite noPlan) = false ∧ wellFormed (.changeImageWrite image2) = false ∧
    wellFormed (.changeImageWrite { endImage with code := [(1048576, 0)] }) = false ∧ wellFormed (.serviceTransferReceived (.changeImage noPlan) true) = false ∧
    wellFormed (.serviceTransferReceived (.configuration 0 65536 [] []) true) = false ∧
    wellFormed (.announce { fromStation 1 [] with kind := 256 } true 0) = false ∧
    wellFormed (.guestInput (fromStation 2 (List.replicate 1457 0)) true 0) = false ∧
    wellFormed (.canFrameReceived 0 (canFrame 2048 []) true 0) = false ∧
    wellFormed (.canFrameReceived 0 (canFrame 1 (List.replicate 9 0)) true 0) = false := by decide

/-- Hub requests, locks, NSP requests and segments (Table 10-2, R259, R264, Table 17-4, R436). -/
theorem test_wellFormed_requests :
    wellFormed (.hubRequest { master := 0x4C, write := false, address := 0, size := 4, data := [] } 0) = false ∧
    wellFormed (.hubRequest { master := 0x53, write := true, address := 0, size := 4, data := [1] } 0) = false ∧
    wellFormed (.scrubStep 0 [1, 1]) = false ∧
    wellFormed (.fixed15Revoke 0 { port := 0, master := 0x42, lines := 1, tick := 6 } 5) = false ∧
    wellFormed (.arbiterDecision 0 [{ port := 1, master := 0x100000000, lines := 1, tick := 0 }] false 5) = false ∧ wellFormed (.lockTry 0x90 0) = false ∧
    wellFormed (.registerWrite 0x80 0 0) = false ∧ wellFormed (.nspRead { request3 with length := 1 } 0) = false ∧
    wellFormed (.openS { request3 with version := 256 } 0 0) = false ∧
    wellFormed (.firmwareImageWrite 0 0 10 [1] true) = false ∧ wellFormed (.debugPortAccess true (some 0) [] 4) = false := by decide

/-- Commands that can reach the module pass. -/
theorem test_wellFormed_accepts :
    wellFormed (.clockMonitorInterval healthy) = true ∧ wellFormed (.nspRead request3 0) = true ∧
    wellFormed (.changeImageWrite endImage) = true ∧ wellFormed (.lockTry 0x83 80) = true ∧ wellFormed (.hello 0 (fromPartner 7 5 .none)) = true ∧
    wellFormed .start = true := by decide

/-! ### Single values and single steps -/

/-- An outcome is a next state with a property. -/
def goes (p : State → Bool) : Host.Outcome State Fault Refusal → Bool
  | .next s => p s
  | _ => false

/-- Slot 13 and slot 12: the straps of the worked case under R33. -/
theorem test_slot_identity :
    slotIdentityValid 0b1001101 = true ∧ slotIdentityValid 0b0001100 = true ∧ slotIdentityValid 0b1001100 = false ∧
      partnerSlotOf { State.reset with front.straps := 0b1001101 } = some 12 := by decide

/-- AES of FIPS 197: the S-box at 0x53, the first column of the mixed state 0xDB135345 (8E4DA1BC), and the first round key after
2B7E1516 28AED2A6 ABF71588 09CF4F3C (assumption log 8). -/
theorem test_aes :
    aesSub 0x53 = 0xED ∧ (aesMix ([0xDB, 0x13, 0x53, 0x45] ++ List.replicate 12 0)).take 4 = [0x8E, 0x4D, 0xA1, 0xBC] ∧
    aesNextKey [0x2B, 0x7E, 0x15, 0x16, 0x28, 0xAE, 0xD2, 0xA6, 0xAB, 0xF7, 0x15, 0x88, 0x09, 0xCF, 0x4F, 0x3C] 1 =
      [0xA0, 0xFA, 0xFE, 0x17, 0x88, 0x54, 0x2C, 0xB1, 0x23, 0xA3, 0x39, 0x39, 0x2A, 0x6C, 0x76, 0x05] := by decide

/-- A line stands at the address that it was written to, and at no other (R244). -/
theorem test_line_code :
    lineIntact 0x1234 (List.replicate 20 0x5A ++ lineCheck 0x1234 (List.replicate 20 0x5A)) = true ∧
    lineIntact 0x1235 (List.replicate 20 0x5A ++ lineCheck 0x1234 (List.replicate 20 0x5A)) = false := by decide

/-- A boundary past the bound of its cycle is not taken; the cycle watchdog acts there (R169, R175). -/
theorem test_boundary_past_bound :
    goes (fun t => t.cycle.counter == 0) (exec (.cycleBoundary 1 []) { inPhase .output with cycle.outputQueued := true }) = true := by
  decide

/-- An access of the data store waits in the XCH phase and is done in the solve phase (R154). -/
theorem test_hub_slot :
    (let r : HubAccess := { master := 0x55, write := true, address := 0x310000000, size := 4, data := [7, 0, 0, 0] };
      goes (fun t => storeAt 0 t == 0 && t.hub.waiting.length == 1) (exec (.hubRequest r 0) (opened 1 (hubUp (inPhase .xch)))) = true ∧
      goes (fun t => storeAt 0 t == 7 && t.hub.waiting.isEmpty) (exec (.hubRequest r 0) (opened 1 (hubUp (inPhase .solve)))) = true ∧
      goes (fun t => storeAt 0 t == 7 && t.hub.waiting.isEmpty)
        (exec .xchPhaseEnd { opened 1 (hubUp (inPhase .xch)) with hub.waiting := [(r, 0)] }) = true) := by decide

/-- A command waits in the queue, and an empty queue idles (log entry 3). -/
theorem test_step_takes_the_front :
    goes (fun s => s.front.identifySeconds == 9 && s.pending.length == 1)
      (step { inMode .solo with pending := [.identify 9, .lampTest] }) = true ∧
    goes (fun s => s.pending.isEmpty) (step State.reset) = true := by decide

/-- Bit q of digital output W#0x01234.17 is point 93,217 with its quality in W#0x0C469, bits [15:14] (worked case under R111). -/
theorem test_quality_word : pointAt 0x01234 17 = 93217 ∧ qualityWord 93217 = 0x0C469 ∧ 2 * (93217 % 10) = 14 := by decide

/-- AND.N W#0x00140.5 is 0x0A_5800_0140: opcode 0x05, bit 5, N (worked case under R126), and legal. -/
theorem test_instruction_word :
    (decodeCode 0x0A58000140).map (fun p => (p.2.op, p.1.bit, p.1.n)) = some (0x05, 5, true) := by decide

/-- A TON of base 10 ms at ELAPSED 49, RESIDUAL 9,500 advances by 842 µs to 50 and 342 (worked case under R116). -/
theorem test_timer_advance :
    timerAdvance 842 10000 { run := true, q := false, inPrev := true, elapsed := 49, residual := 9500 } =
      { run := true, q := false, inPrev := true, elapsed := 50, residual := 342 } := by decide

/-- SCL with parameters 0, 32,000, −500 and 1,500 gives 271 for 12,345, and 40,000 is clamped to 1,500 with ACC 1
(worked case under R137). -/
theorem test_scale :
    (let s : State := { running 0 { wa := 12345 } with solver.store := [(0x90001, 32000), (0x90002, 0xFFE0C), (0x90003, 1500)] };
      goes (fun t => (laneAt 0 t).wa == 271 && (laneAt 0 t).acc == false && (laneAt 0 t).sat == false)
        (exec (.scl 0 false true { word := 0x90000 }) s) = true ∧
      goes (fun t => (laneAt 0 t).wa == 1500 && (laneAt 0 t).acc)
        (exec (.scl 0 false true { word := 0x90000 }) (withLane 0 { laneAt 0 s with wa := 40000 } s)) = true) := by decide

/-- ADD saturates at the upper bound of S20, and as U20 does not (R90). -/
theorem test_add_saturates :
    goes (fun t => (laneAt 0 t).wa == 524287 && (laneAt 0 t).sat) (exec (.add 0 false) (running 0 { wa := 524287, wb := 1 })) = true ∧
    goes (fun t => (laneAt 0 t).wa == 524288 && (laneAt 0 t).sat == false)
      (exec (.add 0 true) (running 0 { wa := 524287, wb := 1 })) = true := by decide

/-- The most negative S20 number has no opposite: NEG gives the nearer bound (R90). -/
theorem test_neg_saturates :
    goes (fun t => (laneAt 0 t).wa == 524287 && (laneAt 0 t).sat) (exec (.neg 0 false) (running 0 { wa := 0x80000 })) = true := by
  decide

/-- A store and a load of one bit leave its neighbours as they were (R127). -/
theorem test_store_bit :
    goes (fun t => storeAt 0x90000 t == 0x00021) (exec (.st 0 false { word := 0x90000, bit := 5 })
      { running 0 { acc := true } with solver.store := [(0x90000, 1)] }) = true := by decide

/-- A journal record of 2,000 words is 10,016 bytes (worked case under R117). -/
theorem test_mirror_record : mirrorBytes (record 2000) = 10016 := by
  simp [mirrorBytes, record]

/-- The admitted weft frame of 12,000 words and 960 commands, and its seam costs (R162, R166). -/
theorem test_seam_cost : seamTwo 10 = 4 ∧ seamOne 10 = 8 := by decide

/-- Hub address 0x2_4000_0000 lies on channel 0, and the next 4,096 bytes on channel 1 (worked case under R263). -/
theorem test_dram_channel : dramChannel 0x240000000 = 0 ∧ dramChannel 0x240001000 = 1 := by decide

/-- The bank of 1,800 µF lasts 33.5 ms at 46 W, and 1,100 µF last 20.5 ms (worked case under R48; unit 0.1 ms). -/
theorem test_hold_up :
    holdUpTime { State.reset with supply.capacitance := 1800 } = 335 ∧
      holdUpTime { State.reset with supply.capacitance := 1100 } = 205 := by decide

/-- Analogue input 3 with Z +40 and S −120 reads 479,960 and 4,999 at a raw mean of 480,000 (worked case under R406). -/
theorem test_analogue_input :
    (let s : State := { inMode .solo with
        localIo.zero := [(3, 40)]
        localIo.span := [(3, -120)]
        nsp.inForce.nums := [(ekey 0x9010 2 3 0, 0), (ekey 0x9010 3 3 0, 0), (ekey 0x9010 4 3 0, 10000)] };
      corrected 3 480000 s = 479960 ∧ scaledInput 3 479960 s = 4999) := by decide

/-- A frame of 64 bytes lasts 34 nominal and 678 data-phase bits (worked case under R377). -/
theorem test_door_frame_bits :
    frameBits { parseDesc rxObject with fdf := true, brs := true } 64 = (34, 678) := by decide

/-- Engine 5 holds locks 70 and 90 and asks for 80: OUT_OF_ORDER; without 90 it waits (worked case under R283). -/
theorem test_lock_order :
    goes (fun t => t.hub.answer == leBytes 4 0x11) (exec (.lockTry 0x45 80)
      { inMode .solo with hub.locks := [(70, { owner := some 0x45 }), (90, { owner := some 0x45 })] }) = true ∧
    goes (fun t => (lockAt 80 t).queue == [0x45]) (exec (.lockWait 0x45 80)
      { inMode .solo with hub.locks := [(70, { owner := some 0x45 }), (80, { owner := some 0x83 })] }) = true := by decide

/-- Two-lane counters saturate at 2^32 − 1 (R423). -/
theorem test_saturating_counter : satU32 (2 ^ 32) = 2 ^ 32 - 1 ∧ satU16 65536 = 65535 := by decide

/-- READ of 0x2000:01 on a SOLO module answers one byte, 6 (Table 3-1, Table 17-4). -/
theorem test_nsp_read_mode :
    goes (fun t => t.nsp.replies.map (fun r => (r.status, r.body)) == [(0, [6])])
      (exec (.nspRead { request3 with index := 0x2000, sub := 1 } 0) (inSession .solo {})) = true := by decide

/-- GROUP WRITE of the worked case of chapter 17: class S bound 800 µs and minimum cycle 0 change the shadow alone. -/
theorem test_nsp_group_write :
    goes (fun t => t.nsp.replies.map (fun r => (r.status, r.body)) == [(0, [0xFF])] &&
        cfgClassBound t.nsp.shadow 0 == 800 && cfgClassBound t.nsp.inForce 0 == cfgClassBound {} 0)
      (exec (.groupWrite (requestBody [2, 0x30, 0x20, 1, 4, 0x20, 3, 0, 0, 0x30, 0x20, 5, 4, 0, 0, 0, 0]) 0)
        (inSession .stop {})) = true := by decide

/-- DATA WRITE of W#0x10000 := 5 is held for the next XCH phase and stores nothing at once (R108). -/
theorem test_data_write :
    goes (fun t => t.cycle.hostWrites.map (fun h => (h.address, h.value)) == [(0x10000, 5)] && storeAt 0x10000 t == 0)
      (exec (.dataWrite { requestBody [5, 0, 0] with offset := 0x10000, total := 1 } 0) (inSession .solo {})) = true := by decide

/-- Partner loss ranks above HANDOVER: at the boundary the module is SOLO (worked case under Table 3-6a). -/
theorem test_boundary_rank :
    goes (fun t => t.modes.mode == .solo) (exec (.cycleBoundary 0 [])
      { inPhase .output with
        modes.mode := .active
        cycle.outputQueued := true
        modes.triggers := [.handover .command, .partnerGone] }) = true := by decide

/-- A FAULT sets the safe-state latch and keeps its cause (R72, R240). -/
theorem test_fault_sets_latch :
    goes (fun t => t.modes.mode == .fault && t.modes.cause == 0x1002 && t.diag.latch)
      (exec (.maskRomRecheck false) { inMode .solo with diag.latch := false }) = true := by decide

/-- Power-good takes a mated module out of OFF (R49, R57); one that is not mated stays as it is. -/
theorem test_power_good :
    goes (fun t => t.modes.mode == .kickstand && t.front.slotValid) (exec (.powerGood 0b0001100 false 0)
      { State.reset with front.converters := true }) = true ∧
    goes (fun t => t == State.reset) (exec (.powerGood 0b0001100 false 0) State.reset) = true := by decide
/-! ### Premises: invariants of every step -/

/-- StepsKeepCanonicalForm: the reset state, and one that holds a written word. -/
theorem premises_StepsKeepCanonicalForm :
    canonical State.reset ∧ canonical { running 0 {} with solver.store := [(0x90000, 1)] } := by
  constructor <;> (unfold canonical; decide)

/-- LatchStaysSetInFault: a module in FAULT that a step leaves there. -/
theorem premises_LatchStaysSetInFault :
    (inMode .fault).diag.latch = true ∧
      goes (fun t => t.modes.mode == .fault) (step { inMode .fault with pending := [.lampTest] }) = true := by decide

end Sys2Proof.Tests
end

section
/-!
SUPPORT. Stores of instructions: what a lane reads after its own updates, what a write of a word does inside the window of its place and
outside it, and each storing instruction as one such write (R105, R131, R236, R288, R297).
-/
namespace Sys2Proof.Machine
open Sys2Proof.Safety

/-! ### A lane that runs -/

/-- A place that runs in its solve phase holds a partition. -/
theorem running_of_laneRuns {p : Nat} {s : State} (h : laneRuns p s = true) : (laneAt p s).running.isSome = true := by
  simp only [laneRuns, Bool.and_eq_true] at h
  exact h.2

/-- A lane with a partition is listed in its store. -/
theorem lane_ne_default {l : Lane} (h : l.running.isSome = true) : l ≠ {} := by
  rintro rfl
  simp at h

/-- A lane that keeps a partition reads as it was left. -/
theorem laneAt_modLane_running (p : Nat) (f : Lane → Lane) (s : State) (h : (f (laneAt p s)).running.isSome = true) :
    laneAt p (modLane p f s) = f (laneAt p s) :=
  laneAt_modLane_listed p f s (lane_ne_default h)

/-- The lane after its instruction has ended. -/
theorem laneAt_advance (p cost : Nat) (s : State) (h : (laneAt p s).running.isSome = true) :
    laneAt p (advance p cost s) = spent cost (laneAt p s) :=
  laneAt_modLane_running p _ s h

/-- What an event leaves in the signatures of a lane: a solo keeps none (R85, R236). -/
def signedLane (p kind : Nat) (value address : Word) (l : Lane) : Lane :=
  if isTandem p then
    { l with
      sigLead := signEvent kind value address l.sigLead
      sigTrail := signEvent kind value address l.sigTrail }
  else l

/-- A signed event touches nothing of a lane but its signatures. -/
theorem signedLane_eq (p kind : Nat) (v a : Word) (l : Lane) :
    ∃ x y, signedLane p kind v a l = { l with sigLead := x, sigTrail := y } := by
  unfold signedLane
  split
  · exact ⟨_, _, rfl⟩
  · exact ⟨l.sigLead, l.sigTrail, rfl⟩

@[simp] theorem signedLane_running (p kind : Nat) (v a : Word) (l : Lane) : (signedLane p kind v a l).running = l.running := by
  unfold signedLane
  split <;> rfl

theorem laneAt_signAt (p kind : Nat) (v a : Word) (s : State) (h : (laneAt p s).running.isSome = true) :
    laneAt p (signAt p kind v a s) = signedLane p kind v a (laneAt p s) := by
  unfold signAt signedLane
  split
  · exact laneAt_modLane_running p _ s h
  · rfl

/-- Frame of `signAt`. -/
@[simp] theorem signAt_frame (p kind : Nat) (v a : Word) (s : State) : (signAt p kind v a s).solver.store = s.solver.store ∧
    (signAt p kind v a s).solver.written = s.solver.written ∧ (signAt p kind v a s).hub = s.hub ∧
    (signAt p kind v a s).modes = s.modes := by
  unfold signAt
  split <;> simp [modLane]

/-- Frame of `advance`. -/
@[simp] theorem advance_frame (p cost : Nat) (s : State) : (advance p cost s).solver.store = s.solver.store ∧
    (advance p cost s).solver.written = s.solver.written ∧ (advance p cost s).hub = s.hub ∧
    (advance p cost s).modes = s.modes := ⟨rfl, rfl, rfl, rfl⟩

@[simp] theorem laneAt_putWord (p a : Nat) (v : Word) (s : State) : laneAt p (putWord a v s) = laneAt p s := rfl
@[simp] theorem putWord_hub (a : Nat) (v : Word) (s : State) : (putWord a v s).hub = s.hub := rfl
@[simp] theorem putWord_modes (a : Nat) (v : Word) (s : State) : (putWord a v s).modes = s.modes := rfl

/-- An inserted number is in the list. -/
theorem mem_insertNat (k : Nat) (l : List Nat) : k ∈ insertNat k l := by
  induction l with
  | nil => simp [insertNat]
  | cons j r ih =>
    unfold insertNat
    split
    · simp
    · split
      · simp_all
      · simp [ih]

/-! ### A write inside the window -/

theorem writeThen_inside {p : Nat} {w v : Word} {k : State → State} {s : State} (h : inWindow p w.toNat s = true) :
    writeThen p w v k s = k (signAt p 1 v w (putWord w.toNat v s)) := by
  simp [writeThen, h]

/-- `t` is `s` after a store at place `p` that put `w` into word `a` at a cost, the lane's posts being `posts` afterwards. -/
def storedFrom (p : Nat) (a w : Word) (cost : Nat) (posts : List XchPost) (s t : State) : Prop :=
  t.solver.store = mapPut 0 a.toNat w s.solver.store ∧ a.toNat ∈ t.solver.written ∧
    (∀ b, b ≠ a.toNat → storeAt b t = storeAt b s) ∧ (mapWf 0 s.solver.store = true → storeAt a.toNat t = w) ∧
    t.hub = s.hub ∧ t.modes = s.modes ∧
    laneAt p t = spent cost { laneAt p s with
      sigLead := (laneAt p t).sigLead
      sigTrail := (laneAt p t).sigTrail
      posts := posts }

/-- What a written word leaves of the store, whatever the lane does then. -/
theorem storedFrom_of_lane {p : Nat} {a w : Word} {cost : Nat} {posts : List XchPost} {s t : State}
    (hs : t.solver.store = (putWord a.toNat w s).solver.store) (hw : t.solver.written = (putWord a.toNat w s).solver.written)
    (hh : t.hub = s.hub) (hm : t.modes = s.modes)
    (hl : ∃ x y, laneAt p t = spent cost { laneAt p s with sigLead := x, sigTrail := y, posts := posts }) :
    storedFrom p a w cost posts s t := by
  have hs' : t.solver.store = mapPut 0 a.toNat w s.solver.store := hs
  obtain ⟨x, y, hl⟩ := hl
  refine ⟨hs', ?_, fun b hb => ?_, fun hwf => ?_, hh, hm, by rw [hl]; rfl⟩
  · rw [hw]
    exact mem_insertNat _ _
  · simp only [storeAt, hs']
    exact mapVal_mapPut_other _ _ _ _ _ hb
  · simp only [storeAt, hs']
    exact mapVal_mapPut _ _ _ _ hwf

/-- A word written and signed, and the lane goes on. -/
theorem storedFrom_advance (p cost : Nat) (a w : Word) (s : State) (h : laneRuns p s = true) :
    storedFrom p a w cost (laneAt p s).posts s (advance p cost (signAt p 1 w a (putWord a.toNat w s))) := by
  have hr := running_of_laneRuns h
  have hl := laneAt_signAt p 1 w a (putWord a.toNat w s) hr
  obtain ⟨x, y, hxy⟩ := signedLane_eq p 1 w a (laneAt p s)
  refine storedFrom_of_lane (by simp) (by simp) (by simp) (by simp) ⟨x, y, ?_⟩
  rw [laneAt_advance _ _ _ (by simpa [hl] using hr), hl, laneAt_putWord, hxy]

/-- A store in the window of its place writes its word. -/
theorem writeThen_advance (p cost : Nat) (a w : Word) (s : State) (h : laneRuns p s = true) (hw : inWindow p a.toNat s = true) :
    storedFrom p a w cost (laneAt p s).posts s (writeThen p a w (advance p cost) s) := by
  rw [writeThen_inside hw]
  exact storedFrom_advance p cost a w s h

/-! ### A write outside the window -/

/-- Frame of `addNotice`. -/
@[simp] theorem addNotice_frame (n : Notice) (s : State) : (addNotice n s).solver = s.solver ∧ (addNotice n s).modes = s.modes ∧
    (addNotice n s).cycle = s.cycle ∧ (addNotice n s).diag = s.diag ∧
    (addNotice n s).protection.notices = satU32 (s.protection.notices + 1) := by
  simp [addNotice]

/-- Frame of `faultPartitions`. -/
@[simp] theorem faultPartitions_frame (ns : List Nat) (s : State) : (faultPartitions ns s).modes = s.modes ∧
    (faultPartitions ns s).cycle = s.cycle ∧ (faultPartitions ns s).protection = s.protection ∧
    (faultPartitions ns s).solver.store = s.solver.store ∧ (faultPartitions ns s).solver.written = s.solver.written ∧
    (faultPartitions ns s).solver.places = s.solver.places ∧
    (faultPartitions ns s).solver.failedLanes = s.solver.failedLanes := by
  unfold faultPartitions
  split <;> simp

/-- A solo fault: the lane is failed and its place empty; mode, store and notices stay (R104). -/
theorem soloFault_spec (n : Nat) (s : State) : (soloFault n s).modes = s.modes ∧
    (soloFault n s).solver.store = s.solver.store ∧ (soloFault n s).solver.written = s.solver.written ∧
    (soloFault n s).protection = s.protection ∧
    (soloFault n s).solver.failedLanes = s.solver.failedLanes ||| (1#32 <<< n) ∧
    (mapWf {} s.solver.places = true → laneAt (16 + n) (soloFault n s) = {}) := by
  refine ⟨?_, ?_, ?_, ?_, ?_, fun h => ?_⟩
  iterate 5 simp [soloFault, failLanes, modLane]
  have hl := laneAt_modLane (16 + n) (fun _ => {}) s h
  simpa [soloFault, failLanes, laneAt] using hl

/-- A FAULT leaves the written-word logger as it is. -/
@[simp] theorem enterFault_written (c d : Nat) (s : State) : (enterFault c d s).solver.written = s.solver.written := by
  unfold enterFault
  (repeat' split) <;> simp [stopSolver, latchCause]

/-- `t` is `s` after an access of place `p` outside its window: no word is written, a notice tells of it, a tandem takes the module to
FAULT, a solo stops alone (R104, R288, R297). -/
def violatedFrom (p : Nat) (a : Nat) (s t : State) : Prop :=
  t.solver.store = s.solver.store ∧ t.solver.written = s.solver.written ∧
    t.protection.notices = min 0xFFFFFFFF (s.protection.notices + 1) ∧
    (p < 16 → t.modes.mode = .fault ∧ t.modes.cause = 0x1601 ∧ t.diag.detail = p * 2 ^ 24 + a) ∧
    (16 ≤ p → t.modes = s.modes ∧ laneAt p t = {} ∧
      t.solver.failedLanes = s.solver.failedLanes ||| (1#32 <<< (p - 16)))

theorem windowViolation_spec (p a : Nat) (s : State) (ho : s.modes.mode ≠ .off) (hf : s.modes.mode ≠ .fault)
    (hp : mapWf {} s.solver.places = true) : violatedFrom p a s (windowViolation p a s) := by
  unfold windowViolation
  by_cases h : p < 16
  · simp only [show isTandem p = true by simpa [isTandem] using h, if_true]
    generalize noticeFor _ _ _ _ _ _ _ _ _ = n
    obtain ⟨hm, hc, hd, -⟩ := enterFault_first 0x1601 (p * 2 ^ 24 + a) (addNotice n s) (by simpa using ho) (by simpa using hf)
    exact ⟨by simp, by simp, by simp [satU32, Nat.min_comm], fun _ => ⟨hm, hc, hd⟩, fun h' => by omega⟩
  · simp only [show isTandem p = false by simpa [isTandem] using h, Bool.false_eq_true, if_false]
    generalize noticeFor _ _ _ _ _ _ _ _ _ = n
    obtain ⟨hm, hs, hw, hn, hl, he⟩ := soloFault_spec (p - 16) (addNotice n s)
    rw [show 16 + (p - 16) = p by omega] at he
    refine ⟨by simp [hs], by simp [hw], by simp [hn, satU32, Nat.min_comm], fun h' => by omega, fun _ => ⟨?_, ?_, ?_⟩⟩
    · simp [hm]
    · exact he (by simpa using hp)
    · simp [hl]

/-- A store outside the window of its place is not performed. -/
theorem writeThen_outside {p : Nat} {w v : Word} {k : State → State} {s : State} (h : inWindow p w.toNat s = false)
    (ho : s.modes.mode ≠ .off) (hf : s.modes.mode ≠ .fault) (hp : mapWf {} s.solver.places = true) :
    violatedFrom p w.toNat s (writeThen p w v k s) := by
  have he : writeThen p w v k s = windowViolation p w.toNat s := by simp [writeThen, h]
  rw [he]
  exact windowViolation_spec p w.toNat s ho hf hp

/-! ### Each storing instruction is one write -/

section Instructions
variable {p : Place} {s : State} (h : laneRuns p.val s = true)
include h

theorem bitStore_intact (o : BitOperand) (f : Bool → Bool → Bool) (ho : o.stride = none)
    (hi : linesIntact p.val [o.word.toNat] s) :
    bitStore p o f s = .next (writeThen p.val o.word
      (withBit (storeAt o.word.toNat s) o.bit.val (f (laneAt p.val s).acc ((storeAt o.word.toNat s).getLsbD o.bit.val)))
      (advance p.val 2) s) := by
  have ha (l : Lane) : bitAddress o l = (o.word, o.bit.val) := by simp [bitAddress, ho]
  rw [bitStore, runReading_intact p _ _ s h (by simpa [ha] using hi)]
  simp [ha, ho, surcharge]

theorem edgeStep_writes (o : BitOperand) (f : Bool → Bool → Bool) (ho : o.stride = none)
    (hi : linesIntact p.val [o.word.toNat] s) :
    ∃ v k, edgeStep p o f s = .next (writeThen p.val o.word v k s) := by
  have ha (l : Lane) : bitAddress o l = (o.word, o.bit.val) := by simp [bitAddress, ho]
  rw [edgeStep, runReading_intact p _ _ s h (by simpa [ha] using hi)]
  simp only [ha]
  exact ⟨_, _, rfl⟩

theorem wordStore_intact (a : Word) (f : Lane → Word) (hi : linesIntact p.val [] s) :
    wordStore p { word := a } f s = .next (writeThen p.val a (f (laneAt p.val s)) (advance p.val 2) s) :=
  runAt_intact p _ s h hi

theorem counterSet_intact (a : Word) (f : Lane → Word) (hi : linesIntact p.val [a.toNat] s) :
    counterSet p { word := a } f s = .next (writeThen p.val a
      (if (laneAt p.val s).acc then f (laneAt p.val s) else storeAt a.toNat s) (advance p.val 4) s) :=
  runReading_intact p _ _ s h hi

theorem counterRun_writes (up : Bool) (a : Word) (hi : linesIntact p.val [a.toNat, (a + 1).toNat] s) :
    ∃ v k, counterRun up p { word := a } s = .next (writeThen p.val a v k s) :=
  ⟨_, _, runReading_intact p _ _ s h hi⟩

theorem timerRun_writes (ty : TimerType) (a : Word)
    (hi : linesIntact p.val ((List.range 4).map fun k => (a + BitVec.ofNat 20 k).toNat) s) :
    ∃ v k, timerRun ty p { word := a } s = .next (writeThen p.val a v k s) :=
  ⟨_, _, runReading_intact p _ _ s h (by rwa [List.map_map])⟩

/-- XCH.F1: a write of WA that is signed as a write and as a post. -/
theorem xchOutput_intact (a : Word) (hi : linesIntact p.val [] s) :
    ∃ k, execXchOutput p { word := a } s = .next (writeThen p.val a (laneAt p.val s).wa k s) ∧
      k = fun s' => advance p.val 8 (modLane p.val (fun l => { l with
        posts := l.posts ++ [{ address := a, value := (laneAt p.val s).wa, passed := !isTandem p.val }] })
          (signAt p.val 8 (laneAt p.val s).wa a s')) :=
  ⟨_, runAt_intact p _ s h hi, rfl⟩

/-- A posted word in the window of its place is written, and the post waits behind those of before (R144). -/
theorem xchOutput_stores (a : Word) (hi : linesIntact p.val [] s) (hw : inWindow p.val a.toNat s = true) :
    ∃ t, execXchOutput p { word := a } s = .next t ∧
      storedFrom p.val a (laneAt p.val s).wa 8 ((laneAt p.val s).posts ++
        [{ address := a, value := (laneAt p.val s).wa, passed := !decide (p.val < 16) }]) s t := by
  obtain ⟨k, hk, rfl⟩ := xchOutput_intact h a hi
  refine ⟨_, hk, ?_⟩
  rw [writeThen_inside hw]
  have hr := running_of_laneRuns h
  generalize hv : (laneAt p.val s).wa = v
  have h1 := laneAt_signAt p.val 1 v a (putWord a.toNat v s) hr
  have h2 := laneAt_signAt p.val 8 v a _ (by rw [h1]; simpa using hr)
  obtain ⟨x1, y1, hxy1⟩ := signedLane_eq p.val 1 v a (laneAt p.val s)
  rw [laneAt_putWord, hxy1] at h1
  rw [h1] at h2
  obtain ⟨x2, y2, hxy2⟩ := signedLane_eq p.val 8 v a { laneAt p.val s with sigLead := x1, sigTrail := y1 }
  rw [hxy2] at h2
  have h3 := laneAt_modLane_running p.val (fun l => { l with
    posts := l.posts ++ [{ address := a, value := v, passed := !isTandem p.val }] }) _ (by rw [h2]; exact hr)
  refine storedFrom_of_lane (by simp) (by simp) (by simp [modLane]) (by simp [modLane]) ⟨x2, y2, ?_⟩
  rw [laneAt_advance _ _ _ (by rw [h3, h2]; exact hr), h3, h2]
  rfl

end Instructions

end Sys2Proof.Machine
end

section
namespace Sys2Proof.Proofs
open Sys2Proof.Machine Sys2Proof.Safety

/-- Settles O22: each store is one write of a word at its operand's address, which `writeThen` performs inside the window and refuses
outside it. -/
theorem storesStayInTheWindow : Obligations.StoresStayInTheWindow := by
  unfold Obligations.StoresStayInTheWindow
  refine ⟨?_, ?_⟩
  · rintro p s l o a hr rfl hi rfl ho hw c w cost hc
    have hn : linesIntact p.val [] s := ⟨hi.1, by simp⟩
    have stored (v : Word) (n : Nat) := writeThen_advance p.val n o.word v s hr hw
    simp only [List.mem_cons, List.not_mem_nil, or_false, Prod.mk.injEq] at hc
    rcases hc with ⟨rfl, rfl, rfl⟩ | ⟨rfl, rfl, rfl⟩ | ⟨rfl, rfl, rfl⟩ | ⟨rfl, rfl, rfl⟩ | ⟨rfl, rfl, rfl⟩ | ⟨rfl, rfl, rfl⟩ |
      ⟨rfl, rfl, rfl⟩ | ⟨rfl, rfl, rfl⟩ | ⟨rfl, rfl, rfl⟩
    · have he := bitStore_intact hr o (fun a _ => a != false) ho hi
      rw [Bool.bne_false] at he
      exact ⟨_, he, stored _ 2⟩
    · have he := bitStore_intact hr o (fun a _ => a != true) ho hi
      rw [Bool.bne_true] at he
      exact ⟨_, he, stored _ 2⟩
    · exact ⟨_, bitStore_intact hr o (fun a b => a || b) ho hi, stored _ 2⟩
    · exact ⟨_, bitStore_intact hr o (fun a b => !a && b) ho hi, stored _ 2⟩
    · exact ⟨_, wordStore_intact hr o.word (fun l => l.wa) hn, stored _ 2⟩
    · exact ⟨_, wordStore_intact hr o.word (fun l => l.wb) hn, stored _ 2⟩
    · exact xchOutput_stores hr o.word hn hw
    · exact ⟨_, counterSet_intact hr o.word (fun l => l.wb) hi, stored _ 4⟩
    · exact ⟨_, counterSet_intact hr o.word (fun _ => 0) hi, stored _ 4⟩
  · intro p s o hr ho hi hw hoff hfault hp c hc
    have hn : linesIntact p.val [] s := ⟨hi.1, by simp⟩
    have h1 : linesIntact p.val [o.word.toNat] s := ⟨hi.1, by simpa using hi.2 _ (List.mem_map.2 ⟨0, by simp, rfl⟩)⟩
    have h2 : linesIntact p.val [o.word.toNat, (o.word + 1).toNat] s :=
      ⟨hi.1, by simpa using ⟨h1.2 _ (by simp), hi.2 _ (List.mem_map.2 ⟨1, by simp, rfl⟩)⟩⟩
    have outside {c : Instr} (h : ∃ v k, exec c s = .next (writeThen p.val o.word v k s)) :
        ∃ t, exec c s = .next t ∧ violatedFrom p.val o.word.toNat s t := by
      obtain ⟨v, k, h⟩ := h
      exact ⟨_, h, writeThen_outside hw hoff hfault hp⟩
    simp only [List.mem_cons, List.not_mem_nil, or_false] at hc
    rcases hc with rfl | rfl | rfl | rfl | rfl | rfl | rfl | rfl | rfl | rfl | rfl | rfl | rfl | rfl | rfl
    · exact outside ⟨_, _, bitStore_intact hr o (fun a _ => a != false) ho h1⟩
    · exact outside ⟨_, _, bitStore_intact hr o (fun a b => a || b) ho h1⟩
    · exact outside ⟨_, _, bitStore_intact hr o (fun a b => !a && b) ho h1⟩
    · exact outside (edgeStep_writes hr o (fun acc prev => acc && !prev) ho h1)
    · exact outside (edgeStep_writes hr o (fun acc prev => prev && !acc) ho h1)
    · exact outside ⟨_, _, wordStore_intact hr o.word (fun l => l.wa) hn⟩
    · exact outside ⟨_, _, wordStore_intact hr o.word (fun l => l.wb) hn⟩
    · obtain ⟨k, hk, -⟩ := xchOutput_intact hr o.word hn
      exact outside ⟨_, k, hk⟩
    · exact outside ⟨_, _, counterSet_intact hr o.word (fun l => l.wb) h1⟩
    · exact outside ⟨_, _, counterSet_intact hr o.word (fun _ => 0) h1⟩
    · exact outside (counterRun_writes hr true o.word h2)
    · exact outside (counterRun_writes hr false o.word h2)
    · exact outside (timerRun_writes hr .ton o.word hi)
    · exact outside (timerRun_writes hr .tof o.word hi)
    · exact outside (timerRun_writes hr .tp o.word hi)

end Sys2Proof.Proofs
end

section
/-!
SUPPORT. What the phases of a cycle keep: the view of a state that the cycle's own steps are about (mode sequencer, places, phase,
counter and length of the cycle), and that the exchange with stations, doors, local channels and the partner leaves it as it is
(R15, R151).
-/
namespace Sys2Proof.Machine
open Sys2Proof.Safety

/-- The mode sequencer, the places and the written words, and the engine's own registers of the present cycle. -/
structure CycleView where
  modes : Modes
  places : SMap Lane
  written : List Nat
  phase : Phase
  counter : BitVec 40
  startAt : Nat
  last : Nat
  outputQueued : Bool
  released : Bool

/-- The view of a state. -/
def cycleView (s : State) : CycleView :=
  { modes := s.modes, places := s.solver.places, written := s.solver.written, phase := s.cycle.phase, counter := s.cycle.counter
    startAt := s.cycle.startAt, last := s.cycle.last, outputQueued := s.cycle.outputQueued, released := s.cycle.released }

/-- The view of a state given part by part. -/
@[simp] theorem cycleView_mk (front supply modes solver cycle change seam pair diag islands hub protection network doors stations
    localIo nsp firmware quilt alarms free pending) :
    cycleView ⟨front, supply, modes, solver, cycle, change, seam, pair, diag, islands, hub, protection, network, doors, stations,
      localIo, nsp, firmware, quilt, alarms, free, pending⟩ =
    ⟨modes, solver.places, solver.written, cycle.phase, cycle.counter, cycle.startAt, cycle.last, cycle.outputQueued,
      cycle.released⟩ := by
  simp only [cycleView]

/-- The view of a state put together again. -/
@[simp] theorem cycleView_eta (s : State) :
    (⟨s.modes, s.solver.places, s.solver.written, s.cycle.phase, s.cycle.counter, s.cycle.startAt, s.cycle.last,
      s.cycle.outputQueued, s.cycle.released⟩ : CycleView) = cycleView s := by
  simp only [cycleView]

/-- States with the same sequencer, places, written words and engine look alike. -/
theorem cycleView_congr {s t : State} (hm : t.modes = s.modes) (hp : t.solver.places = s.solver.places)
    (hw : t.solver.written = s.solver.written) (hc : t.cycle = s.cycle) : cycleView t = cycleView s := by
  simp only [cycleView, hm, hp, hw, hc]

@[simp] theorem cycleView_ite (c : Prop) [Decidable c] (s t : State) :
    cycleView (if c then s else t) = if c then cycleView s else cycleView t := apply_ite cycleView c s t

/-- What every step of a fold keeps, the fold keeps. -/
@[simp] theorem cycleView_foldl {α : Type} (f : State → α → State) (l : List α) (s : State)
    (h : ∀ s a, cycleView (f s a) = cycleView s) : cycleView (l.foldl f s) = cycleView s := by
  induction l generalizing s with
  | nil => rfl
  | cons a l ih => rw [List.foldl_cons, ih, h]

/-- What every step of a fold that gathers results keeps, the fold keeps. -/
@[simp] theorem cycleView_foldl_fst {α β : Type} (f : State × β → α → State × β) (l : List α) (p : State × β)
    (h : ∀ p a, cycleView (f p a).1 = cycleView p.1) : cycleView (l.foldl f p).1 = cycleView p.1 := by
  induction l generalizing p with
  | nil => rfl
  | cons a l ih => rw [List.foldl_cons, ih, h]

/-! ### Time, alarms, records, accessors -/

@[simp] theorem cycleView_atTime (t : Nat) (s : State) : cycleView (atTime t s) = cycleView s :=
  cycleView_congr rfl rfl rfl rfl
@[simp] theorem cycleView_drawNat (s : State) : cycleView (drawNat s).2 = cycleView s :=
  cycleView_congr rfl rfl rfl rfl
@[simp] theorem cycleView_sample (a b : Nat) (l : Int) (w : Nat) (h e : Bool) (v : Int) (s : State) :
    cycleView (sample a b l w h e v s) = cycleView s :=
  cycleView_congr rfl rfl rfl rfl
@[simp] theorem cycleView_logOther (e : OtherEvent) (l : List Nat) (s : State) : cycleView (logOther e l s) = cycleView s :=
  cycleView_congr rfl rfl rfl rfl
@[simp] theorem cycleView_raiseAlarm (a : Alarm) (n : Nat) (s : State) : cycleView (raiseAlarm a n s) = cycleView s :=
  cycleView_congr (by simp) (by simp) (by simp) (by simp)
@[simp] theorem cycleView_clearAlarm (a : Alarm) (n : Nat) (s : State) : cycleView (clearAlarm a n s) = cycleView s :=
  cycleView_congr (by simp) (by simp) (by simp) (by simp)
@[simp] theorem cycleView_modCrossing (n : Nat) (f : Crossing → Crossing) (s : State) :
    cycleView (modCrossing n f s) = cycleView s :=
  cycleView_congr rfl rfl rfl rfl
@[simp] theorem cycleView_modPort (n : Nat) (f : Port → Port) (s : State) : cycleView (modPort n f s) = cycleView s :=
  cycleView_congr rfl rfl rfl rfl
@[simp] theorem cycleView_modGroup (n : Nat) (f : LaunchGroup → LaunchGroup) (s : State) :
    cycleView (modGroup n f s) = cycleView s :=
  cycleView_congr rfl rfl rfl rfl
@[simp] theorem cycleView_modChannel (n : Nat) (f : Channel → Channel) (s : State) :
    cycleView (modChannel n f s) = cycleView s :=
  cycleView_congr rfl rfl rfl rfl
@[simp] theorem cycleView_modObject (k o : Nat) (f : DoorObject → DoorObject) (s : State) :
    cycleView (modObject k o f s) = cycleView s :=
  cycleView_congr rfl rfl rfl rfl
@[simp] theorem cycleView_modStation (n : Nat) (f : Station → Station) (s : State) :
    cycleView (modStation n f s) = cycleView s :=
  cycleView_congr rfl rfl rfl rfl
@[simp] theorem cycleView_modAi (n : Nat) (f : AnalogIn → AnalogIn) (s : State) : cycleView (modAi n f s) = cycleView s :=
  cycleView_congr rfl rfl rfl rfl
@[simp] theorem cycleView_modAo (n : Nat) (f : AnalogOut → AnalogOut) (s : State) : cycleView (modAo n f s) = cycleView s :=
  cycleView_congr rfl rfl rfl rfl
@[simp] theorem cycleView_modSdi (n : Nat) (f : SafetyIn → SafetyIn) (s : State) : cycleView (modSdi n f s) = cycleView s :=
  cycleView_congr rfl rfl rfl rfl
@[simp] theorem cycleView_modSdo (n : Nat) (f : SafetyOut → SafetyOut) (s : State) : cycleView (modSdo n f s) = cycleView s :=
  cycleView_congr rfl rfl rfl rfl
@[simp] theorem cycleView_modArbiter (n : Nat) (f : Arbiter → Arbiter) (s : State) :
    cycleView (modArbiter n f s) = cycleView s :=
  cycleView_congr rfl rfl rfl rfl
@[simp] theorem cycleView_modRing (r : Bool) (f : Ring → Ring) (s : State) : cycleView (modRing r f s) = cycleView s :=
  cycleView_congr (by simp) (by simp) (by simp) (by simp)
@[simp] theorem cycleView_closedWrite (n : Nat) (s : State) : cycleView (closedWrite n s) = cycleView s :=
  cycleView_congr rfl rfl rfl rfl
@[simp] theorem cycleView_pumpPort (f : Option TxFrame) (n : Nat) (s : State) : cycleView (pumpPort f n s) = cycleView s :=
  cycleView_congr (by simp) (by simp) (by simp) (by simp)
@[simp] theorem cycleView_queueFrame (f : TxFrame) (s : State) : cycleView (queueFrame f s) = cycleView s :=
  cycleView_congr (by simp) (by simp) (by simp) (by simp)
@[simp] theorem cycleView_pumpSeam (s : State) : cycleView (pumpSeam s) = cycleView s :=
  cycleView_congr (by simp) (by simp) (by simp) (by simp)

/-- What goes through a crossing or is discarded there keeps what its own effect keeps. -/
@[simp] theorem cycleView_through (n : Nat) (f : State → State) (s : State) (h : ∀ s, cycleView (f s) = cycleView s) :
    cycleView (through n f s) = cycleView s := by
  unfold through
  split
  · exact h s
  · exact cycleView_closedWrite n s

@[simp] theorem cycleView_sendValue (n : Nat) (s : State) : cycleView (sendValue n s) = cycleView s := by
  simp [sendValue]

/-! ### Event loom, stations, doors, guests (R363, R364, R384–R390) -/

@[simp] theorem cycleView_report (c a d k n v : Nat) (s : State) : cycleView (report c a d k n v s) = cycleView s :=
  cycleView_congr rfl rfl rfl rfl
@[simp] theorem cycleView_stationReport (a d n v : Nat) (s : State) : cycleView (stationReport a d n v s) = cycleView s :=
  cycleView_congr rfl rfl rfl rfl
@[simp] theorem cycleView_moduleWrite (a : Nat) (v : Word) (s : State) : cycleView (moduleWrite a v s) = cycleView s :=
  cycleView_congr rfl rfl rfl rfl
@[simp] theorem cycleView_moduleWrites (l : List (Nat × Word)) (s : State) : cycleView (moduleWrites l s) = cycleView s := by
  simp [moduleWrites]
@[simp] theorem cycleView_setQuality (p : Nat) (q : BitVec 2) (s : State) : cycleView (setQuality p q s) = cycleView s :=
  cycleView_congr rfl rfl rfl rfl
@[simp] theorem cycleView_leaveJoining (n : Nat) (s : State) : cycleView (leaveJoining n s) = cycleView s := by
  simp [leaveJoining]
@[simp] theorem cycleView_enterJoining (n : Nat) (s : State) : cycleView (enterJoining n s) = cycleView s :=
  cycleView_congr rfl rfl rfl rfl

@[simp] theorem cycleView_enterStation (n : Nat) (k : StationState) (s : State) :
    cycleView (enterStation n k s) = cycleView s := by
  simp [enterStation]

@[simp] theorem cycleView_freezeStation (n : Nat) (s : State) : cycleView (freezeStation n s) = cycleView s := by
  unfold freezeStation
  dsimp only
  (repeat' split) <;> simp

@[simp] theorem cycleView_writeInputs (n : Nat) (b : List Byte) (s : State) : cycleView (writeInputs n b s) = cycleView s := by
  simp [writeInputs]
@[simp] theorem cycleView_writeReported (n : Nat) (b : List Byte) (s : State) :
    cycleView (writeReported n b s) = cycleView s := by
  simp [writeReported]

@[simp] theorem cycleView_substituteStation (n : Nat) (s : State) : cycleView (substituteStation n s) = cycleView s := by
  simp [substituteStation]

@[simp] theorem cycleView_exchangeStation (n : Nat) (s : State) : cycleView (exchangeStation n s) = cycleView s := by
  unfold exchangeStation
  dsimp only
  (repeat' split) <;> simp

@[simp] theorem cycleView_exchangeReceive (k o : Nat) (d : DoorDesc) (s : State) :
    cycleView (exchangeReceive k o d s) = cycleView s := by
  unfold exchangeReceive
  dsimp only
  (repeat' split) <;> simp

@[simp] theorem cycleView_exchangeTransmit (k o : Nat) (d : DoorDesc) (s : State) :
    cycleView (exchangeTransmit k o d s) = cycleView s := by
  simp [exchangeTransmit]

@[simp] theorem cycleView_exchangeUnit (k u : Nat) (s : State) : cycleView (exchangeUnit k u s) = cycleView s := by
  simp [exchangeUnit]

@[simp] theorem cycleView_exchangeChannel (k : Nat) (s : State) : cycleView (exchangeChannel k s) = cycleView s := by
  simp [exchangeChannel]

@[simp] theorem cycleView_exchangeLocal (s : State) : cycleView (exchangeLocal s) = cycleView s := by
  simp [exchangeLocal]

@[simp] theorem cycleView_exchangeGuest (n : Nat) (s : State) : cycleView (exchangeGuest n s) = cycleView s := by
  unfold exchangeGuest
  dsimp only
  (repeat' split) <;> simp

/-! ### Local channels (R403–R418) -/

@[simp] theorem cycleView_refreshAo (n : Nat) (s : State) : cycleView (refreshAo n s) = cycleView s := by simp [refreshAo]
@[simp] theorem cycleView_refreshSdo (n : Nat) (s : State) : cycleView (refreshSdo n s) = cycleView s := by simp [refreshSdo]
@[simp] theorem cycleView_refreshOutputs (s : State) : cycleView (refreshOutputs s) = cycleView s := by simp [refreshOutputs]
@[simp] theorem cycleView_faultInput (n c : Nat) (s : State) : cycleView (faultInput n c s) = cycleView s := by
  simp [faultInput]
@[simp] theorem cycleView_acknowledge (n : Nat) (s : State) : cycleView (acknowledge n s) = cycleView s := by
  simp [acknowledge]
@[simp] theorem cycleView_takeAcks (v : Word) (s : State) : cycleView (takeAcks v s) = cycleView s := by
  simp [takeAcks]
@[simp] theorem cycleView_takeProgramControl (s : State) : cycleView (takeProgramControl s) = cycleView s := by
  simp [takeProgramControl]
@[simp] theorem cycleView_refreshPairs (s : State) : cycleView (refreshPairs s) = cycleView s :=
  cycleView_congr rfl rfl rfl rfl
@[simp] theorem cycleView_applyConfiguredRules (s : State) : cycleView (applyConfiguredRules s) = cycleView s := by
  simp [applyConfiguredRules]
@[simp] theorem cycleView_secondCycleRules (s : State) : cycleView (secondCycleRules s) = cycleView s := by
  simp [secondCycleRules]
@[simp] theorem cycleView_compareSdo (n : Nat) (s : State) : cycleView (compareSdo n s).1 = cycleView s := by
  simp [compareSdo, apply_ite Prod.fst]
@[simp] theorem cycleView_compareAo (n : Nat) (s : State) : cycleView (compareAo n s).1 = cycleView s := by
  simp [compareAo, apply_ite Prod.fst]

/-! ### Doors and the output phase (R151, R152, R365–R377, R391–R395) -/

@[simp] theorem cycleView_pumpDoor (k : Nat) (s : State) : cycleView (pumpDoor k s) = cycleView s := by
  unfold pumpDoor
  dsimp only
  (repeat' split) <;> simp
@[simp] theorem cycleView_pumpDoors (s : State) : cycleView (pumpDoors s) = cycleView s := by simp [pumpDoors]
@[simp] theorem cycleView_dropMessages (k o : Nat) (s : State) : cycleView (dropMessages k o s).1 = cycleView s := by
  simp [dropMessages]
@[simp] theorem cycleView_enterTwin (k : Nat) (m : DoorMsg) (s : State) : cycleView (enterTwin k m s) = cycleView s := by
  simp [enterTwin]
@[simp] theorem cycleView_queueDoor (k o : Nat) (d : DoorDesc) (s : State) : cycleView (queueDoor k o d s).1 = cycleView s := by
  simp [queueDoor]
@[simp] theorem cycleView_advanceDue (k o : Nat) (d : DoorDesc) (s : State) : cycleView (advanceDue k o d s) = cycleView s := by
  simp [advanceDue]
@[simp] theorem cycleView_outputDoor (k o : Nat) (d : DoorDesc) (p : State × List OutCommand) :
    cycleView (outputDoor k o d p).1 = cycleView p.1 := by
  unfold outputDoor
  split <;> simp
@[simp] theorem cycleView_enterBank (f : TxFrame) (g t n : Nat) (s : State) : cycleView (enterBank f g t n s) = cycleView s := by
  simp only [enterBank, cycleView_pumpPort, cycleView_modPort, cycleView_ite, cycleView_raiseAlarm, cycleView_modGroup, ite_self]
  exact cycleView_foldl _ _ _ fun s x => by split <;> simp
@[simp] theorem cycleView_queueStationFrame (f : TxFrame) (s : State) : cycleView (queueStationFrame f s) = cycleView s := by
  unfold queueStationFrame
  split <;> simp
@[simp] theorem cycleView_outputStation (n : Nat) (p : State × List OutCommand) :
    cycleView (outputStation n p).1 = cycleView p.1 := by
  unfold outputStation
  dsimp only
  (repeat' split) <;> simp
@[simp] theorem cycleView_outputClass (p : State × List OutCommand) (c : Nat) :
    cycleView (outputClass p c).1 = cycleView p.1 := by
  simp [outputClass]
@[simp] theorem cycleView_writeOutputQualities (s : State) : cycleView (writeOutputQualities s) = cycleView s := by
  simp [writeOutputQualities]
@[simp] theorem cycleView_postLocal (s : State) : cycleView (postLocal s) = cycleView s := by simp [postLocal]
@[simp] theorem cycleView_ripen (s : State) : cycleView (ripen s) = cycleView s := by
  unfold ripen
  dsimp only
  split <;> simp
@[simp] theorem cycleView_carryCommits (s : State) : cycleView (carryCommits s) = cycleView s :=
  cycleView_congr rfl rfl rfl rfl
@[simp] theorem cycleView_sendWeft (f : WeftFrame) (s : State) : cycleView (sendWeft f s) = cycleView s := by simp [sendWeft]
@[simp] theorem cycleView_weftPhase (s : State) : cycleView (weftPhase s) = cycleView s := by simp [weftPhase]

/-! ### Configuration, change and mirror at a boundary (R117, R191, R379, R385, R425, R426) -/

@[simp] theorem cycleView_enterMismatch (n : Nat) (s : State) : cycleView (enterMismatch n s) = cycleView s := by
  simp [enterMismatch]
@[simp] theorem cycleView_placeStation (n : Nat) (a : Announce) (s : State) : cycleView (placeStation n a s) = cycleView s := by
  simp [placeStation]
@[simp] theorem cycleView_recheckStations (e : Entries) (s : State) : cycleView (recheckStations e s) = cycleView s :=
  cycleView_foldl _ _ _ fun s n => by split <;> simp
@[simp] theorem cycleView_placeRekeyed (s : State) : cycleView (placeRekeyed s) = cycleView s :=
  (cycleView_foldl _ _ _ fun s n => by split <;> simp).trans (cycleView_congr rfl rfl rfl rfl)
@[simp] theorem cycleView_dropObjects (e : Entries) (s : State) : cycleView (dropObjects e s) = cycleView s := by
  simp [dropObjects]
@[simp] theorem cycleView_leaveBus (s : State) (k : Nat) : cycleView (leaveBus s k) = cycleView s :=
  cycleView_congr rfl rfl rfl rfl
@[simp] theorem cycleView_dropHostWrites (s : State) : cycleView (dropHostWrites s) = cycleView s := by
  simp [dropHostWrites]
@[simp] theorem cycleView_takeGates (e : Entries) (s : State) : cycleView (takeGates e s) = cycleView s := by
  simp [takeGates]
@[simp] theorem cycleView_trimGuests (s : State) : cycleView (trimGuests s) = cycleView s := cycleView_congr rfl rfl rfl rfl
@[simp] theorem cycleView_commitBases (a : Nat) (s : State) : cycleView (commitBases a s) = cycleView s :=
  cycleView_congr rfl rfl rfl rfl
@[simp] theorem cycleView_loadBases (e : Entries) (s : State) : cycleView (loadBases e s) = cycleView s := by
  simp [loadBases]
@[simp] theorem cycleView_readmit (s : State) : cycleView (readmit s) = cycleView s := by simp [readmit]
@[simp] theorem cycleView_applyConfig (e : Entries) (s : State) : cycleView (applyConfig e s) = cycleView s := by
  simp [applyConfig]
@[simp] theorem cycleView_commitAtBoundary (s : State) : cycleView (commitAtBoundary s) = cycleView s := by
  simp [commitAtBoundary]
@[simp] theorem cycleView_commitRules (s : State) : cycleView (commitRules s) = cycleView s := by
  simp [commitRules, takeRuleSet]
@[simp] theorem cycleView_setChange (k : ChangeState) (s : State) : cycleView (setChange k s) = cycleView s := by
  simp [setChange]
@[simp] theorem cycleView_setFlash (k : Fin 2) (i : Option Image) (s : State) : cycleView (setFlash k i s) = cycleView s := by
  simp [setFlash]
@[simp] theorem cycleView_setShadow (i : Option Image) (a : Admitted) (s : State) :
    cycleView (setShadow i a s) = cycleView s := by
  simp [setShadow]
@[simp] theorem cycleView_finishConfirm (s : State) : cycleView (finishConfirm s) = cycleView s := by simp [finishConfirm]
@[simp] theorem cycleView_mirrorBoundary (s : State) : cycleView (mirrorBoundary s) = cycleView s :=
  cycleView_congr rfl rfl rfl rfl
@[simp] theorem cycleView_addHistory (h : HistoryEntry) (s : State) : cycleView (addHistory h s) = cycleView s := by
  simp [addHistory]
@[simp] theorem cycleView_historyBoundary (s : State) : cycleView (historyBoundary s) = cycleView s := by
  simp [historyBoundary]

/-! ### Plans and the partner at a boundary (R97–R104, R174, R181, R204, R230) -/

@[simp] theorem cycleView_failLanes (l : List Nat) (s : State) : cycleView (failLanes l s) = cycleView s :=
  cycleView_congr rfl rfl rfl rfl
@[simp] theorem cycleView_faultPartitions (l : List Nat) (s : State) : cycleView (faultPartitions l s) = cycleView s := by
  simp [faultPartitions]
@[simp] theorem cycleView_rejoinsFailed (l : List (Fin 16)) (s : State) : cycleView (rejoinsFailed l s) = cycleView s := by
  simp [rejoinsFailed]
@[simp] theorem cycleView_endPlan (n : Nat) (s : State) : cycleView (endPlan n s) = cycleView s :=
  cycleView_congr rfl rfl rfl rfl
@[simp] theorem cycleView_takePlan (p : Nat) (s : State) : cycleView (takePlan p s) = cycleView s := by simp [takePlan]
@[simp] theorem cycleView_planBoundary (b : Bool) (s : State) : cycleView (planBoundary b s) = cycleView s := by
  unfold planBoundary
  split <;> simp
@[simp] theorem cycleView_laneBoundary (s : State) : cycleView (laneBoundary s) = cycleView s := by simp [laneBoundary]
@[simp] theorem cycleView_resyncBoundary (s : State) : cycleView (resyncBoundary s) = cycleView s := by simp [resyncBoundary]

end Sys2Proof.Machine
end

section
/-!
SUPPORT. The steps of a cycle: how it starts, solves, ends and is released, and what a FAULT that its start may meet leaves of it
(R15, R93, R151–R153, R239, R250).
-/
namespace Sys2Proof.Machine
open Sys2Proof.Safety

/-! ### What a FAULT leaves of a cycle -/

/-- A mode transition leaves the first-cycle flags as they are. -/
@[simp] theorem setMode_firstCycle (m : Mode) (c : Nat) (s : State) : (setMode m c s).modes.firstFlags = s.modes.firstFlags ∧
    (setMode m c s).modes.edgeFirst = s.modes.edgeFirst ∧
    (setMode m c s).modes.solvedSinceStart = s.modes.solvedSinceStart := by
  have h (u : State) : (reachMode m u).modes.firstFlags = u.modes.firstFlags ∧
      (reachMode m u).modes.edgeFirst = u.modes.edgeFirst ∧
      (reachMode m u).modes.solvedSinceStart = u.modes.solvedSinceStart := by
    unfold reachMode
    dsimp only
    (repeat' split) <;> simp
  unfold setMode
  dsimp only
  (repeat' split) <;> simp [h]

/-- `t` holds the record of the ended cycles that `s` holds, and its places are empty where those of `s` are. -/
structure KeepsRecord (s t : State) : Prop where
  counter : t.cycle.counter = s.cycle.counter
  last : t.cycle.last = s.cycle.last
  firstFlags : t.modes.firstFlags = s.modes.firstFlags
  edgeFirst : t.modes.edgeFirst = s.modes.edgeFirst
  places : s.solver.places = [] → t.solver.places = []

/-- `t` is a state of the cycle of `s`: the same cycle in the same phase and mode, or broken off by a FAULT. -/
structure KeepsCycle (s t : State) : Prop extends KeepsRecord s t where
  startAt : t.cycle.startAt = s.cycle.startAt
  solvedSinceStart : t.modes.solvedSinceStart = s.modes.solvedSinceStart
  phase : s.modes.mode ≠ .off → (t.cycle.phase = s.cycle.phase ∧ t.modes.mode = s.modes.mode) ∨ t.modes.mode = .fault

theorem KeepsRecord.refl (s : State) : KeepsRecord s s := ⟨rfl, rfl, rfl, rfl, id⟩

theorem KeepsRecord.trans {s t u : State} (h : KeepsRecord s t) (k : KeepsRecord t u) : KeepsRecord s u where
  counter := k.counter.trans h.counter
  last := k.last.trans h.last
  firstFlags := k.firstFlags.trans h.firstFlags
  edgeFirst := k.edgeFirst.trans h.edgeFirst
  places := fun hp => k.places (h.places hp)

theorem KeepsCycle.refl (s : State) : KeepsCycle s s := ⟨.refl s, rfl, rfl, fun _ => .inl ⟨rfl, rfl⟩⟩

theorem KeepsCycle.trans {s t u : State} (h : KeepsCycle s t) (k : KeepsCycle t u) : KeepsCycle s u where
  toKeepsRecord := h.toKeepsRecord.trans k.toKeepsRecord
  startAt := k.startAt.trans h.startAt
  solvedSinceStart := k.solvedSinceStart.trans h.solvedSinceStart
  phase := fun ho => by
    rcases h.phase ho with ⟨hp, hm⟩ | hf
    · rcases k.phase (by rwa [hm]) with ⟨kp, km⟩ | kf
      · exact .inl ⟨kp.trans hp, km.trans hm⟩
      · exact .inr kf
    · rcases k.phase (by simp [hf]) with ⟨-, km⟩ | kf
      · exact .inr (km.trans hf)
      · exact .inr kf

/-- A state that looks alike but for the words written keeps the cycle. -/
theorem KeepsCycle.of_view {s t : State} (h : ∃ w, cycleView t = { cycleView s with written := w }) : KeepsCycle s t := by
  obtain ⟨w, h⟩ := h
  simp only [cycleView, CycleView.mk.injEq] at h
  obtain ⟨hm, hp, -, hph, hc, hs, hl, -, -⟩ := h
  exact ⟨⟨hc, hl, by rw [hm], by rw [hm], fun h => hp.trans h⟩, hs, by rw [hm], fun _ => .inl ⟨hph, by rw [hm]⟩⟩

theorem KeepsCycle.of_view_eq {s t : State} (h : cycleView t = cycleView s) : KeepsCycle s t :=
  .of_view ⟨s.solver.written, h⟩

theorem enterFault_keepsCycle (c d : Nat) (s : State) : KeepsCycle s (enterFault c d s) := by
  by_cases ho : s.modes.mode = .off
  · rw [enterFault_off c d s ho]
    exact .refl s
  · have hf : (enterFault c d s).modes.mode = .fault := enterFault_fault c d s ho
    have hk : (enterFault c d s).cycle.startAt = s.cycle.startAt ∧ (enterFault c d s).cycle.last = s.cycle.last ∧
        (enterFault c d s).modes.firstFlags = s.modes.firstFlags ∧ (enterFault c d s).modes.edgeFirst = s.modes.edgeFirst ∧
        (enterFault c d s).modes.solvedSinceStart = s.modes.solvedSinceStart ∧
        (s.solver.places = [] → (enterFault c d s).solver.places = []) := by
      unfold enterFault
      (repeat' split) <;> simp [latchCause, stopSolver]
    obtain ⟨hs, hl, h1, h2, h3, hp⟩ := hk
    exact ⟨⟨by simp, hl, h1, h2, hp⟩, hs, h3, fun _ => .inr hf⟩

theorem enterFaults_keepsCycle (l : List (Nat × Nat)) (s : State) : KeepsCycle s (enterFaults l s) := by
  unfold enterFaults
  generalize sortBy (·.1) l = k
  induction k generalizing s with
  | nil => exact .refl s
  | cons a k ih => exact (enterFault_keepsCycle a.1 a.2 s).trans (ih _)

/-! ### Start of a cycle (R27, R119, R151, R250) -/

/-- A comparison of several channels that gathers causes keeps what the comparison of one keeps. -/
theorem cycleView_gather (f : Nat → State → State × List (Nat × Nat)) (hf : ∀ n s, cycleView (f n s).1 = cycleView s)
    (l : List Nat) (p : State × List (Nat × Nat)) :
    cycleView (l.foldl (fun p n => ((f n p.1).1, p.2 ++ (f n p.1).2)) p).1 = cycleView p.1 := by
  simp [hf]

theorem compareReadback_keepsCycle (s : State) : KeepsCycle s (compareReadback s) := by
  unfold compareReadback
  refine .trans (.of_view_eq ?_) (enterFaults_keepsCycle _ _)
  exact (cycleView_gather compareAo cycleView_compareAo _ _).trans (cycleView_gather compareSdo cycleView_compareSdo _ _)

theorem cycleView_applyHostWrite (h : HostWrite) (s : State) :
    cycleView (applyHostWrite h s) = { cycleView s with written := insertNat h.address s.solver.written } := rfl

/-- The words that a fold writes are all it changes of the cycle. -/
theorem cycleView_foldl_written {α : Type} (f : State → α → State) (l : List α) (s : State)
    (h : ∀ s a, ∃ w, cycleView (f s a) = { cycleView s with written := w }) :
    ∃ w, cycleView (l.foldl f s) = { cycleView s with written := w } := by
  induction l generalizing s with
  | nil => exact ⟨s.solver.written, rfl⟩
  | cons a l ih =>
    obtain ⟨w, hw⟩ := h s a
    obtain ⟨v, hv⟩ := ih (f s a)
    exact ⟨v, by rw [List.foldl_cons, hv, hw]⟩

/-- The held host writes are the only words that the XCH phase records as written (R108, R151). -/
theorem cycleView_exchangeInputs (s : State) : ∃ w, cycleView (exchangeInputs s) = { cycleView s with written := w } := by
  have hh (u : State) : ∃ w, cycleView (applyHostWrites u) = { cycleView u with written := w } := by
    obtain ⟨w, hw⟩ := cycleView_foldl_written (fun s h => applyHostWrite h s) (u.cycle.hostWrites.take (cfgHostAllowance u.nsp.inForce))
      u fun s h => ⟨_, cycleView_applyHostWrite h s⟩
    exact ⟨w, by simpa [applyHostWrites] using hw⟩
  obtain ⟨w, hw⟩ := hh ((configuredStations s.nsp.inForce).foldl (fun s n => freezeStation n s) s)
  exact ⟨w, by simpa [exchangeInputs] using hw⟩

@[simp] theorem cycleView_rebuildRegion (s : State) : cycleView (rebuildRegion s) = cycleView s := by
  unfold rebuildRegion
  split <;> simp

/-- The first thing of a cycle that starts at an instant: its start and its phase (R119, R151). -/
def openedCycle (t : Nat) (s : State) : State :=
  { atTime t s with
    cycle.startAt := (atTime t s).network.time.now
    cycle.startTime := timeBase (atTime t s)
    cycle.phase := .xch
    cycle.outputQueued := false
    solver.written := []
    modes.solvedSinceStart := true }

/-- The work of the XCH phase leaves the cycle that it opens, unless a readback comparison breaks it. -/
theorem beginCycle_keepsCycle (t : Nat) (s : State) : KeepsCycle (openedCycle t s) (beginCycle t s) := by
  refine KeepsCycle.trans ?_ (compareReadback_keepsCycle _)
  refine KeepsCycle.trans ?_ (.of_view (cycleView_exchangeInputs _))
  exact .of_view ⟨[], by simp [openedCycle]⟩

theorem beginCycle_spec (t : Nat) (s : State) (h : solving s.modes.mode = true) :
    (beginCycle t s).cycle.startAt = max s.network.time.now t ∧ (beginCycle t s).cycle.counter = s.cycle.counter ∧
    (beginCycle t s).modes.solvedSinceStart = true ∧
    ((beginCycle t s).cycle.phase = .xch ∨ (beginCycle t s).modes.mode = .fault) := by
  have k := beginCycle_keepsCycle t s
  have ho : s.modes.mode ≠ .off := by
    rintro ho
    simp [ho, solving] at h
  exact ⟨k.startAt, k.counter, k.solvedSinceStart, (k.phase ho).imp And.left id⟩

/-! ### End of the XCH phase (R93, R95, R151, R154) -/

/-- A place that starts its next partition changes its lane alone. -/
theorem startNext_places (p : Nat) (s : State) : ∃ m, startNext p s = { s with solver.places := m } := by
  unfold startNext
  dsimp only
  (repeat' split) <;> exact ⟨_, rfl⟩

/-- The start of the places changes the lanes alone (R93). -/
theorem startPlaces_places (s : State) : ∃ m, startPlaces s = { s with solver.places := m } := by
  unfold startPlaces
  generalize placesInPlan s = l
  induction l generalizing s with
  | nil => exact ⟨s.solver.places, rfl⟩
  | cons p l ih =>
    obtain ⟨m, hm⟩ := startNext_places p (modLane p (fun _ => { waiting := runOrder p s }) s)
    obtain ⟨n, hn⟩ := ih (startNext p (modLane p (fun _ => { waiting := runOrder p s }) s))
    rw [List.foldl_cons, hn, hm]
    exact ⟨n, rfl⟩

/-- Without a held request none is ready. -/
theorem heldReady_of_none (s : State) (h : ∀ n, (session n s).held = []) : heldReady s = false := by
  simp [heldReady, h]

/-- The end of the XCH phase with nothing held: the solve phase starts on every place. -/
theorem xchPhaseEnd_spec (s : State) (hp : s.cycle.phase = .xch) (hw : s.hub.waiting = [])
    (hh : ∀ n, (session n s).held = []) :
    ∃ m, execXchPhaseEnd s = .next { s with
      cycle.phase := .solve
      solver.before := []
      diag.disagreed := false
      solver.places := m } := by
  obtain ⟨m, hm⟩ := startPlaces_places { s with
    cycle.phase := .solve
    solver.before := []
    diag.disagreed := false
    solver.places := [] }
  have hr : heldReady (startSolve s) = false := heldReady_of_none _ fun n => by
    rw [startSolve, hm]
    exact hh n
  have hq : (startSolve s).hub.waiting = [] := by
    rw [startSolve, hm]
    exact hw
  refine ⟨m, ?_⟩
  simp only [execXchPhaseEnd, hp, hr, hq, if_true]
  exact congrArg _ hm

/-! ### End of the solve phase and release (R151, R152, R239) -/

/-- Frame of `pumpDoors`. -/
@[simp] theorem pumpDoors_frame (s : State) : (pumpDoors s).solver = s.solver ∧ (pumpDoors s).cycle = s.cycle ∧
    (pumpDoors s).modes = s.modes := by
  have h (k : Nat) (u : State) : (pumpDoor k u).solver = u.solver ∧ (pumpDoor k u).cycle = u.cycle ∧
      (pumpDoor k u).modes = u.modes := by
    unfold pumpDoor
    dsimp only
    (repeat' split) <;> simp
  unfold pumpDoors
  generalize channelsUsed s.nsp.inForce = l
  induction l generalizing s with
  | nil => simp
  | cons k l ih => simp [ih, h]

/-- Frame of `sendValue`. -/
@[simp] theorem sendValue_frame (n : Nat) (s : State) : (sendValue n s).solver = s.solver ∧ (sendValue n s).cycle = s.cycle ∧
    (sendValue n s).modes = s.modes ∧ (sendValue n s).pair = s.pair := by
  unfold sendValue through
  dsimp only
  split <;> simp

@[simp] theorem weftPhase_solver (s : State) : (weftPhase s).solver = s.solver := by
  unfold weftPhase
  dsimp only
  split <;> simp [sendWeft, carryCommits]

theorem cycleView_outputsQueued (out : List OutCommand) (s : State) :
    cycleView (outputsQueued out s) = { cycleView s with outputQueued := true } := rfl

/-- The output phase queues the outputs of the cycle. -/
theorem outputPhase_spec (s : State) : cycleView (outputPhase s) = { cycleView s with outputQueued := true } ∧
    (outputPhase s).solver.writtenLast = s.solver.written.length := by
  have hv : cycleView (postLocal (writeOutputQualities ((List.range 4).foldl outputClass (s, [])).1)) = cycleView s := by simp
  constructor
  · simp only [outputPhase, cycleView_pumpDoors, cycleView_ite, cycleView_weftPhase, ite_self, cycleView_outputsQueued, hv]
  · have hw := congrArg (fun v => v.written.length) hv
    simp only [outputPhase, pumpDoors_frame, apply_ite State.solver, weftPhase_solver, ite_self]
    exact hw
end Sys2Proof.Machine
end

section
/-!
SUPPORT. The boundary that ends a cycle (R15, R67, R97, R151, R153, R226), and what breaks a cycle at a place or at the backstop
(R86, R89, R104, R148, R238).
-/
namespace Sys2Proof.Machine
open Sys2Proof.Safety

/-! ### The boundary (R15, R67, R97, R151, R153, R226) -/

theorem cycleView_closeCycle (s : State) : cycleView (closeCycle s) = { cycleView s with
    modes := { s.modes with firstFlags := 0, edgeFirst := false }
    last := min 1048575 ((s.network.time.now - s.cycle.startAt) / 1000) } := rfl

/-- The states after the records of the ended cycle are closed, with no place running. -/
def recordedCycle (s : State) : State := { historyBoundary (mirrorBoundary (closeCycle s)) with solver.places := [] }

theorem recordedCycle_spec (s : State) : cycleView (recordedCycle s) = { cycleView s with
    modes := { s.modes with firstFlags := 0, edgeFirst := false }
    last := min 1048575 ((s.network.time.now - s.cycle.startAt) / 1000)
    places := [] } := by
  have h : cycleView (historyBoundary (mirrorBoundary (closeCycle s))) = cycleView (closeCycle s) := by simp
  rw [cycleView_closeCycle] at h
  exact congrArg (fun v : CycleView => { v with places := [] }) h

/-- Without a trigger none is taken. -/
theorem takeTriggers_of_none (s : State) (h : s.modes.triggers = []) : takeTriggers s = s := by
  simp [takeTriggers, takenTrigger, h, sortBy]

/-- A takeover that enters CHANGE leaves the record of the cycle, and the module goes on solving (R196). -/
theorem enterChangeAfterTakeover_keeps (s : State) : KeepsRecord s (enterChangeAfterTakeover s) ∧
    (solving s.modes.mode = true → solving (enterChangeAfterTakeover s).modes.mode = true) := by
  unfold enterChangeAfterTakeover
  split
  · exact ⟨⟨by simp, by simp, by simp, by simp, fun h => by simpa using h⟩, fun _ => by simp [solving]⟩
  · exact ⟨.refl s, id⟩

/-- Frame of `leverResponse`: a request of the lever touches no cycle and no mode (R50). -/
theorem leverResponse_frame (s : State) : (leverResponse s).solver = s.solver ∧ (leverResponse s).cycle = s.cycle ∧
    (leverResponse s).modes.mode = s.modes.mode ∧ (leverResponse s).modes.firstFlags = s.modes.firstFlags ∧
    (leverResponse s).modes.edgeFirst = s.modes.edgeFirst := by
  have h (u : State) : (leverAlone u).solver = u.solver ∧ (leverAlone u).cycle = u.cycle ∧
      (leverAlone u).modes.mode = u.modes.mode ∧ (leverAlone u).modes.firstFlags = u.modes.firstFlags ∧
      (leverAlone u).modes.edgeFirst = u.modes.edgeFirst := by
    unfold leverAlone
    split <;> simp
  unfold leverResponse
  dsimp only
  (repeat' split) <;> simp_all [stopCommitting]

theorem leverAfterWait_keeps (s : State) : KeepsRecord s (leverAfterWait s) ∧
    (leverAfterWait s).modes.mode = s.modes.mode := by
  unfold leverAfterWait
  split
  · obtain ⟨hs, hc, hm, h1, h2⟩ := leverResponse_frame { s with front.extractionWaiting := false }
    exact ⟨⟨by rw [hc], by rw [hc], h1, h2, fun h => by rw [hs]; exact h⟩, hm⟩
  · exact ⟨.refl s, rfl⟩

/-- The next cycle follows on the record of the one that has ended, its counter one higher (R151, R153). -/
theorem nextCycle_keeps (s : State) : KeepsRecord { s with cycle.counter := s.cycle.counter + 1 } (nextCycle s) := by
  unfold nextCycle
  dsimp only
  split
  · exact ⟨rfl, rfl, rfl, rfl, id⟩
  · refine .trans ?_ (beginCycle_keepsCycle _ _).toKeepsRecord
    exact ⟨rfl, rfl, rfl, rfl, id⟩

/-- The next cycle follows on a state that looks alike, whatever its bound. -/
theorem nextCycle_keeps_of {s e : State} (n : Nat) (h : cycleView e = cycleView s) :
    KeepsRecord { s with cycle.counter := s.cycle.counter + 1 } (nextCycle { e with cycle.bound := n }) := by
  refine .trans ?_ (nextCycle_keeps _)
  obtain ⟨hc, hl, h1, h2, hp⟩ := (KeepsCycle.of_view_eq h).toKeepsRecord
  exact ⟨congrArg (· + 1) hc, hl, h1, h2, hp⟩

/-- The boundary of a SOLO module without a trigger: the counter rises by one, the cycle's length is kept (R15, R153). -/
theorem boundaryWork_solo (s : State) (hm : s.modes.mode = .solo) (ht : s.modes.triggers = []) :
    (boundaryWork s).cycle.counter = s.cycle.counter + 1 ∧
    (boundaryWork s).cycle.last = min 1048575 ((s.network.time.now - s.cycle.startAt) / 1000) ∧
    (boundaryWork s).solver.places = [] ∧ (boundaryWork s).modes.firstFlags = 0 ∧ (boundaryWork s).modes.edgeFirst = false := by
  have hr := recordedCycle_spec s
  unfold boundaryWork
  extract_lets _ _ r _ _ _ p c d e
  have hrm : r.modes = _ := congrArg CycleView.modes hr
  have hv : cycleView c = cycleView r := by simp [c, p]
  rw [if_neg (by simp [hrm, hm])]
  replace hv := hv.trans hr
  simp only [cycleView, CycleView.mk.injEq] at hv
  obtain ⟨hcm, hcp, -, -, hcc, -, hcl, -, -⟩ := hv
  have hd : d = leverAfterWait (enterChangeAfterTakeover c) := by
    simp only [d, takeTriggers_of_none c (by simp [hcm, ht])]
  obtain ⟨ke, hes⟩ := enterChangeAfterTakeover_keeps c
  obtain ⟨kl, hlm⟩ := leverAfterWait_keeps (enterChangeAfterTakeover c)
  have kd := ke.trans kl
  rw [← hd] at kd hlm
  rw [if_pos (by rw [hlm]; exact hes (by simp [hcm, hm, solving]))]
  have kn := nextCycle_keeps_of (planFigures e).admitted (show cycleView e = cycleView d by simp [e])
  clear_value e d
  refine ⟨?_, ?_, kn.places (kd.places hcp), ?_, ?_⟩
  · exact kn.counter.trans (congrArg (· + 1) (kd.counter.trans hcc))
  · exact kn.last.trans (kd.last.trans hcl)
  · exact kn.firstFlags.trans (kd.firstFlags.trans (by rw [hcm]))
  · exact kn.edgeFirst.trans (kd.edgeFirst.trans (by rw [hcm]))

/-- A refused change command touches neither mode nor cycle nor places (R182, R190). -/
theorem refuseTrigger_frame (t : Trigger) (s : State) : (refuseTrigger t s).modes.mode = s.modes.mode ∧
    (refuseTrigger t s).cycle = s.cycle ∧ (refuseTrigger t s).solver = s.solver := by
  have h (k : ChangeState) : (refuseChange k s).modes = s.modes ∧ (refuseChange k s).cycle = s.cycle ∧
      (refuseChange k s).solver = s.solver := by
    unfold refuseChange setChange
    split <;> simp
  unfold refuseTrigger commandResult abortUpdate
  (repeat' split) <;> simp [h]

theorem refuseTriggers_frame (p : Trigger → Bool) (s : State) : (refuseTriggers p s).modes.mode = s.modes.mode ∧
    (refuseTriggers p s).cycle = s.cycle ∧ (refuseTriggers p s).solver = s.solver := by
  have h (l : List Trigger) : ∀ u : State, (l.foldl (fun s t => refuseTrigger t s) u).modes.mode = u.modes.mode ∧
      (l.foldl (fun s t => refuseTrigger t s) u).cycle = u.cycle ∧
      (l.foldl (fun s t => refuseTrigger t s) u).solver = u.solver := by
    induction l with
    | nil => simp
    | cons t l ih => simp [ih, refuseTrigger_frame]
  exact h _ _

/-- The boundary of the handover cycle, which has no successor on this module (R226 step 3). -/
theorem boundaryWork_handover (s : State) (hm : s.modes.mode = .handover) :
    (boundaryWork s).cycle.counter = s.cycle.counter ∧ (boundaryWork s).cycle.phase = .idle ∧
    (boundaryWork s).solver.places = [] ∧ (boundaryWork s).modes.mode = .handover := by
  have hr := recordedCycle_spec s
  unfold boundaryWork
  extract_lets _ _ r h
  have hrm : r.modes = _ := congrArg CycleView.modes hr
  obtain ⟨hfm, hfc, hfs⟩ := refuseTriggers_frame isChangeCommand r
  have hv : cycleView h = cycleView (refuseTriggers isChangeCommand r) := by simp [h]
  rw [if_pos (by simp [hrm, hm])]
  clear_value h
  simp only [cycleView, CycleView.mk.injEq] at hv
  obtain ⟨hhm, hhp, -, -, hhc, -, -, -, -⟩ := hv
  have hrc : r.cycle.counter = s.cycle.counter := congrArg CycleView.counter hr
  have hrp : r.solver.places = [] := rfl
  refine ⟨?_, rfl, ?_, ?_⟩
  · exact hhc.trans (by rw [hfc, hrc])
  · exact hhp.trans (by rw [hfs, hrp])
  · exact (congrArg Modes.mode hhm).trans (by rw [hfm, hrm, hm])

/-! ### The steps between two boundaries (R93, R151, R152, R175, R239) -/

/-- The solve phase ends with its last place (R93): the output phase follows on the same cycle and queues its output. -/
theorem solvePhaseEnd_done (t : Nat) (s : State) (hp : s.cycle.phase = .solve)
    (hd : ∀ p ∈ s.solver.places, p.2.running = none) : ∃ u, execSolvePhaseEnd t s = .next u ∧
    cycleView u = { cycleView s with phase := .output, outputQueued := true, released := false } ∧
    u.solver.writtenLast = s.solver.written.length := by
  have h : placesDone s = true := by simpa [placesDone] using hd
  have hv := cycleView_ripen { atTime t s with
    cycle.phase := .output
    cycle.released := false }
  obtain ⟨ho, hl⟩ := outputPhase_spec (ripen { atTime t s with
    cycle.phase := .output
    cycle.released := false })
  rw [hv] at ho
  refine ⟨_, by rw [execSolvePhaseEnd, if_pos ⟨hp, h⟩], ho, ?_⟩
  exact hl.trans (congrArg (fun v => v.written.length) hv)

/-- The release of a SOLO module's solved cycle, with nothing owed to a partner (R152, R239). -/
theorem cycleRelease_solo (t : Nat) (s : State) (hs : s.modes.solvedSinceStart = true) (hm : s.modes.mode = .solo)
    (hr : s.cycle.released = false) (hd : s.diag.disagreed = false) (hp : s.cycle.phase = .output)
    (he : s.diag.streams = []) (hb : s.pair.boundaryDue = false) :
    execCycleRelease t s = .next (pumpDoors (pumpPorts (sendValue 18 { atTime t s with
      cycle.released := true
      cycle.releasedCycle := some s.cycle.counter }))) := by
  have hc : solvedCycle (atTime t s) = s.cycle.counter := by simp [solvedCycle, hp]
  have hn (u : State) (h : u.pair.boundaryDue = false) :
      (sendValue 18 u).pair.boundaryDue = false := by simpa using h
  rw [execCycleRelease, if_pos (by simp [hs, hm, hr, hd, hp, he])]
  dsimp only
  rw [hc, hn _ (by simpa using hb), if_neg Bool.false_ne_true]

/-- The boundary of a cycle whose output is queued and for which nothing is awaited is taken up to its bound (R175). -/
theorem cycleBoundary_complete (t : Nat) (s : State) (hp : s.cycle.phase = .output) (hq : s.cycle.outputQueued = true)
    (hw : s.pair.weftOpen = false) (hr : s.solver.rejoinTests = []) : execCycleBoundary t [] s = .next
      (if max s.network.time.now t ≤ cycleLimit s then boundaryWork (atTime t s) else s) := by
  have h : cycleComplete s = true := by simp [cycleComplete, hp, hq, hw, hr]
  simp only [execCycleBoundary, List.foldl_nil, h, true_and, atTime_now]
  split <;> rfl

/-- A waiting cycle starts with the end of the minimum cycle time, and not before it (R151). -/
theorem minimumCycleWaitEnd_waiting (s : State) (t : Nat) (hp : s.cycle.phase = .waiting) (hs : solving s.modes.mode = true) :
    exec (.minimumCycleWaitEnd t) s = .next
      (if s.cycle.startAt + 1000 * cfgMinimumCycle s.nsp.inForce ≤ max s.network.time.now t then beginCycle t s else s) := by
  have h : exec (.minimumCycleWaitEnd t) s = execMinimumCycleWaitEnd t s := rfl
  rw [h]
  simp only [execMinimumCycleWaitEnd, hp, hs, atTime_now, true_and]
  split <;> rfl

/-! ### What breaks a cycle at a place (R86, R88, R89, R104, R148) -/

/-- A break of a joined tandem is FAULT 0x1102 with place and address as detail. -/
theorem breakAt_tandem (p : Nat) (s : State) (hp : p < 16) (ho : s.modes.mode ≠ .off) (hf : s.modes.mode ≠ .fault) :
    (breakAt p s).modes.mode = .fault ∧ (breakAt p s).modes.cause = 0x1102 ∧
    (breakAt p s).diag.detail = p * 2 ^ 24 + (laneAt p s).pc.toNat := by
  rw [breakAt, show isTandem p = true by simpa [isTandem] using hp, if_pos rfl]
  obtain ⟨hm, hc, hd, -⟩ := enterFault_first 0x1102 (p * 2 ^ 24 + (laneAt p s).pc.toNat) s ho hf
  exact ⟨hm, hc, hd⟩

/-- A break elsewhere is a solo fault: the module goes on without the lane. -/
theorem breakAt_solo (p : Nat) (s : State) (hp : 16 ≤ p) :
    (breakAt p s).modes = s.modes ∧ (breakAt p s).solver.store = s.solver.store ∧
    (breakAt p s).solver.failedLanes = s.solver.failedLanes ||| (1#32 <<< (p - 16)) := by
  rw [breakAt, show isTandem p = false by simpa [isTandem] using hp, if_neg Bool.false_ne_true]
  obtain ⟨hm, hs, -, -, hl, -⟩ := soloFault_spec (p - 16) s
  exact ⟨hm, hs, hl⟩

/-- An illegal encoding breaks at its place. -/
theorem illegalEncodingFetch_intact (p : Place) (s : State) (h : laneRuns p.val s = true) (hi : linesIntact p.val [] s) :
    execIllegalEncodingFetch p s = .next (breakAt p.val s) :=
  runAt_intact p _ s h hi

/-- The path watchdog breaks where the running partition's path is longer than admitted, and only there. -/
theorem pathWatchdogExpiry_intact (p : Place) (s : State) (h : laneRuns p.val s = true) (hi : linesIntact p.val [] s) :
    execPathWatchdogExpiry p s = .next
      (if mapVal 0 ((laneAt p.val s).running.getD 0) (admitted s).paths < (laneAt p.val s).path then breakAt p.val s else s) :=
  runAt_intact p _ s h hi

/-! ### Signatures and the backstop (R85, R86, R237–R239) -/

/-- A window whose signatures agree passes: its posts may be latched, mode and store stay. -/
theorem closeWindow_equal (t : Nat) (s : State) (h : (laneAt t s).sigLead = (laneAt t s).sigTrail)
    (hr : (laneAt t s).running.isSome = true) : (closeWindow t s).modes = s.modes ∧
    (closeWindow t s).solver.store = s.solver.store ∧ (laneAt t (closeWindow t s)).window = (laneAt t s).window := by
  simp only [closeWindow, h, if_true]
  refine ⟨rfl, rfl, ?_⟩
  rw [laneAt_modLane_running _ _ _ hr]
  rfl

/-- A window whose signatures differ is FAULT 0x1101 with the tandem as detail. -/
theorem closeWindow_unequal (t : Nat) (s : State) (h : (laneAt t s).sigLead ≠ (laneAt t s).sigTrail)
    (ho : s.modes.mode ≠ .off) (hf : s.modes.mode ≠ .fault) : (closeWindow t s).modes.mode = .fault ∧
    (closeWindow t s).modes.cause = 0x1101 ∧ (closeWindow t s).diag.detail = t := by
  simp only [closeWindow, h, if_false]
  obtain ⟨hm, hc, hd, -⟩ := enterFault_first 0x1101 t (pushSnapshot t (laneAt t s).sigLead (laneAt t s).sigTrail s) ho hf
  exact ⟨hm, hc, hd⟩

/-- The state at the end of a tandem's signature window, its trailing signature off by `d`. -/
def windowEnded (t : Nat) (d : BitVec 32) (s : State) : State :=
  modLane t (fun l => { l with
    sigTrail := l.sigTrail ^^^ d
    window := l.window - 1024 }) s

/-- A joined tandem's window of 1,024 solver cycles ends: its signatures are compared. -/
theorem signatureWindowEnd_joined (k : Fin 16) (d : BitVec 32) (s : State) (hp : s.cycle.phase = .solve)
    (hj : planStateOf k.val s = .joined) (hl : laneRuns k.val s = true) (hs : streamFree k.val s)
    (hw : 1024 ≤ (laneAt k.val s).window) :
    execSignatureWindowEnd k d s = .next (closeWindow k.val (windowEnded k.val d s)) := by
  have hs' : streamFull k.val s = false := hs
  simp [execSignatureWindowEnd, windowEnded, hp, hj, hl, hs', hw]

/-- A FAULT leaves it as it is that a pair of snapshots has disagreed (R239). -/
theorem enterFault_disagreed (c d : Nat) (s : State) : (enterFault c d s).diag.disagreed = s.diag.disagreed := by
  unfold enterFault
  (repeat' split) <;> simp [latchCause, stopSolver]

/-- The state after the backstop has taken the oldest pair of a tandem's stream. -/
def pairTaken (t : Nat) (rest : List Snapshot) (lag : Nat) (s : State) : State :=
  { s with
    diag.streams := mapPut [] t rest s.diag.streams
    diag.verdicts := mapMod [] t (·.drop 1) s.diag.verdicts
    diag.windows := s.diag.windows + 1
    diag.lagPeak := max s.diag.lagPeak lag }

/-- The backstop compares the oldest pair of a stream for which the tandem's comparator has found no difference: an equal pair is
only counted, an unequal one is FAULT 0x1105 and withholds the release (R238, R239). -/
theorem snapshotPairCompare_eq (k : Fin 16) (lag : Nat) (s : State) (q : Snapshot) (r : List Snapshot)
    (hq : mapVal [] k.val s.diag.streams = q :: r) (hv : mapVal [] k.val s.diag.verdicts = []) :
    execSnapshotPairCompare k false lag s = .next
      (if q.lead = q.trail then pairTaken k.val r lag s
      else enterFault 0x1105 k.val { pairTaken k.val r lag s with diag.disagreed := true }) := by
  by_cases he : q.lead = q.trail
  · simp [execSnapshotPairCompare, hq, hv, he, pairTaken]
  · cases hi : q.inSolve <;> simp [execSnapshotPairCompare, hq, hv, he, hi, pairTaken]

/-- A stream that stops while its tandem solves is FAULT 0x1106 with the tandem as detail. -/
theorem snapshotStreamLost_joined (k : Fin 16) (s : State) (hp : s.cycle.phase = .solve)
    (hj : planStateOf k.val s = .joined) (hl : laneRuns k.val s = true) :
    execSnapshotStreamLost k s = .next (enterFault 0x1106 k.val { s with diag.disagreed := true }) := by
  simp [execSnapshotStreamLost, hp, hj, hl]

/-- The bound of a cycle passes before its solve phase has ended: FAULT 0x1201 (R175). -/
theorem cycleWatchdogExpiry_early (s : State) (h : s.cycle.phase = .xch ∨ s.cycle.phase = .solve) :
    execCycleWatchdogExpiry s = .next (enterFault 0x1201 s.solver.plan (atTime (cycleLimit s) s)) := by
  rcases h with h | h <;> simp [execCycleWatchdogExpiry, h]

end Sys2Proof.Machine
end

section
namespace Sys2Proof.Proofs
open Sys2Proof.Machine Sys2Proof.Safety

/-- Settles O17: each clause is what the step of its phase, or the FAULT it leads to, is known to do. -/
theorem cycleRunsAndFails : Obligations.CycleRunsAndFails := by
  unfold Obligations.CycleRunsAndFails
  refine ⟨fun s t => ⟨?_, ?_, ?_, ?_, ?_, ?_⟩, fun s => ⟨?_, ?_, ?_, ?_, ?_, ?_⟩⟩
  · intro hp hs hlt
    rw [minimumCycleWaitEnd_waiting s t hp hs, if_neg (by omega)]
  · intro hp hs hle
    rw [minimumCycleWaitEnd_waiting s t hp hs, if_pos hle]
    exact ⟨_, rfl, beginCycle_spec t s hs⟩
  · intro hp hw hh
    obtain ⟨m, hm⟩ := xchPhaseEnd_spec s hp hw hh
    exact ⟨_, hm, rfl, rfl, rfl, rfl, rfl, rfl⟩
  · intro hp hd
    obtain ⟨u, hu, hv, hw⟩ := solvePhaseEnd_done t s hp hd
    simp only [cycleView, CycleView.mk.injEq] at hv
    obtain ⟨hm, -, -, hph, hc, -, -, hq, hr⟩ := hv
    exact ⟨u, hu, hph, hq, hr, hc, hw, hm⟩
  · intro hs hm hr hd hp he hb
    refine ⟨_, cycleRelease_solo t s hs hm hr hd hp he hb, ?_⟩
    simp
  · intro hp hq hw hr
    have h : exec (.cycleBoundary t []) s = _ := cycleBoundary_complete t s hp hq hw hr
    refine ⟨fun hlt => ?_, fun hle hm ht => ?_, fun hle hm => ?_⟩
    · rw [h, if_neg (by omega)]
    · exact ⟨_, h.trans (by rw [if_pos hle]), atTime_now t s ▸ boundaryWork_solo (atTime t s) hm ht⟩
    · exact ⟨_, h.trans (by rw [if_pos hle]), boundaryWork_handover (atTime t s) hm⟩
  · intro hp ho hf
    obtain ⟨hm, hc, hd, -, -, hi, -, -, -, he, -⟩ :=
      enterFault_first 0x1201 s.solver.plan (atTime (cycleLimit s) s) (by simpa using ho) (by simpa using hf)
    exact ⟨_, cycleWatchdogExpiry_early s hp, hm, hc, hd, he, hi⟩
  · intro p hr hi ho hf hp
    obtain ⟨hm, hc, hd⟩ := breakAt_tandem p.val s hp ho hf
    refine ⟨⟨_, illegalEncodingFetch_intact p s hr hi, hm, hc, hd⟩, fun hle => ?_, fun hlt => ?_⟩
    · exact (pathWatchdogExpiry_intact p s hr hi).trans (by rw [if_neg (by omega)])
    · exact ⟨_, (pathWatchdogExpiry_intact p s hr hi).trans (by rw [if_pos hlt]), hm, hc⟩
  · intro p hr hi hp hlt
    have hb := breakAt_solo p.val s hp
    exact ⟨⟨_, (pathWatchdogExpiry_intact p s hr hi).trans (by rw [if_pos hlt]), hb⟩,
      ⟨_, illegalEncodingFetch_intact p s hr hi, hb⟩⟩
  · intro k d hp hj hl hs hw he
    have hr := running_of_laneRuns hl
    have hk (d : BitVec 32) : laneAt k.val (windowEnded k.val d s) = _ := laneAt_modLane_running k.val _ s hr
    refine ⟨?_, fun hd ho hf => ?_⟩
    · obtain ⟨hm, hst, hwi⟩ := closeWindow_equal k.val (windowEnded k.val 0 s) (by rw [hk 0]; simpa using he) (by rw [hk 0]; exact hr)
      exact ⟨_, signatureWindowEnd_joined k 0 s hp hj hl hs hw, hm, by rw [hwi, hk 0], hst⟩
    · have hx : (laneAt k.val (windowEnded k.val d s)).sigLead ≠ (laneAt k.val (windowEnded k.val d s)).sigTrail := by
        rw [hk d]
        exact fun h =>
          hd ((BitVec.xor_right_inj _).mp ((h.symm.trans he).trans BitVec.xor_zero.symm))
      obtain ⟨hm, hc, hdt⟩ := closeWindow_unequal k.val (windowEnded k.val d s) hx ho hf
      exact ⟨_, signatureWindowEnd_joined k d s hp hj hl hs hw, hm, hc, hdt⟩
  · intro k q r lag hq hv
    have h := snapshotPairCompare_eq k lag s q r hq hv
    refine ⟨fun he => ⟨pairTaken k.val r lag s, h.trans (by rw [if_pos he]), rfl, rfl, rfl, rfl⟩, fun he ho hf => ?_⟩
    obtain ⟨hm, hc, -⟩ := enterFault_first 0x1105 k.val { pairTaken k.val r lag s with diag.disagreed := true } ho hf
    exact ⟨enterFault 0x1105 k.val { pairTaken k.val r lag s with diag.disagreed := true }, h.trans (by rw [if_neg he]), hm, hc,
      enterFault_disagreed _ _ _⟩
  · intro k hp hj hl ho hf
    obtain ⟨hm, hc, hd, -⟩ := enterFault_first 0x1106 k.val { s with diag.disagreed := true } ho hf
    exact ⟨_, snapshotStreamLost_joined k s hp hj hl, hm, hc, hd⟩

end Sys2Proof.Proofs
end

section
/-!
SUPPORT. What the commands of an online change do to the program banks, the flash slots, the change state and the waiting triggers
(R70, R121, R177–R182, R190, R193).
-/
namespace Sys2Proof.Machine

/-! ### Change state, banks, slots and triggers -/

/-- After a change of state the new one is in force, and nothing else of the change has moved (R177). -/
@[simp] theorem setChange_change (k : ChangeState) (s : State) : (setChange k s).change = { s.change with state := k } := by
  unfold setChange
  split
  next h => rw [← h]
  next => simp

/-- Frame of `setChange`. -/
@[simp] theorem setChange_frame (k : ChangeState) (s : State) : (setChange k s).modes = s.modes ∧
    (setChange k s).solver = s.solver ∧ (setChange k s).cycle = s.cycle ∧ (setChange k s).pair = s.pair ∧
    (setChange k s).alarms = s.alarms := by
  unfold setChange
  split <;> simp

/-- States with the same solver have the same active image. -/
theorem activeImage_congr {s t : State} (h : t.solver = s.solver) : activeImage t = activeImage s := by simp only [activeImage, h]

/-- States with the same solver have the same image in the shadow bank. -/
theorem shadowImage_congr {s t : State} (h : t.solver = s.solver) : shadowImage t = shadowImage s := by simp only [shadowImage, h]

/-- Frame of `setShadow`. -/
@[simp] theorem setShadow_frame (i : Option Image) (a : Admitted) (s : State) : (setShadow i a s).modes = s.modes ∧
    (setShadow i a s).solver.store = s.solver.store ∧ (setShadow i a s).cycle.report = s.cycle.report ∧
    (setShadow i a s).change = s.change ∧ (setShadow i a s).pair = s.pair := by
  unfold setShadow
  split <;> simp

@[simp] theorem activeImage_setShadow (i : Option Image) (a : Admitted) (s : State) :
    activeImage (setShadow i a s) = activeImage s := by
  by_cases h : s.solver.activeBank = 0 <;> simp [setShadow, activeImage, h]

@[simp] theorem shadowImage_setShadow (i : Option Image) (a : Admitted) (s : State) : shadowImage (setShadow i a s) = i := by
  by_cases h : s.solver.activeBank = 0 <;> simp [setShadow, shadowImage, h]

/-- Frame of `setFlash`. -/
@[simp] theorem setFlash_frame (k : Fin 2) (i : Option Image) (s : State) : (setFlash k i s).modes = s.modes ∧
    (setFlash k i s).solver = s.solver ∧ (setFlash k i s).cycle = s.cycle ∧
    (setFlash k i s).change.state = s.change.state ∧ (setFlash k i s).change.storedSlot = s.change.storedSlot ∧
    (setFlash k i s).change.loadingImage = s.change.loadingImage := by
  unfold setFlash
  split <;> simp

theorem flashSlot_setFlash_same (k : Fin 2) (i : Option Image) (s : State) : flashSlot k (setFlash k i s) = i := by
  by_cases h : k = 0 <;> simp [setFlash, flashSlot, h]

theorem flashSlot_setFlash_ne {j k : Fin 2} (h : j ≠ k) (i : Option Image) (s : State) :
    flashSlot j (setFlash k i s) = flashSlot j s := by
  by_cases hk : k = 0
  · have hj : j ≠ 0 := hk ▸ h
    simp [setFlash, flashSlot, hk, hj]
  · have hj : j = 0 := by omega
    simp [setFlash, flashSlot, hk, hj]

/-- The slot of the stored program is not the one that a change goes to (R178). -/
theorem storedSlot_ne_otherSlot (s : State) : s.change.storedSlot ≠ otherSlot s := by
  unfold otherSlot
  split <;> omega

/-- A trigger that was added waits (R70). -/
theorem mem_addTrigger (t : Trigger) (s : State) : t ∈ (addTrigger t s).modes.triggers := by
  unfold addTrigger
  split
  · assumption
  · simp

/-- Frame of `addTrigger`. -/
@[simp] theorem addTrigger_frame (t : Trigger) (s : State) : (addTrigger t s).modes.mode = s.modes.mode ∧
    (addTrigger t s).solver = s.solver ∧ (addTrigger t s).change = s.change := by
  unfold addTrigger
  split <;> simp

/-! ### What the shadow bank and its slot hold (R178, R179) -/

/-- `t` is `s` with `i` in the shadow bank and in the slot without the stored program: the running program, the stored one, the data
store and the sequencer are as they were. -/
structure HoldsChange (i : Option Image) (s t : State) : Prop where
  active : activeImage t = activeImage s
  shadow : shadowImage t = i
  other : flashSlot (otherSlot s) t = i
  stored : flashSlot s.change.storedSlot t = flashSlot s.change.storedSlot s
  storedSlot : t.change.storedSlot = s.change.storedSlot
  store : t.solver.store = s.solver.store
  modes : t.modes = s.modes

/-- What touches neither solver, slots nor sequencer keeps the held change. -/
theorem HoldsChange.congr {i : Option Image} {s t u : State} (h : HoldsChange i s t) (hs : u.solver = t.solver)
    (h0 : u.change.slot0 = t.change.slot0) (h1 : u.change.slot1 = t.change.slot1)
    (hk : u.change.storedSlot = t.change.storedSlot) (hm : u.modes = t.modes) : HoldsChange i s u := by
  have hf (k : Fin 2) : flashSlot k u = flashSlot k t := by simp only [flashSlot, h0, h1]
  exact {
    active := (activeImage_congr hs).trans h.active
    shadow := (shadowImage_congr hs).trans h.shadow
    other := (hf _).trans h.other
    stored := (hf _).trans h.stored
    storedSlot := hk.trans h.storedSlot
    store := (congrArg Solver.store hs).trans h.store
    modes := hm.trans h.modes }

/-- A change that takes the place of another. -/
theorem HoldsChange.trans {i j : Option Image} {s t u : State} (h : HoldsChange i s t) (h' : HoldsChange j t u) :
    HoldsChange j s u where
  active := h'.active.trans h.active
  shadow := h'.shadow
  other := by simpa only [otherSlot, h.storedSlot] using h'.other
  stored := by simpa only [h.storedSlot, h.stored] using h'.stored
  storedSlot := h'.storedSlot.trans h.storedSlot
  store := h'.store.trans h.store
  modes := h'.modes.trans h.modes

/-- An image written to the slot and to the shadow bank is the held change. -/
theorem holdsChange_put (i : Option Image) (a : Admitted) (s : State) :
    HoldsChange i s (setShadow i a (setFlash (otherSlot s) i s)) where
  active := by simpa using activeImage_congr (by simp)
  shadow := by simp
  other := by simpa [flashSlot] using flashSlot_setFlash_same (otherSlot s) i s
  stored := by simpa [flashSlot] using flashSlot_setFlash_ne (storedSlot_ne_otherSlot s) i s
  storedSlot := by simp
  store := by simp
  modes := by simp

/-- A dropped change leaves bank and slot empty. -/
theorem dropChange_holds (s : State) : HoldsChange none s (dropChange s) :=
  (holdsChange_put none {} s).congr (by simp [dropChange]) (by simp [dropChange]) (by simp [dropChange]) (by simp [dropChange])
    (by simp [dropChange])

/-- Dropping a change leaves the report of the latest admission. -/
@[simp] theorem dropChange_report (s : State) : (dropChange s).cycle.report = s.cycle.report := by simp [dropChange]

/-- A change of state keeps the held change. -/
theorem HoldsChange.setChange {i : Option Image} {s t : State} (h : HoldsChange i s t) (k : ChangeState) :
    HoldsChange i s (setChange k t) :=
  h.congr (by simp) (by simp) (by simp) (by simp) (by simp)

/-- Replies to waiting sessions keep the held change. -/
theorem HoldsChange.completeReplies {i : Option Image} {s t : State} (h : HoldsChange i s t) (index sub status : Nat) :
    HoldsChange i s (completeReplies index sub status t) :=
  h.congr (by simp) (by simp) (by simp) (by simp) (by simp)

/-! ### The image write (R178, R179) -/

theorem exec_changeImageWrite (i : Image) (s : State) : exec (.changeImageWrite i) s = .next (loadChange i s) := rfl

/-- The modes and change states that take an image. -/
theorem acceptsChange_iff (s : State) : acceptsChange s = true ↔ (s.modes.mode = .active ∨ s.modes.mode = .solo) ∧
    (s.change.state = .empty ∨ s.change.state = .refused ∨ s.change.state = .loaded ∨ s.change.state = .ready) := by
  cases h : s.change.state <;> simp [acceptsChange, h]

theorem loadChange_refused (i : Image) (s : State) (h : acceptsChange s = false) :
    loadChange i s = { s with change.result := 2 } := by
  simp [loadChange, h, changeResult]

/-- An accepted image is being loaded, in the shadow bank and the slot without the stored program. -/
theorem loadChange_accepted (i : Image) (s : State) (h : acceptsChange s = true) : (loadChange i s).change.state = .loading ∧
    (loadChange i s).change.loadingImage = some i ∧ HoldsChange (some i) s (loadChange i s) := by
  have hd : HoldsChange none s { dropChange s with change.loadingImage := some i, hub.transitLost := false } :=
    (dropChange_holds s).congr rfl rfl rfl rfl rfl
  rw [loadChange, if_pos h]
  exact ⟨by simp, by simp, (hd.trans (holdsChange_put (some i) {} _)).setChange .loading⟩

/-! ### The end of the load (R178, R180, R181, R261) -/

/-- The state in which an admission has judged the loading image `i`. -/
def judgedLoad (i : Image) (s : State) : State := { s with cycle.report := (admitChange i s).1, change.loadingImage := none }

/-- Frame of `judgedLoad`. -/
@[simp] theorem judgedLoad_frame (i : Image) (s : State) : (judgedLoad i s).modes = s.modes ∧ (judgedLoad i s).pair = s.pair ∧
    (judgedLoad i s).cycle.report = (admitChange i s).1 := ⟨rfl, rfl, rfl⟩

/-- The end of a load as its two outcomes. -/
theorem exec_changeLoadDone (i : Image) (s : State) (hs : s.change.state = .loading) (hi : s.change.loadingImage = some i) :
    exec .changeLoadDone s =
      if (admitChange i s).1.refused || imageLost s then
        .next (completeReplies 0x2040 0x01 0x08 (setChange .refused (dropChange (judgedLoad i s))))
      else .next (completeReplies 0x2040 0x01 0x00
        (offerChange i (setChange .loaded (holdChange i (admitChange i s).2 (judgedLoad i s))))) := by
  change execChangeLoadDone s = _
  unfold execChangeLoadDone
  split
  next j _ hj =>
    obtain rfl : i = j := Option.some.inj (hi.symm.trans hj)
    rfl
  next h => exact absurd hi (h i hs)

/-- A refused image leaves bank and slot empty; the report stands. -/
theorem loadRefused_spec (i : Image) (s : State) :
    let t := completeReplies 0x2040 0x01 0x08 (setChange .refused (dropChange (judgedLoad i s)))
    t.change.state = .refused ∧ t.cycle.report = (admitChange i s).1 ∧ HoldsChange none (judgedLoad i s) t :=
  ⟨by simp, by simp, ((dropChange_holds _).setChange .refused).completeReplies ..⟩

/-- An admitted image stands in the shadow bank beside the running program. -/
theorem holdChange_spec (i : Image) (a : Admitted) (s : State) : (holdChange i a s).modes = s.modes ∧
    (holdChange i a s).pair = s.pair ∧ activeImage (holdChange i a s) = activeImage s ∧ shadowImage (holdChange i a s) = some i := by
  have ha : activeImage { s with cycle.latest := a } = activeImage s := rfl
  unfold holdChange
  dsimp only
  split
  · exact ⟨by simp, by simp, (activeImage_congr rfl).trans ((activeImage_setShadow ..).trans ha),
      (shadowImage_congr rfl).trans (shadowImage_setShadow ..)⟩
  · simp [ha]

/-- What follows an admitted image touches neither bank. -/
theorem offerChange_solver (i : Image) (s : State) : (offerChange i s).solver = s.solver := by
  unfold offerChange readyIfSolo
  (repeat' split) <;> simp

/-- With a partner in STANDBY the image is on its way to it. -/
theorem offerChange_standby (i : Image) (s : State) (h : s.pair.partner.mode = some 4) :
    (offerChange i s).change = { s.change with standby := 1 } := by
  simp [offerChange, h]

/-- In SOLO without a partner in STANDBY a loaded change is ready. -/
theorem offerChange_solo (i : Image) (s : State) (h : s.pair.partner.mode ≠ some 4) (hl : s.change.state = .loaded)
    (hm : s.modes.mode = .solo) : (offerChange i s).change.state = .ready := by
  simp [offerChange, readyIfSolo, h, hl, hm]

/-- An admitted image stays in the shadow bank: LOADED while a partner is in STANDBY, READY in SOLO without one. -/
theorem loadAdmitted_spec (i : Image) (a : Admitted) (s : State) :
    let t := completeReplies 0x2040 0x01 0x00 (offerChange i (setChange .loaded (holdChange i a (judgedLoad i s))))
    activeImage t = activeImage s ∧ shadowImage t = some i ∧
      (s.pair.partner.mode = some 4 → t.change.state = .loaded ∧ t.change.standby = 1) ∧
      (s.pair.partner.mode ≠ some 4 → s.modes.mode = .solo → t.change.state = .ready) := by
  obtain ⟨hm, hp, ha, hsh⟩ := holdChange_spec i a (judgedLoad i s)
  have hs : (completeReplies 0x2040 0x01 0x00 (offerChange i (setChange .loaded (holdChange i a (judgedLoad i s))))).solver =
      (holdChange i a (judgedLoad i s)).solver := by simp [offerChange_solver]
  have hq : (setChange .loaded (holdChange i a (judgedLoad i s))).pair = s.pair := by simp [hp]
  refine ⟨(activeImage_congr hs).trans ha, (shadowImage_congr hs).trans hsh, fun h => ?_, fun h hsolo => ?_⟩
  · simp [offerChange_standby i _ (hq ▸ h)]
  · simpa using offerChange_solo i _ (hq ▸ h) (by simp) (by simpa [hm] using hsolo)

/-! ### The standby's report and a discard (R179, R181) -/

theorem exec_standbyChangeResult (n : BitVec 32) (b : Bool) (s : State) :
    exec (.standbyChangeResult n b) s = .next (standbyChangeResult n b s) := rfl

/-- A report about another image has no effect. -/
theorem standbyChangeResult_other {s : State} {n : BitVec 32} (h : n ≠ shadowId s) (b : Bool) : standbyChangeResult n b s = s := by
  simp [standbyChangeResult, h]

/-- The standby has admitted the image: the change is ready and its alarm clear. -/
theorem standbyChangeResult_admitted {s : State} (hs : s.change.state = .loaded) (hm : solving s.modes.mode = true) :
    let t := standbyChangeResult (shadowId s) true s
    t.change.state = .ready ∧ t.change.standby = 2 ∧ (.standbyChangeRefused, 0) ∉ t.alarms := by
  simp [standbyChangeResult, hs, hm]

/-- The standby has refused the image: the change stays LOADED and the alarm stands. -/
theorem standbyChangeResult_refused {s : State} (hs : s.change.state = .loaded) (hm : solving s.modes.mode = true) :
    let t := standbyChangeResult (shadowId s) false s
    t.change.state = .loaded ∧ t.change.standby = 3 ∧ (.standbyChangeRefused, 0) ∈ t.alarms := by
  simp [standbyChangeResult, hs, hm]
  split <;> simp_all

theorem exec_changeDiscard_one (s : State) : exec (.changeDiscard 1) s = .next (commandDiscard s) := rfl

/-- A discard of a loaded change leaves none. -/
theorem commandDiscard_accepted (s : State) (h : s.change.state = .loaded ∨ s.change.state = .ready) :
    (commandDiscard s).change.state = .empty ∧ (commandDiscard s).change.result = 0 ∧ HoldsChange none s (commandDiscard s) := by
  have he : commandDiscard s = setChange .empty (changeResult 0 (dropChange s)) := by
    rcases h with h | h <;> simp [commandDiscard, h]
  have hd : HoldsChange none s (changeResult 0 (dropChange s)) := (dropChange_holds s).congr rfl rfl rfl rfl rfl
  rw [he]
  exact ⟨by simp, by simp [changeResult], hd.setChange .empty⟩

theorem commandDiscard_refused (s : State) (h1 : s.change.state ≠ .loaded) (h2 : s.change.state ≠ .ready) :
    commandDiscard s = { s with change.result := 2 } := by
  cases h : s.change.state <;> simp_all [commandDiscard, changeResult]

/-! ### Confirm, undo and the deadline (R190, R193) -/

theorem exec_confirmCommand (s : State) : exec .confirmCommand s = .next (commandEnd .confirmPending .changeConfirm s) := rfl

theorem exec_undoCommand (s : State) : exec .undoCommand s = .next (commandEnd .undoPending .changeUndo s) := rfl

theorem exec_confirmationDeadline (s : State) : exec .confirmationDeadline s =
    .next (if s.change.state = .switched ∧ setConfirmationDeadline s.nsp.settings ≠ 0 then
      commandEnd .undoPending .changeUndo s else s) := rfl

/-- The first command in SWITCHED waits for its boundary. -/
theorem commandEnd_switched (k : ChangeState) (t : Trigger) (s : State) (h : s.change.state = .switched) :
    let u := commandEnd k t s
    u.change.state = k ∧ u.change.result = 1 ∧ u.change.ripe = false ∧ t ∈ u.modes.triggers ∧ u.solver = s.solver ∧
      u.modes.mode = s.modes.mode := by
  simp [commandEnd, h, changeResult, mem_addTrigger]

theorem commandEnd_refused (k : ChangeState) (t : Trigger) (s : State) (h : s.change.state ≠ .switched) :
    commandEnd k t s = { s with change.result := 2 } := by
  simp [commandEnd, h, changeResult]

end Sys2Proof.Machine
end

section
namespace Sys2Proof.Proofs
open Sys2Proof.Machine Sys2Proof.Safety

/-- Settles O30: an accepted write, a refused load and a discard each put one thing into the shadow bank and the slot without the
stored program, which `HoldsChange` says; the commands that end a change are `commandEnd`. -/
theorem onlineChange : Obligations.OnlineChange := by
  unfold Obligations.OnlineChange
  refine ⟨fun s i => ⟨fun hm hc => ?_, fun hc => ?_, fun hs hi => ⟨fun hr => ?_, fun hr hl => ?_⟩, fun hs hm => ?_, fun hc => ?_⟩,
    fun s => ⟨fun hs => ⟨?_, ?_, fun hd => ?_, fun hd => ?_⟩, fun hs => ⟨?_, ?_, ?_⟩⟩⟩
  · obtain ⟨hst, hli, h⟩ := loadChange_accepted i s ((acceptsChange_iff s).2 ⟨hm, hc⟩)
    exact ⟨_, exec_changeImageWrite i s, hst, hli, h.other, h.stored, h.active, h.shadow, h.store, h.modes⟩
  · have ha : acceptsChange s = false := by
      rw [Bool.eq_false_iff, Ne, acceptsChange_iff]
      rcases hc with h | h | h | h <;> simp [h]
    rw [exec_changeImageWrite, loadChange_refused i s ha, exec_changeDiscard_one,
      commandDiscard_refused s (by rcases hc with h | h | h | h <;> simp [h]) (by rcases hc with h | h | h | h <;> simp [h])]
    exact ⟨rfl, rfl⟩
  · obtain ⟨hst, hrep, h⟩ := loadRefused_spec i s
    exact ⟨_, (exec_changeLoadDone i s hs hi).trans (if_pos (by simpa using hr)), hst, h.shadow, h.other, h.active, hrep⟩
  · obtain ⟨ha, hsh, hstandby, hsolo⟩ := loadAdmitted_spec i (admitChange i s).2 s
    have he := (exec_changeLoadDone i s hs hi).trans (if_neg (by simp [hr, hl]))
    refine ⟨fun hp => ?_, fun hp hm => ⟨_, he, hsolo hp hm, hsh, ha⟩⟩
    obtain ⟨hst, hsb⟩ := hstandby hp
    exact ⟨_, he, hst, hsh, hsb, ha⟩
  · have hv : solving s.modes.mode = true := by rw [hm]; rfl
    exact ⟨⟨_, exec_standbyChangeResult .., standbyChangeResult_admitted hs hv⟩,
      ⟨_, exec_standbyChangeResult .., standbyChangeResult_refused hs hv⟩,
      fun n b hn => by rw [exec_standbyChangeResult, standbyChangeResult_other hn]⟩
  · obtain ⟨hst, hres, h⟩ := commandDiscard_accepted s hc
    exact ⟨_, exec_changeDiscard_one s, hst, hres, h.shadow, h.other, h.stored, h.active, h.store⟩
  · exact ⟨_, exec_confirmCommand s, commandEnd_switched _ _ s hs⟩
  · exact ⟨_, exec_undoCommand s, commandEnd_switched _ _ s hs⟩
  · rw [exec_confirmationDeadline, if_pos ⟨hs, hd⟩, exec_undoCommand]
  · rw [exec_confirmationDeadline, if_neg (fun h => h.2 hd)]
  · rw [exec_confirmCommand, commandEnd_refused _ _ s hs]
  · rw [exec_undoCommand, commandEnd_refused _ _ s hs]
  · rw [exec_confirmationDeadline, if_neg (fun h => hs h.1)]

end Sys2Proof.Proofs
end
